-- ==== Sys2Proof/Word.lean ====
section
/-! DEFINITION. The byte of the links and the sensor bus, and the plainest arithmetic terms of 0.7. -/

namespace Sys2Proof

/-- One byte of a frame (R168) or of a sensor reply (R87). -/
abbrev Byte := BitVec 8

/-- `clamp(x, lo, hi)` of 0.7 over the naturals. -/
def clampN (x lo hi : Nat) : Nat := if x < lo then lo else if hi < x then hi else x

/-- `clamp(x, lo, hi)` of 0.7 over the integers. -/
def clampI (x lo hi : Int) : Int := if x < lo then lo else if hi < x then hi else x

/-- One more on a saturating counter (0.7) whose range ends at `top`. -/
def bump (x top : Nat) : Nat := min (x + 1) top

end Sys2Proof
end

