-- ==== Sys2Proof/Config.lean ====
section
/-! DEFINITION. The fixed quantities of the spec, and the free values: what the spec leaves open, as
constants that nothing can evaluate. -/

namespace Sys2Proof.Config

/-! ### Free values -/

/-- A time in ms below one second that a reply reports or a tick passes (logs 17 and 18); the n-th use of it. -/
opaque freeMs : Nat → Nat

/-- Where in its 10 s window the heater stands, in ms, when the duty changes (R58, log 19); the n-th use of it. -/
opaque freeWindowMs : Nat → Nat

/-- How many clock pulses the line test of R84 drove, and how many items had passed, in a transaction that a stretch timeout
ends (R88, log 65); the n-th use of each. -/
opaque freePulses : Nat → Fin 10

@[inherit_doc freePulses]
opaque freePassed : Nat → Nat

/-- The write count that follows 4294967295 in the nonvolatile store (R140, R185, log 22). -/
opaque countAfterLast : Nat

/-- Whether as many value bytes stand for an absent capture in a reply as a WATCH capture has, or a FAULT capture (R174,
R175, log 23). -/
opaque absentAsWatch : Bool

/-! ### Fixed quantities -/

/-- The last value of the uptime counter, the run-hours counter and the write counts (R192, R121, R140). -/
def last32 : Nat := 4294967295

/-- Spin-up time, s (R33). -/
def spinupSeconds : Nat := 15
/-- Continuous stall condition at which a path has stalled, s (R38). -/
def stallSeconds : Nat := 10
/-- Time in STALLED before the next spin-up, s (R39). -/
def retrySeconds : Nat := 60
/-- Continuous good running that clears the retry count, s (R39). -/
def goodSeconds : Nat := 10
/-- Failed spin-ups at which a path is FAILED (R39). -/
def failedSpinups : Nat := 3
/-- Continuous shortfall at which it is reported, s (R42). -/
def shortfallSeconds : Nat := 60
/-- Hold time of a temperature channel, s (R47). -/
def holdSeconds : Nat := 60
/-- Period of the frost evaluation and of the poll round, s (R52, R92). -/
def tenSeconds : Nat := 10
/-- Period of the ring tick, s (R105). -/
def ringSeconds : Nat := 60
/-- Values a reading ring holds (R105). -/
def ringCapacity : Nat := 6
/-- Confirm time of a defrost, s (R74). -/
def confirmSeconds : Nat := 60
/-- Seconds the fans are held stopped before the zeroing readings begin (R188). -/
def zeroingDelay : Nat := 10
/-- Readings of one zeroing (R25). -/
def zeroingReadings : Nat := 8
/-- Recovery silence after a bus fault, ms (R94). -/
def recoveryMs : Nat := 5000
/-- Time left in LOST, s (R99). -/
def lostSeconds : Nat := 600
/-- Age up to which a reading is fresh, s (R100). -/
def freshSeconds : Nat := 30
/-- Waiting limit of a filter check, s (R128). -/
def waitingLimit : Nat := 21600
/-- Settle limit of a filter check, s (R129). -/
def settleLimit : Nat := 180
/-- Stable time of a filter check, s (R129). -/
def stableSeconds : Nat := 30
/-- Samples of a filter check (R130). -/
def checkSamples : Nat := 16
/-- Preemptions at which a filter check is abandoned (R132). -/
def checkSuspensions : Nat := 3
/-- Quiet time of shortfall prompts after a COMPLETED check, s (R127). -/
def shortfallQuiet : Nat := 3600
/-- Run hours spent DUE beyond which a filter is OVERDUE (R123). -/
def overdueHours : Nat := 720
/-- Entries a filter history holds (R125). -/
def historyCapacity : Nat := 8
/-- Capacity of the main notice queue (R179). -/
def mainCapacity : Nat := 32
/-- Capacity of the service notice queue (R179). -/
def serviceCapacity : Nat := 8
/-- Frames a link may have unanswered (R170). -/
def receiveFrames : Nat := 2
/-- Longest payload of a frame (R168). -/
def maxPayload : Nat := 120

end Sys2Proof.Config
end

