-- ==== Sys2Proof/Syntax.lean ====
section
/-! DEFINITION. The commands: one constructor of `Instr` for each row of spec/opcode_table.json, with the
operands that the outside world brings. -/

namespace Sys2Proof

/-- The two links (R167). -/
inductive Link where
  | main | service
deriving DecidableEq, Repr

/-- The two fan paths, and the two filters (R28, R122). -/
inductive PathId where
  | supply | extract
deriving DecidableEq, Repr

/-- The four duct temperature channels (3.2). -/
inductive TempId where
  | oda | sup | eta | eha
deriving DecidableEq, Repr

/-- The state of a contact or of the cutout line (R143, R152), and of the filter door (R138). -/
inductive Contact where
  | opened | closed
deriving DecidableEq, Repr

/-- A line whose raw state DIO follows: an input channel 1 to 4, or the heater cutout line (R144, R152). -/
inductive InputLine where
  | input (n : Nat)
  | cutout
deriving DecidableEq, Repr

/-- What a pressure input gives in one second: a raw value in Pa, or a reading that could not be completed
(R24, R119). -/
inductive Reading where
  | value (pa : Int)
  | incomplete
deriving DecidableEq, Repr

/-- What a temperature input gives in one second: a converted value in tenths of a degree, an open circuit or a
short circuit (R46). -/
inductive TempReading where
  | value (t : Int)
  | openCircuit
  | shortCircuit
deriving DecidableEq, Repr

/-- The readings and pulse counts of one second (R24, R27, R46, R119). -/
structure SecondReadings where
  supplyNozzle  : Reading
  extractNozzle : Reading
  supplyPulses  : Nat
  extractPulses : Nat
  supplyFilter  : Reading
  extractFilter : Reading
  oda : TempReading
  sup : TempReading
  eta : TempReading
  eha : TempReading
deriving DecidableEq, Repr

/-- How a PROBE transaction ended, other than by a stretch timeout (R84, R85): the data line was high after so many clock
pulses, none if it was high at once, and the acknowledge bit of the address byte was low (`acked`) or high; or the data line
was still low after the ninth pulse. -/
inductive ProbeReply where
  | answered (pulses : Fin 10) (acked : Bool)
  | dataLow
deriving DecidableEq, Repr

/-- The bytes of a MEASURE after which an acknowledge bit is read (R86): the write address, the measurement command and the
read address. -/
inductive AckPoint where
  | writeAddress | command | readAddress
deriving DecidableEq, Repr

/-- How a MEASURE transaction ended, other than by a stretch timeout (R84, R86, R89): the data line was high after so many
clock pulses, and the acknowledge bit of the byte `point` was high, or six bytes were read; or the data line was still low
after the ninth pulse. -/
inductive MeasureReply where
  | noAck (pulses : Fin 10) (point : AckPoint)
  | bytes (pulses : Fin 10) (b0 b1 b2 b3 b4 b5 : Byte)
  | dataLow
deriving DecidableEq, Repr

/-- The commands of the part. A request row's operand is the link whose oldest frame LNK hands on (R170, R171); the
request's fields are that frame's payload (R175). `stopOk` is no for a byte received with a missing stop bit
(R169); `ok` is no for a nonvolatile write that fails (R140, R185). Sensors are numbered 1 to 8, inputs 1 to 4. -/
inductive Instr where
  | powerOn
  | queryStatus (l : Link)
  | readDemands (l : Link)
  | postDemand (l : Link)
  | cancelDemand (l : Link)
  | readAirflow (l : Link)
  | readFrost (l : Link)
  | readSensors (l : Link)
  | probeSensor (l : Link)
  | readFilters (l : Link)
  | checkFilters (l : Link)
  | filterOpen (l : Link)
  | filterClose (l : Link)
  | filterChanged (l : Link)
  | getNotices (l : Link)
  | readFlags (l : Link)
  | clearFlags (l : Link)
  | readCapture (l : Link)
  | releaseCapture (l : Link)
  | setWatch (l : Link)
  | claimManual (l : Link)
  | releaseManual (l : Link)
  | manualOutputs (l : Link)
  | getSetting (l : Link)
  | setSetting (l : Link)
  | storeSettings (l : Link)
  | standby (l : Link)
  | wake (l : Link)
  | restart (l : Link)
  | frameArrived (l : Link) (b : Byte) (stopOk : Bool)
  | frameError (l : Link) (b : Byte) (stopOk : Bool)
  | frameTimeout (l : Link)
  | linkBreak (l : Link)
  | replyTransmitted (l : Link)
  | uptimeTick (r : SecondReadings)
  | demandExpiry
  | spinupEnd (p : PathId)
  | stallDetected (p : PathId)
  | retryEnd (p : PathId)
  | goodTimeComplete (p : PathId)
  | shortfallReported (p : PathId)
  | holdExpired (c : TempId)
  | frostEvaluation
  | runOnEnd
  | heaterWindowEnd
  | heaterOnTimeEnd
  | defrostCleared
  | defrostIncomplete
  | lockoutEnd
  | transactionStart
  | probeComplete (ack : ProbeReply)
  | measureComplete (m : MeasureReply)
  | stretchTimeout
  | recoveryEnd
  | pollRound
  | probePauseEnd (n : Nat)
  | lostTimeEnd (n : Nat)
  | boostLimit (n : Nat)
  | holdoffEnd (n : Nat)
  | ringTick
  | runHour
  | settleStable
  | settleTimeout
  | checkWaitingExpired
  | evaluate
  | serviceTimerEnd
  | filterWriteComplete (ok : Bool)
  | storeComplete (ok : Bool)
  | zeroingComplete
  | rawContactChange (line : InputLine) (c : Contact)
  | inputDebounced (n : Nat)
  | cutoutDebounced
  | byteReceived (l : Link) (b : Byte) (stopOk : Bool)
  | lineReturnsToMark (l : Link)
deriving DecidableEq, Repr

end Sys2Proof
end

