-- ==== Sys2Proof/WellFormed.lean ====
section
/-! DEFINITION. The checks on a command's operands. -/

namespace Sys2Proof.WellFormed

/-- An input channel is numbered 1 to 4 (R143). -/
def inputIndexOk (n : Nat) : Bool := 1 ≤ n && n ≤ 4

/-- A sensor entry is numbered 1 to 8 (R95). -/
def sensorIndexOk (n : Nat) : Bool := 1 ≤ n && n ≤ 8

/-- A line DIO follows is an input channel or the cutout line (R144, R152). -/
def lineOk : InputLine → Bool
  | .input n => inputIndexOk n
  | .cutout => true

/-- A command names only what the part has. The operands of the other rows range over types that hold nothing else. -/
def instrOk : Instr → Bool
  | .probePauseEnd n => sensorIndexOk n
  | .lostTimeEnd n => sensorIndexOk n
  | .boostLimit n => sensorIndexOk n
  | .holdoffEnd n => sensorIndexOk n
  | .rawContactChange line _ => lineOk line
  | .inputDebounced n => inputIndexOk n
  | .powerOn | .queryStatus _ | .readDemands _ | .postDemand _ | .cancelDemand _ | .readAirflow _ | .readFrost _
  | .readSensors _ | .probeSensor _ | .readFilters _ | .checkFilters _ | .filterOpen _ | .filterClose _
  | .filterChanged _ | .getNotices _ | .readFlags _ | .clearFlags _ | .readCapture _ | .releaseCapture _
  | .setWatch _ | .claimManual _ | .releaseManual _ | .manualOutputs _ | .getSetting _ | .setSetting _
  | .storeSettings _ | .standby _ | .wake _ | .restart _ | .frameArrived _ _ _ | .frameError _ _ _
  | .frameTimeout _ | .linkBreak _ | .replyTransmitted _ | .uptimeTick _ | .demandExpiry | .spinupEnd _
  | .stallDetected _ | .retryEnd _ | .goodTimeComplete _ | .shortfallReported _ | .holdExpired _
  | .frostEvaluation | .runOnEnd | .heaterWindowEnd | .heaterOnTimeEnd | .defrostCleared | .defrostIncomplete
  | .lockoutEnd | .transactionStart | .probeComplete _ | .measureComplete _ | .stretchTimeout | .recoveryEnd
  | .pollRound | .ringTick | .runHour | .settleStable | .settleTimeout | .checkWaitingExpired | .evaluate
  | .serviceTimerEnd | .filterWriteComplete _ | .storeComplete _ | .zeroingComplete | .cutoutDebounced
  | .byteReceived _ _ _ | .lineReturnsToMark _ => true

end Sys2Proof.WellFormed
end

