-- ==== Sys2Proof/Machine/Settings.lean ====
section
/-! DEFINITION. The settings table of R182, the ties of R184 and the validity of a settings image (R186). -/

namespace Sys2Proof.Machine

/-- The origins, in the order of R174 (0.7). INTERNAL is the origin of the part's own posts. -/
inductive Origin where
  | occupant | system | service | internal
deriving DecidableEq, Repr

/-- The position of an origin in the order OCCUPANT, SYSTEM, SERVICE, INTERNAL (0.7, R174). -/
def Origin.rank : Origin → Nat
  | .occupant => 0
  | .system => 1
  | .service => 2
  | .internal => 3

/-- The class of a setting (0.8). -/
inductive SettingClass where
  | now | start
deriving DecidableEq, Repr

/-- How a value of a setting is checked at a write: a number is clamped, an enumeration and a set are not, a sensor
address has the range of R95. -/
inductive SettingKind where
  | number | enumeration | set | address
deriving DecidableEq, Repr

/-- One row of the settings table (R182): range, default, write origin and class. The range of an enumeration is its
positions, that of a set is 0 to the mask of all codes (R183). -/
structure SettingRow where
  lo : Int
  hi : Int
  dflt : Int
  origin : Origin
  cls : SettingClass
  kind : SettingKind
deriving DecidableEq, Repr

/-- A numeric NOW-class row. -/
def SettingRow.num (lo hi dflt : Int) (o : Origin) : SettingRow := ⟨lo, hi, dflt, o, .now, .number⟩

/-- Ids 1 to 16 of R182. -/
def settingRowsA : List SettingRow :=
  [ .num 40 450 110 .system, .num 40 150 60 .service, .num 100 450 300 .service, .num 0 100 40 .service,
    .num 40 150 80 .service, .num 60 450 220 .system, .num 0 450 90 .system, .num 60 450 250 .system,
    .num 40 300 100 .system, .num 100 250 150 .service, .num 60 300 120 .service,
    ⟨60, 450, 150, .service, .start, .number⟩, .num 1 8 8 .system, .num 1 8 8 .system,
    .num 60 7200 1200 .system, .num 60 3600 300 .system ]

/-- Ids 17 to 31 of R182. -/
def settingRowsB : List SettingRow :=
  [ ⟨0, 1, 0, .service, .start, .enumeration⟩, .num 100 2000 1000 .service, .num 100 2000 1000 .service,
    .num 1 200 40 .service, .num 100 400 150 .service, .num 200 600 300 .service, .num 100 1500 300 .service,
    ⟨1, 4, 2, .service, .start, .number⟩, .num 0 50 10 .service, .num 0 80 20 .service, .num 1 100 25 .service,
    ⟨0, 1, 1, .service, .start, .enumeration⟩, .num 60 600 120 .service, .num 0 50 30 .service,
    .num 50 95 75 .service ]

/-- Ids 32 to 45 of R182. -/
def settingRowsC : List SettingRow :=
  [ .num 1000 30000 6000 .service, .num 10 100 30 .service, .num 300 1800 900 .service,
    .num 300 3600 600 .service, .num 600 7200 1800 .service, .num 1 30 2 .service, .num 1 50 10 .service,
    .num 500 950 750 .system, .num 30 300 80 .system, .num 60 3600 600 .system, .num 600 14400 3600 .system,
    .num 300 7200 1800 .system, .num 150 500 300 .system, .num 300 1000 700 .service ]

/-- Ids 46 to 84 of R182. The enumerations are carried as positions: the role DRY_ROOM is 1, the sense LEVEL is 1. -/
def settingRowsD : List SettingRow :=
  List.replicate 8 ⟨0, 119, 0, .service, .start, .address⟩
    ++ List.replicate 8 ⟨0, 3, 1, .service, .start, .enumeration⟩
    ++ [ .num 40 500 150 .service, .num 40 500 100 .service, .num 720 8760 4380 .system, .num 6 168 24 .system,
         .num 300 7200 1800 .system ]
    ++ List.replicate 4 ⟨0, 4, 0, .service, .start, .enumeration⟩
    ++ List.replicate 4 ⟨0, 1, 1, .service, .start, .enumeration⟩
    ++ List.replicate 4 ⟨0, 1, 0, .service, .start, .enumeration⟩
    ++ List.replicate 2 ⟨0, 5, 0, .system, .now, .enumeration⟩
    ++ List.replicate 2 ⟨0, 524287, 0, .system, .now, .set⟩
    ++ [ ⟨0, 16383, 16383, .system, .now, .set⟩, ⟨0, 16383, 0, .service, .now, .set⟩ ]

/-- The settings table of R182, id 1 first. -/
def settingRows : List SettingRow := settingRowsA ++ settingRowsB ++ settingRowsC ++ settingRowsD

/-- The row of a setting id, or none outside 1 to 84 (R183, R184). -/
def settingRow (id : Nat) : Option SettingRow := if id = 0 then none else settingRows[id - 1]?

/-- The defaults of R182: the working table when neither copy of the store is valid (R186). -/
def settingDefaults : List Int := settingRows.map (·.dflt)

/-- The value of a setting in a table; 0 for an id the table does not hold. -/
def settingVal (t : List Int) (id : Nat) : Int := if id = 0 then 0 else t.getD (id - 1) 0

/-- The value of a setting that is not negative, as a natural number. -/
def settingNat (t : List Int) (id : Nat) : Nat := (settingVal t id).toNat

/-- The table with one value replaced. -/
def settingSet (t : List Int) (id : Nat) (v : Int) : List Int := if id = 0 then t else t.set (id - 1) v

/-- The current range of a setting: that of R182 narrowed by the ties of R184. -/
def settingRange (t : List Int) (id : Nat) (row : SettingRow) : Int × Int :=
  let qbase := settingVal t 1
  let qmin := settingVal t 2
  let qmax := settingVal t 3
  let a := settingVal t 4
  let qhmin := settingVal t 5
  let dry := settingVal t 9
  match id with
  | 1 => (max row.lo qmin, min row.hi qmax)
  | 2 => (max row.lo (qhmin - a), min row.hi (min qbase dry))
  | 3 => (max row.lo qbase, row.hi)
  | 4 => (max row.lo (qhmin - qmin), row.hi)
  | 5 => (row.lo, min row.hi (qmin + a))
  | 9 => (max row.lo qmin, row.hi)
  | _ => (row.lo, row.hi)

/-- The ties of R184 hold in a table. -/
def tiesHold (t : List Int) : Bool :=
  decide (settingVal t 5 ≤ settingVal t 2 + settingVal t 4) && decide (settingVal t 2 ≤ settingVal t 1)
    && decide (settingVal t 1 ≤ settingVal t 3) && decide (settingVal t 2 ≤ settingVal t 9)

/-- A value lies within the range of its row; a sensor address is 0 or 8 to 119 (R95, R182). -/
def inRow (row : SettingRow) (v : Int) : Bool :=
  decide (row.lo ≤ v) && decide (v ≤ row.hi) && (row.kind != .address || v == 0 || decide (8 ≤ v))

/-- The ids of the sensor addresses and of the sensor roles (R182). -/
def addressIds : List Nat := [46, 47, 48, 49, 50, 51, 52, 53]
/-- The ids of the sensor roles (R182). -/
def roleIds : List Nat := [54, 55, 56, 57, 58, 59, 60, 61]

/-- The position of EXTRACT_DUCT among the roles (R95, R182). -/
def extractDuctCode : Int := 2

/-- Some entry of `ids` other than `id` holds the value `v`. -/
def heldElsewhere (t : List Int) (ids : List Nat) (id : Nat) (v : Int) : Bool :=
  ids.any fun j => j != id && settingVal t j == v

/-- No two sensor addresses other than 0 are equal (R95, R186). -/
def addressesDistinct (t : List Int) : Bool :=
  addressIds.all fun j => settingVal t j == 0 || !heldElsewhere t addressIds j (settingVal t j)

/-- At most one role is EXTRACT_DUCT (R95, R186). -/
def oneExtractDuct (t : List Int) : Bool :=
  roleIds.all fun j => settingVal t j != extractDuctCode || !heldElsewhere t roleIds j extractDuctCode

/-- A table holds 84 values, each in its range, with the ties, the addresses and the roles as R186 asks of a valid
copy. -/
def tableValid (t : List Int) : Bool :=
  t.length == 84 && (settingRows.zip t).all (fun rv => inRow rv.1 rv.2) && tiesHold t && addressesDistinct t
    && oneExtractDuct t

/-- The answer to a write of a setting (R184). -/
inductive SettingAnswer where
  | ok | clamped | notPermitted | badRequest
deriving DecidableEq, Repr

/-- The value that a write of `v` would take, after step 4 of R184 and the address range of R95; none where step 3
refuses it. -/
def settingTaken (t : List Int) (id : Nat) (row : SettingRow) (v : Int) : Option Int :=
  match row.kind with
  | .number =>
    let r := settingRange t id row
    some (clampI v r.1 r.2)
  | .enumeration => if row.lo ≤ v ∧ v ≤ row.hi then some v else none
  | .set => if row.lo ≤ v ∧ v ≤ row.hi then some v else none
  | .address => some (if v ≤ 0 then 0 else if v < 8 then 8 else if 119 < v then 119 else v)

/-- A value as taken breaks the sensor address or role check of R95. -/
def sensorClash (t : List Int) (id : Nat) (v : Int) : Bool :=
  (addressIds.contains id && v != 0 && heldElsewhere t addressIds id v)
    || (roleIds.contains id && v == extractDuctCode && heldElsewhere t roleIds id v)

/-- The checks of SET_SETTING in the order of R184: the answer, the table after it and the value as taken. -/
def writeSetting (t : List Int) (origin : Origin) (id : Nat) (v : Int) : SettingAnswer × List Int × Int :=
  match settingRow id with
  | none => (.badRequest, t, v)
  | some row =>
    if origin.rank < row.origin.rank then (.notPermitted, t, v)
    else match settingTaken t id row v with
      | none => (.badRequest, t, v)
      | some w =>
        if sensorClash t id w then (.badRequest, t, v)
        else (if w = v then .ok else .clamped, settingSet t id w, w)

/-- The code `c` is in a set carried as a mask: the bit of weight 2^(c-1) (R182). -/
def inMask (mask : Int) (c : Nat) : Bool := mask.toNat.testBit (c - 1)

end Sys2Proof.Machine
end

