-- ==== Sys2Proof/Machine/State.lean ====
section
/-! DEFINITION. The state of the part, block by block, as plain data, and the state right after reset. -/

namespace Sys2Proof.Machine

/-! ### ARB (01_demand_arbitration.md) -/

/-- The twelve demand slots (R1). -/
inductive Slot where
  | base | dryness | schedule | panel | inputBoost | inputHood
  | filterCheck | humidity | service | defrost | manual | fire
deriving DecidableEq, Repr

/-- What a demand asks of the fans (R2): flows, duties (MANUAL only), or, for BASE, the current "base flow". -/
inductive Carry where
  | baseFlow
  | flows (supply extract : Nat)
  | duties (supply extract : Nat)
deriving DecidableEq, Repr

/-- The record of a slot that is not FREE (R2). An absent run time is UNTIMED. -/
structure Demand where
  level : Nat
  origin : Origin
  carry : Carry
  run : Option Nat
  postedAt : Nat
  suspensions : Nat
deriving DecidableEq, Repr

/-- The demand table: none is FREE (R2). -/
structure DemandTable where
  base : Option Demand
  dryness : Option Demand
  schedule : Option Demand
  panel : Option Demand
  inputBoost : Option Demand
  inputHood : Option Demand
  filterCheck : Option Demand
  humidity : Option Demand
  service : Option Demand
  defrost : Option Demand
  manual : Option Demand
  fire : Option Demand
deriving DecidableEq, Repr

/-- Which posts the watch tests (R19). -/
inductive WatchMatch where
  | newOnly | all
deriving DecidableEq, Repr

/-- What a match does (R19, R21). -/
inductive WatchAction where
  | capture | block
deriving DecidableEq, Repr

/-- The post watch configuration (R19). -/
structure Watch where
  enabled : Bool
  slots : List Slot
  levelMin : Nat
  levelMax : Nat
  mode : WatchMatch
  action : WatchAction
deriving DecidableEq, Repr

/-- The demand arbiter. The state of a slot follows from `table`, `active` and `stack` (log 45). `expiring` says that the
last second of the active demand has passed and its expiry is still to be taken (log 3). -/
structure Arb where
  table : DemandTable
  active : Option Slot
  expiring : Bool
  stack : List Slot
  queue : List Slot
  watch : Watch
deriving DecidableEq, Repr

/-! ### AFC (02_airflow_control.md) -/

/-- The states of a fan path (R28), in the order of R174. -/
inductive PathState where
  | off | spinup | regulating | saturated | hold | manual | stalled | failed
deriving DecidableEq, Repr

/-- The fan path record (R28), with the latest raw reading (R44) and the zeroing sum (R25). -/
structure FanPath where
  state : PathState
  duty : Nat
  target : Option Nat
  flow : Option Nat
  speed : Nat
  faulted : Bool
  zeroOffset : Int
  raw : Reading
  spinupTime : Nat
  retryTime : Nat
  retryCount : Nat
  goodTime : Nat
  goodTiming : Bool
  stallTime : Nat
  shortfallTime : Nat
  shortfallStanding : Bool
  zeroSum : Int
  zeroFault : Bool
deriving DecidableEq, Repr

/-- The airflow controller. `served` is the active slot as it was last resolved (R36, log 6). -/
structure Afc where
  supply : FanPath
  extract : FanPath
  served : Option Slot
deriving DecidableEq, Repr

/-! ### FRG (03_frost_guard.md, 04_defrost_cycle.md) -/

/-- The status of a temperature channel (R47). -/
inductive ChannelStatus where
  | good | holding | invalid
deriving DecidableEq, Repr

/-- A temperature channel (R46, R47). `everRead` is no until the first reading since reset. -/
structure TempChannel where
  status : ChannelStatus
  holdTime : Nat
  raw : Int
  lastGood : Option Int
  everRead : Bool
deriving DecidableEq, Repr

/-- The tiers of the extract humidity value (R114). -/
inductive Tier where
  | duct | rooms | fallback
deriving DecidableEq, Repr

/-- The frost regimes (R48). -/
inductive Regime where
  | normal | substitute | fixed
deriving DecidableEq, Repr

/-- The frost stages (R64). -/
inductive Stage where
  | none | preheat | imbalance | defrost
deriving DecidableEq, Repr

/-- The phases of the defrost record (R67). -/
inductive DefrostPhase where
  | idle | prepare | posted | running | confirm | suspended | lockout
deriving DecidableEq, Repr

/-- How a defrost ends (R74, R75). -/
inductive DefrostEnd where
  | cleared | incomplete
deriving DecidableEq, Repr

/-- The defrost record (R67). `runSince` and `confirmSince` are the uptimes that R72 compares; `endDue` is the end, with
its elapsed and confirm, that an update has reached and whose step is not yet taken (log 4). -/
structure Defrost where
  phase : DefrostPhase
  started : Bool
  elapsed : Nat
  confirm : Nat
  lockout : Nat
  lastResult : Option DefrostEnd
  count : Nat
  runSince : Nat
  confirmSince : Nat
  endDue : Option (DefrostEnd × Nat × Nat)
deriving DecidableEq, Repr

/-- The frost guard: channels, frost record (R51) and defrost record. Regime, cap and C are computed (log 45). -/
structure Frg where
  oda : TempChannel
  sup : TempChannel
  eta : TempChannel
  eha : TempChannel
  substitute : Option Int
  rhEta : Option Nat
  tier : Option Tier
  td : Option Int
  margin : Option Int
  load : Nat
  request : Nat
  applied : Nat
  outputOn : Bool
  windowSecs : Nat
  runOn : Nat
  exhausted : Nat
  imbalance : Nat
  stage : Stage
  cutout : Contact
  evalTimer : Nat
  defrost : Defrost
deriving DecidableEq, Repr

/-! ### HUM (05_sensor_bus_and_sensor_table.md, 06_humidity_response.md) -/

/-- The states of the bus controller (R90). -/
inductive BusState where
  | idle | busy | recovery
deriving DecidableEq, Repr

/-- The kinds of transaction (R91). -/
inductive BusKind where
  | probe | measure
deriving DecidableEq, Repr

/-- The outcomes of a transaction (R85, R89); GOOD stands for ACK in a PROBE. -/
inductive BusOutcome where
  | good | noAck | crcBad | stretchTimeout | sensorError | rangeBad
deriving DecidableEq, Repr

/-- What passes on the bus: in a transaction (R84 to R86) a start or a stop condition, a byte that the controller sends,
after which it reads the acknowledge bit, and a byte that it reads, with whether it acknowledges it; in a release sequence
(R94) the release of both lines, a pulse on the clock line and a stop condition. The line test of R84 stands before the
start condition of a transaction; as it passes it is its clock pulses, none where it finds both lines high. A stretch timeout
releases both lines too (R88). -/
inductive BusItem where
  | release
  | clock
  | lineTest
  | start
  | send (b : Byte)
  | read (ack : Bool)
  | stop
deriving DecidableEq, Repr

/-- The bus controller's record (R90) and queue (R91), whether the release sequence of R103 is still to be sent, and what
the controller puts on the bus, in order: in `flight` the transaction under way, as it runs if nothing ends it early (R84 to
R86), and in RECOVERY the release sequence of the bus fault (R94); in `sent` what has passed in the latest transaction that
has ended. -/
structure Bus where
  state : BusState
  timeouts : Nat
  recovery : Nat
  faults : Nat
  releaseDue : Bool
  queue : List (Nat × BusKind)
  flight : List BusItem
  sent : List BusItem
deriving DecidableEq, Repr

/-- The roles of a sensor (R95). -/
inductive Role where
  | wetRoom | dryRoom | extractDuct | outdoor
deriving DecidableEq, Repr

/-- The states of a sensor entry (R96). -/
inductive SensorState where
  | unused | probing | online | lost | absent
deriving DecidableEq, Repr

/-- The status of a GOOD reply (R87, R96). -/
inductive SensorStatus where
  | ok | warming
deriving DecidableEq, Repr

/-- The states of a boost record (R106). -/
inductive BoostState where
  | idle | boost | holdoff
deriving DecidableEq, Repr

/-- What starts a boost (R106, R107). -/
inductive BoostTrigger where
  | absolute | rise
deriving DecidableEq, Repr

/-- How a boost ends (R106). -/
inductive BoostEnd where
  | fallen | limit | loss
deriving DecidableEq, Repr

/-- The boost record of a WET_ROOM entry (R106). `limitDue` says that an update has found the time in BOOST at the limit
and the limit's step is still to be taken (R108, log 2). -/
structure Boost where
  state : BoostState
  trigger : Option BoostTrigger
  startTime : Option Nat
  preRise : Option Nat
  endTarget : Option Nat
  time : Nat
  holdoff : Nat
  lastEnd : Option BoostEnd
  limitDue : Bool
deriving DecidableEq, Repr

/-- A sensor entry (R96) with its ring (R105) and, for a WET_ROOM entry, its boost record (R106). -/
structure Sensor where
  address : Nat
  role : Role
  state : SensorState
  attempts : Nat
  pause : Option Nat
  failures : Nat
  lostTime : Nat
  lastTemp : Option Int
  lastHum : Option Nat
  lastStatus : Option SensorStatus
  lastGood : Option Nat
  lastOutcome : Option (BusKind × BusOutcome)
  ring : List Nat
  boost : Option Boost
deriving DecidableEq, Repr

/-- The humidity unit. `pollTimer` is none while the poll timer is stopped (R92); the ring timer runs while the
response is `active` (R104, R105). -/
structure Hum where
  bus : Bus
  pollTimer : Option Nat
  sensors : List Sensor
  active : Bool
  ringTimer : Nat
  dryOn : Bool
  dryAverage : Option Nat
  dryCount : Nat
  humidityMark : Bool
  drynessMark : Bool
  extract : Option (Nat × Tier)
deriving DecidableEq, Repr

/-! ### FLT (07_filter_monitor_and_filter_service.md) -/

/-- The states of a filter entry (R122). -/
inductive FilterState where
  | baselineDue | clean | loading | due | overdue | unknown
deriving DecidableEq, Repr

/-- The status of a filter sensor (R119). -/
inductive FilterSensorStatus where
  | healthy | faulted | unverified
deriving DecidableEq, Repr

/-- The phases of a check (R126). -/
inductive CheckPhase where
  | idle | waiting | settle | sample
deriving DecidableEq, Repr

/-- What starts a check (R126). -/
inductive CheckTrigger where
  | scheduled | requested | shortfall
deriving DecidableEq, Repr

/-- How a check ends (R126, R133). -/
inductive CheckOutcome where
  | completed | deferred | settleTimeout | interrupted | sensorFault | door
deriving DecidableEq, Repr

/-- What the nonvolatile filter block holds of one entry (R140). -/
structure FilterData where
  baseline : Option Nat
  lastRef : Option Nat
  loading : Option Nat
  hoursSinceChange : Nat
  hoursSinceDue : Nat
  history : List (Nat × Nat)
  projected : Option Nat
deriving DecidableEq, Repr

/-- A filter entry (R122) with its sensor (R119) and zeroing sum (R120). -/
structure Filter where
  state : FilterState
  data : FilterData
  lastOutcome : Option CheckOutcome
  sensor : FilterSensorStatus
  raw : Reading
  zeroOffset : Int
  zeroSum : Int
  zeroFault : Bool
deriving DecidableEq, Repr

/-- The check record (R126). `timeoutDue` says that an increment in SETTLE has found the settle time at its limit without
the stable time and that the timeout's step is still to be taken (R129, log 71). -/
structure Check where
  phase : CheckPhase
  trigger : Option CheckTrigger
  waiting : Nat
  settle : Nat
  stable : Nat
  samples : Nat
  supplyDp : Nat
  supplyQ : Nat
  extractDp : Nat
  extractQ : Nat
  suspensions : Nat
  outcome : Option CheckOutcome
  scheduledDue : Bool
  hoursSinceCheck : Nat
  lastCompleted : Option Nat
  timeoutDue : Bool
deriving DecidableEq, Repr

/-- The two copies of a nonvolatile image (R140, R185). -/
inductive CopyId where
  | first | second
deriving DecidableEq, Repr

/-- What a copy of the filter block holds (R140). -/
structure FilterBlock where
  supply : FilterData
  extract : FilterData
  runHours : Nat
  hoursSinceCheck : Nat
deriving DecidableEq, Repr

/-- A copy of the filter block with its write count and its CRC-16 (R140). -/
structure FilterCopy where
  block : FilterBlock
  writeCount : Nat
  crc : BitVec 16
deriving DecidableEq, Repr

/-- A filter write in flight (R140). -/
structure FilterWrite where
  snapshot : FilterBlock
  target : CopyId
  count : Nat
deriving DecidableEq, Repr

/-- The filter monitor. `serviceEndDue` and `startTestDue` mark a service timer end and a scheduled-start test whose
step is still to be taken (logs 37 and 38), and `hoursDue` counts the run hours completed whose step is (log 67). -/
structure Flt where
  supply : Filter
  extract : Filter
  check : Check
  runHours : Nat
  accumulator : Nat
  hoursDue : Nat
  serviceTimer : Nat
  serviceEndDue : Bool
  startTestDue : Bool
  door : Contact
  copy1 : FilterCopy
  copy2 : FilterCopy
  writing : Option FilterWrite
  again : Bool
deriving DecidableEq, Repr

/-! ### DIO (08_discrete_inputs_heater_cutout_and_relays.md) -/

/-- The functions of an input channel (R143). -/
inductive InputFunction where
  | none | boost | hood | fire | filterDoor
deriving DecidableEq, Repr

/-- The senses of an input channel (R143). -/
inductive Sense where
  | edge | level
deriving DecidableEq, Repr

/-- The polarities of an input channel (R143). -/
inductive Polarity where
  | closedActive | openActive
deriving DecidableEq, Repr

/-- An input channel (R143) and its raw contact (R144). `debounce` is the debounce time in ms as it was last seen
(log 17). -/
structure Channel where
  function : InputFunction
  sense : Sense
  polarity : Polarity
  contact : Option Contact
  debounce : Nat
  raw : Contact
deriving DecidableEq, Repr

/-- The discrete I/O block. -/
structure Dio where
  channels : List Channel
  cutRaw : Contact
  cutContact : Option Contact
  boostMark : Bool
  hoodMark : Bool
  fireMark : Bool
  released : Bool
deriving DecidableEq, Repr

/-! ### SUP (09_supervision_flags_capture_and_manual_control.md) -/

/-- The nineteen flags (R155), in code order. -/
inductive Flag where
  | stallSupply | stallExtract | shortfallSupply | shortfallExtract | pressureFault | tempFault | heaterCutout
  | runOnCut | defrostIncomplete | frostDegraded | sensorLost | sensorBusFault | filterDue | filterCheckFailed
  | doorUnplanned | fireInput | noticesLost | storeFailed | settingsDefaulted
deriving DecidableEq, Repr

/-- The sticky flag set (R155). -/
structure FlagSet where
  stallSupply : Bool := false
  stallExtract : Bool := false
  shortfallSupply : Bool := false
  shortfallExtract : Bool := false
  pressureFault : Bool := false
  tempFault : Bool := false
  heaterCutout : Bool := false
  runOnCut : Bool := false
  defrostIncomplete : Bool := false
  frostDegraded : Bool := false
  sensorLost : Bool := false
  sensorBusFault : Bool := false
  filterDue : Bool := false
  filterCheckFailed : Bool := false
  doorUnplanned : Bool := false
  fireInput : Bool := false
  noticesLost : Bool := false
  storeFailed : Bool := false
  settingsDefaulted : Bool := false
deriving DecidableEq, Repr

/-- A capture (R159): a fault, with subject code and value, or a watched post. -/
inductive Capture where
  | fault (flag : Flag) (subject : Nat) (value : Int) (time : Nat)
  | watch (slot : Slot) (origin : Origin) (requested taken : Nat) (supply extract : Nat) (link : Option Link)
      (time : Nat)
deriving DecidableEq, Repr

/-- The supervision unit: no capture is ARMED (R159). -/
structure Sup where
  flags : FlagSet
  capture : Option Capture
  missed : Nat
  owner : Option Link
deriving DecidableEq, Repr

/-! ### LNK (10_control_links_and_notices.md) -/

/-- A frame without its marker, length and CRC (R168). -/
structure Frame where
  kind : Byte
  tag : Byte
  payload : List Byte
deriving DecidableEq, Repr

/-- A receiver (R169). HUNT remembers whether a stray byte has been counted since it was entered; HEADER and BODY hold
the bytes since the start marker, in order. -/
inductive Receiver where
  | hunt (counted : Bool)
  | header (got : List Byte)
  | body (got : List Byte)
deriving DecidableEq, Repr

/-- One link: receiver, frames not yet handed on, replies not yet transmitted (together the frames unanswered, R170),
counters, and whether a break is being held (R173). -/
structure LinkRec where
  receiver : Receiver
  waiting : List Frame
  replies : List Frame
  overruns : Nat
  frameErrors : Nat
  spaceHeld : Bool
deriving DecidableEq, Repr

/-- The notice kinds (R178), in code order. -/
inductive NoticeKind where
  | demandChanged | fanState | flowShortfall | frostStage | defrostStarted | defrostEnded | humidityBoost
  | sensorState | filterResult | filterState | door | captureTaken | stateChanged | settingsStored
deriving DecidableEq, Repr

/-- A notice record (R178). -/
structure Notice where
  kind : NoticeKind
  subject : Nat
  value : Int
  uptime : Nat
  repeats : Nat
deriving DecidableEq, Repr

/-- A notice queue, oldest first, with its lost count (R179, R180). -/
structure NoticeQueue where
  entries : List Notice
  lost : Nat
deriving DecidableEq, Repr

/-- The link interface. `restarting` is the link whose RESTART has been taken (R191). -/
structure Lnk where
  main : LinkRec
  service : LinkRec
  mainQueue : NoticeQueue
  serviceQueue : NoticeQueue
  restarting : Option Link
deriving DecidableEq, Repr

/-! ### OSC (11_settings_start_up_and_standby.md) -/

/-- The device states (0.5), in the order of R174. -/
inductive DevState where
  | starting | running | doorOpen | servicePrepare | filterService | stopping | standby | waking
deriving DecidableEq, Repr

/-- A copy of the settings image: the 84 values, the write count and the CRC-16 over both (R185). -/
structure SettingsCopy where
  values : List Int
  writeCount : Nat
  crc : BitVec 16
deriving DecidableEq, Repr

/-- A settings store in progress (R185). -/
structure SettingsWrite where
  snapshot : List Int
  target : CopyId
  count : Nat
deriving DecidableEq, Repr

/-- The operating state controller. `stoppedSecs` counts the seconds of STARTING or WAKING (R188, R190). -/
structure Osc where
  device : DevState
  uptime : Nat
  working : List Int
  inUse : List Int
  copy1 : SettingsCopy
  copy2 : SettingsCopy
  writing : Option SettingsWrite
  stoppedSecs : Nat
deriving DecidableEq, Repr

/-! ### The whole part -/

/-- The state of the part, with the queue of the commands that wait (log 8) and the count of the free values used
(log 20). -/
structure State where
  pending : List Instr
  osc : Osc
  arb : Arb
  afc : Afc
  frg : Frg
  hum : Hum
  flt : Flt
  dio : Dio
  sup : Sup
  lnk : Lnk
  freeCount : Nat
deriving DecidableEq, Repr

/-- The spec gives every command an answer in every state, so nothing faults: no constructor. -/
inductive Fault where
deriving DecidableEq, Repr

/-- Why a command has no answer. -/
inductive Refusal where
  /-- Raised by an arm of `exec` whose row has no meaning yet. Safe: the machine stops. No arm raises it. -/
  | notModelled (mnemonic : String)
deriving DecidableEq, Repr

/-! ### After reset -/

/-- BASE as ARB places it (R22). -/
def Demand.baseReset : Demand :=
  { level := 1, origin := .internal, carry := .baseFlow, run := none, postedAt := 0, suspensions := 0 }

/-- The demand table after reset (R2, R22). -/
def DemandTable.reset : DemandTable :=
  { base := some .baseReset, dryness := none, schedule := none, panel := none, inputBoost := none, inputHood := none,
    filterCheck := none, humidity := none, service := none, defrost := none, manual := none, fire := none }

/-- The post watch after reset (R19). -/
def Watch.reset : Watch :=
  { enabled := false, slots := [], levelMin := 1, levelMax := 15, mode := .newOnly, action := .capture }

/-- ARB after reset (R22). -/
def Arb.reset : Arb :=
  { table := .reset, active := none, expiring := false, stack := [], queue := [.base], watch := .reset }

/-- A fan path after reset (R28, R45). -/
def FanPath.reset : FanPath :=
  { state := .off, duty := 0, target := some 0, flow := some 0, speed := 0, faulted := false, zeroOffset := 0,
    raw := .value 0, spinupTime := 0, retryTime := 0, retryCount := 0, goodTime := 0, goodTiming := false,
    stallTime := 0, shortfallTime := 0, shortfallStanding := false, zeroSum := 0, zeroFault := false }

/-- AFC after reset (R45). -/
def Afc.reset : Afc := { supply := .reset, extract := .reset, served := none }

/-- A temperature channel after reset: INVALID, no last good value, no reading taken (R47, R66). R47 and R66 give no hold
time and no raw value there: the hold time 0 (log 73) and the raw value 0 (log 15) are the model's. DESIGN CHOICE. -/
def TempChannel.reset : TempChannel :=
  { status := .invalid, holdTime := 0, raw := 0, lastGood := none, everRead := false }

/-- The defrost record after reset (R67, R83). -/
def Defrost.reset : Defrost :=
  { phase := .idle, started := false, elapsed := 0, confirm := 0, lockout := 0, lastResult := none, count := 0,
    runSince := 0, confirmSince := 0, endDue := none }

/-- FRG after reset (R51, R66, R83). -/
def Frg.reset : Frg :=
  { oda := .reset, sup := .reset, eta := .reset, eha := .reset, substitute := none, rhEta := none, tier := none,
    td := none, margin := none, load := 0, request := 0, applied := 0, outputOn := false, windowSecs := 0, runOn := 0,
    exhausted := 0, imbalance := 0, stage := .none, cutout := .closed, evalTimer := 0, defrost := .reset }

/-- The bus controller after reset (R90, R103). -/
def Bus.reset : Bus :=
  { state := .idle, timeouts := 0, recovery := 0, faults := 0, releaseDue := true, queue := [], flight := [],
    sent := [] }

/-- A boost record after reset (R106). -/
def Boost.reset : Boost :=
  { state := .idle, trigger := none, startTime := none, preRise := none, endTarget := none, time := 0, holdoff := 0,
    lastEnd := none, limitDue := false }

/-- A sensor entry after reset (R96), with the address and role of the settings load. -/
def Sensor.reset (address : Nat) (role : Role) : Sensor :=
  { address := address, role := role, state := .unused, attempts := 0, pause := none, failures := 0, lostTime := 0,
    lastTemp := none, lastHum := none, lastStatus := none, lastGood := none, lastOutcome := none, ring := [],
    boost := match role with | .wetRoom => some .reset | _ => none }

/-- HUM after reset, before the sensors take their addresses (R103, R118). -/
def Hum.reset : Hum :=
  { bus := .reset, pollTimer := none, sensors := List.replicate 8 (.reset 0 .dryRoom), active := false, ringTimer := 0,
    dryOn := false, dryAverage := none, dryCount := 0, humidityMark := false, drynessMark := false, extract := none }

/-- The filter data after an invalid load (R122). -/
def FilterData.reset : FilterData :=
  { baseline := none, lastRef := none, loading := none, hoursSinceChange := 0, hoursSinceDue := 0, history := [],
    projected := none }

/-- A filter entry after an invalid load (R119, R120, R122). -/
def Filter.reset : Filter :=
  { state := .baselineDue, data := .reset, lastOutcome := none, sensor := .healthy, raw := .value 0, zeroOffset := 0,
    zeroSum := 0, zeroFault := false }

/-- The check record after an invalid load (R126). -/
def Check.reset : Check :=
  { phase := .idle, trigger := none, waiting := 0, settle := 0, stable := 0, samples := 0, supplyDp := 0, supplyQ := 0,
    extractDp := 0, extractQ := 0, suspensions := 0, outcome := none, scheduledDue := false, hoursSinceCheck := 0,
    lastCompleted := none, timeoutDue := false }

/-- A filter block copy that was never written: its CRC does not match (log 12). -/
def FilterCopy.blank : FilterCopy :=
  { block := { supply := .reset, extract := .reset, runHours := 0, hoursSinceCheck := 0 }, writeCount := 0, crc := 0 }

/-- FLT after an invalid load (R122, R126, R142). -/
def Flt.reset : Flt :=
  { supply := .reset, extract := .reset, check := .reset, runHours := 0, accumulator := 0, serviceTimer := 0,
    hoursDue := 0, serviceEndDue := false, startTestDue := false, door := .closed, copy1 := .blank, copy2 := .blank,
    writing := none, again := false }

/-- An input channel after reset (R143), with the raw contact as it stands. -/
def Channel.reset (raw : Contact) : Channel :=
  { function := .none, sense := .level, polarity := .closedActive, contact := none, debounce := 0, raw := raw }

/-- DIO after reset (R154); the raw lines are the model's choice (log 13). -/
def Dio.reset : Dio :=
  { channels := List.replicate 4 (.reset .opened), cutRaw := .closed, cutContact := none, boostMark := false,
    hoodMark := false, fireMark := false, released := false }

/-- SUP after reset (R158, R162, R163). -/
def Sup.reset : Sup := { flags := {}, capture := none, missed := 0, owner := none }

/-- A link after reset (R181). -/
def LinkRec.reset : LinkRec :=
  { receiver := .hunt false, waiting := [], replies := [], overruns := 0, frameErrors := 0, spaceHeld := false }

/-- LNK after reset (R181). -/
def Lnk.reset : Lnk :=
  { main := .reset, service := .reset, mainQueue := ⟨[], 0⟩, serviceQueue := ⟨[], 0⟩, restarting := none }

/-- A settings copy that was never written: its values lie outside their ranges (log 12). -/
def SettingsCopy.blank : SettingsCopy := { values := List.replicate 84 0, writeCount := 0, crc := 0 }

/-- OSC at the start of STARTING with a blank store (R186, R188). -/
def Osc.reset : Osc :=
  { device := .starting, uptime := 0, working := settingDefaults, inUse := settingDefaults, copy1 := .blank,
    copy2 := .blank, writing := none, stoppedSecs := 0 }

/-- The part right after power-on with a blank store (R188, log 12): the defaults are loaded, so SETTINGS_DEFAULTED is
set (R140, R186). -/
def State.reset : State :=
  { pending := [], osc := .reset, arb := .reset, afc := .reset, frg := .reset, hum := .reset, flt := .reset,
    dio := .reset, sup := { Sup.reset with flags := { settingsDefaulted := true } }, lnk := .reset, freeCount := 0 }

end Sys2Proof.Machine
end

