-- ==== Sys2Proof/Machine/Arbiter.lean ====
section
/-! DEFINITION. The demand table on its own: slots, collections, selection, posts, ends and the post watch's test
(R1 to R23). Each change answers the new table and the reports of R16, in the order in which they are made. -/

namespace Sys2Proof.Machine

/-- The slots in table order (R1). -/
def allSlots : List Slot :=
  [.base, .dryness, .schedule, .panel, .inputBoost, .inputHood, .filterCheck, .humidity, .service, .defrost, .manual,
    .fire]

/-- The code of a slot (R1). -/
def Slot.code : Slot → Nat
  | .base => 1
  | .dryness => 2
  | .schedule => 3
  | .panel => 4
  | .inputBoost => 5
  | .inputHood => 6
  | .filterCheck => 7
  | .humidity => 8
  | .service => 9
  | .defrost => 10
  | .manual => 11
  | .fire => 12

/-- The slot a code names, 1 to 12 (R1). -/
def slotOfCode (c : Nat) : Option Slot := if c = 0 then none else allSlots[c - 1]?

/-- The slots that a block of the part posts; the others are the links' (R1). -/
def Slot.internal : Slot → Bool
  | .schedule | .panel | .service => false
  | .base | .dryness | .inputBoost | .inputHood | .filterCheck | .humidity | .defrost | .manual | .fire => true

/-- The record of a slot; none is FREE (R2). -/
def DemandTable.get (t : DemandTable) : Slot → Option Demand
  | .base => t.base
  | .dryness => t.dryness
  | .schedule => t.schedule
  | .panel => t.panel
  | .inputBoost => t.inputBoost
  | .inputHood => t.inputHood
  | .filterCheck => t.filterCheck
  | .humidity => t.humidity
  | .service => t.service
  | .defrost => t.defrost
  | .manual => t.manual
  | .fire => t.fire

/-- The table with the record of one slot replaced. -/
def DemandTable.put (t : DemandTable) (s : Slot) (d : Option Demand) : DemandTable :=
  match s with
  | .base => { t with base := d }
  | .dryness => { t with dryness := d }
  | .schedule => { t with schedule := d }
  | .panel => { t with panel := d }
  | .inputBoost => { t with inputBoost := d }
  | .inputHood => { t with inputHood := d }
  | .filterCheck => { t with filterCheck := d }
  | .humidity => { t with humidity := d }
  | .service => { t with service := d }
  | .defrost => { t with defrost := d }
  | .manual => { t with manual := d }
  | .fire => { t with fire := d }

/-- The states of a slot (R2), in the order of R174. -/
inductive SlotState where
  | free | pending | active | suspended
deriving DecidableEq, Repr

/-- The state of a slot (R2, R7). -/
def Arb.slotState (a : Arb) (s : Slot) : SlotState :=
  if a.table.get s = none then .free
  else if a.active = some s then .active
  else if a.stack.contains s then .suspended
  else .pending

/-- A slot is FREE. -/
def Arb.isFree (a : Arb) (s : Slot) : Bool := (a.table.get s).isNone

/-- The level of a slot; 0 for a FREE one. -/
def Arb.level (a : Arb) (s : Slot) : Nat := match a.table.get s with
  | some d => d.level
  | none => 0

/-- The level of the active demand; 0 when no slot is active (R15, R17). -/
def Arb.activeLevel (a : Arb) : Nat := match a.active with
  | some s => a.level s
  | none => 0

/-- The record of the active demand (R15). -/
def Arb.activeDemand (a : Arb) : Option Demand := match a.active with
  | some s => a.table.get s
  | none => none

/-- What ARB reports to a poster (R16). -/
inductive ReportKind where
  | active | suspended | freedByExpiry | freedByStandby
deriving DecidableEq, Repr

/-- A report on one slot (R16). -/
structure Report where
  kind : ReportKind
  slot : Slot
deriving DecidableEq, Repr

/-- The highest level among `waiting`, the first of those that share it (R10). -/
def Arb.best (a : Arb) (waiting : List Slot) : Option Slot :=
  waiting.foldl (fun b s => match b with
    | none => some s
    | some w => if a.level w < a.level s then some s else some w) none

/-- The winner of reselection: stack before queue, top or head first (R10). -/
def Arb.winner (a : Arb) : Option Slot := a.best (a.stack ++ a.queue)

/-- A slot leaves its collection. -/
def Arb.leave (a : Arb) (s : Slot) : Arb :=
  { a with stack := a.stack.filter (· != s), queue := a.queue.filter (· != s) }

/-- The record of a demand as it is pushed: suspensions counts it, saturating (R7). -/
def Demand.pushed (d : Demand) : Demand := { d with suspensions := bump d.suspensions 255 }

/-- A slot is pushed onto the stack top (R7). -/
def Arb.push (a : Arb) (s : Slot) : Arb :=
  { a with table := a.table.put s ((a.table.get s).map Demand.pushed), stack := s :: a.stack }

/-- Reselection after the end of the active demand (R10): the winner leaves its collection and becomes ACTIVE. -/
def Arb.reselect (a : Arb) : Arb × List Report :=
  match a.winner with
  | none => ({ a with active := none, expiring := false }, [])
  | some w => ({ a.leave w with active := some w, expiring := false }, [⟨.active, w⟩])

/-- The active slot is replaced by `s`, and pushed with the run time it has (R8, R9). An expiry that was still to be taken
does not happen (R11, log 3). -/
def Arb.preempt (a : Arb) (old s : Slot) : Arb × List Report :=
  ({ a.push old with active := some s, expiring := false }, [⟨.suspended, old⟩, ⟨.active, s⟩])

/-- What a post brings to its slot (R4, R6). -/
structure PostArgs where
  level : Nat
  origin : Origin
  carry : Carry
  run : Option Nat
deriving DecidableEq, Repr

/-- A post on a FREE slot (R8). -/
def Arb.postFresh (a : Arb) (s : Slot) (p : PostArgs) (now : Nat) : Arb × List Report :=
  let d : Demand :=
    { level := p.level, origin := p.origin, carry := p.carry, run := p.run, postedAt := now, suspensions := 0 }
  let b : Arb := { a with table := a.table.put s (some d) }
  match a.active with
  | some old =>
    if a.level old < p.level then b.preempt old s else ({ b with queue := b.queue ++ [s] }, [])
  | none => ({ b with queue := b.queue ++ [s] }, [])

/-- A renewal (R9): level, origin, flows or duties and run time are replaced, and ARB acts on the slot's state. An expiry
of the renewed slot that was still to be taken does not happen (R11). -/
def Arb.renew (a : Arb) (s : Slot) (old : Demand) (p : PostArgs) : Arb × List Report :=
  let d : Demand := { old with level := p.level, origin := p.origin, carry := p.carry, run := p.run }
  let b : Arb :=
    { a with table := a.table.put s (some d), expiring := a.expiring && decide (a.active ≠ some s) }
  match a.active with
  | none => (b, [])
  | some act =>
    if act = s then
      match b.winner with
      | none => (b, [])
      | some w => if p.level < b.level w then (b.leave w).preempt s w else (b, [])
    else if b.level act < p.level then (b.leave s).preempt act s
    else (b, [])

/-- A post that takes effect (R8, R9). -/
def Arb.post (a : Arb) (s : Slot) (p : PostArgs) (now : Nat) : Arb × List Report :=
  match a.table.get s with
  | none => a.postFresh s p now
  | some old => a.renew s old p

/-- A slot is freed by a cancel or a withdrawal (R12, R13): a waiting slot leaves its collection, an active one ends and
reselection runs. -/
def Arb.free (a : Arb) (s : Slot) : Arb × List Report :=
  if a.isFree s then (a, [])
  else
    let b : Arb := { a with table := a.table.put s none }
    if a.active = some s then { b with active := none }.reselect
    else (b.leave s, [])

/-- The active demand expires (R14). -/
def Arb.expire (a : Arb) (s : Slot) : Arb × List Report :=
  let r := a.free s
  (r.1, ⟨.freedByExpiry, s⟩ :: r.2)

/-- The slots other than BASE that are not FREE. -/
def Arb.heldButBase (a : Arb) : List Slot := allSlots.filter fun s => s != .base && !a.isFree s

/-- The acceptance of STANDBY (R23): every slot other than BASE is freed; BASE becomes ACTIVE, or PENDING where the
device goes straight to STANDBY. -/
def Arb.clearForStandby (a : Arb) (straight : Bool) : Arb × List Report :=
  let t : DemandTable :=
    { base := a.table.base, dryness := none, schedule := none, panel := none, inputBoost := none, inputHood := none,
      filterCheck := none, humidity := none, service := none, defrost := none, manual := none, fire := none }
  ({ a with table := t, stack := [], queue := if straight then [.base] else [],
            active := if straight then none else some .base, expiring := false },
    a.heldButBase.map fun s => ⟨.freedByStandby, s⟩)

/-- The entry into STANDBY from STOPPING (R23): BASE becomes PENDING at the head of the queue. -/
def Arb.enterStandby (a : Arb) : Arb :=
  { a with active := none, expiring := false, stack := a.stack.filter (· != .base),
           queue := .base :: a.queue.filter (· != .base) }

/-- The run time of a timed active demand decreases by 1 (R14). The second that would bring it to 0 is taken with the
slot, by the expiry: it is marked, and the run time stays within its range of R2 (log 3). -/
def Arb.countRun (a : Arb) : Arb :=
  match a.active with
  | none => a
  | some s => match a.table.get s with
    | none => a
    | some d => match d.run with
      | none => a
      | some n =>
        if n ≤ 1 then { a with expiring := true }
        else { a with table := a.table.put s (some { d with run := some (n - 1) }) }

/-- The active demand's last second has passed: it expires (R14). -/
def Arb.expiryDue (a : Arb) : Option Slot := if a.expiring then a.active else none

/-- The post watch matches a post of `s` at the level taken (R20). -/
def Watch.hits (w : Watch) (s : Slot) (slotFree : Bool) (level : Nat) : Bool :=
  w.enabled && w.slots.contains s && decide (w.levelMin ≤ level) && decide (level ≤ w.levelMax)
    && (w.mode == .all || slotFree)

/-- The level ceiling of a link origin (R3). -/
def Origin.ceiling : Origin → Nat
  | .occupant => 8
  | .system => 10
  | .service => 12
  | .internal => 15

/-- The slots a link origin may write (R3). -/
def Origin.mayWrite (o : Origin) (s : Slot) : Bool :=
  match o, s with
  | .occupant, .panel => true
  | .system, .schedule | .system, .panel => true
  | .service, .service | .service, .schedule | .service, .panel => true
  | _, _ => false

/-- The run time of a link post as taken (R6). -/
def Origin.clampRun (o : Origin) (run : Option Nat) : Option Nat :=
  match o, run with
  | .occupant, none => some 3600
  | .occupant, some t => some (clampN t 1 3600)
  | .service, none => none
  | _, none => some 14400
  | _, some t => some (clampN t 1 14400)

/-- The supply and extract flows of a demand; MANUAL carries none (R2). -/
def Demand.flows (d : Demand) (qbase : Nat) : Option (Nat × Nat) :=
  match d.carry with
  | .baseFlow => some (qbase, qbase)
  | .flows s e => some (s, e)
  | .duties _ _ => none

end Sys2Proof.Machine
end

