-- ==== Sys2Proof/Machine/Flags.lean ====
section
/-! DEFINITION. The sticky flags (R155), the notice queues (R178 to R180) and the capture record (R159, R160), each on
its own. -/

namespace Sys2Proof.Machine

/-- The flags in code order (R155). -/
def allFlags : List Flag :=
  [.stallSupply, .stallExtract, .shortfallSupply, .shortfallExtract, .pressureFault, .tempFault, .heaterCutout,
    .runOnCut, .defrostIncomplete, .frostDegraded, .sensorLost, .sensorBusFault, .filterDue, .filterCheckFailed,
    .doorUnplanned, .fireInput, .noticesLost, .storeFailed, .settingsDefaulted]

/-- The code of a flag (R155). -/
def Flag.code : Flag → Nat
  | .stallSupply => 1
  | .stallExtract => 2
  | .shortfallSupply => 3
  | .shortfallExtract => 4
  | .pressureFault => 5
  | .tempFault => 6
  | .heaterCutout => 7
  | .runOnCut => 8
  | .defrostIncomplete => 9
  | .frostDegraded => 10
  | .sensorLost => 11
  | .sensorBusFault => 12
  | .filterDue => 13
  | .filterCheckFailed => 14
  | .doorUnplanned => 15
  | .fireInput => 16
  | .noticesLost => 17
  | .storeFailed => 18
  | .settingsDefaulted => 19

/-- The flag a code names, 1 to 19 (R155). -/
def flagOfCode (c : Nat) : Option Flag := if c = 0 then none else allFlags[c - 1]?

/-- Whether a flag is set. -/
def FlagSet.get (f : FlagSet) : Flag → Bool
  | .stallSupply => f.stallSupply
  | .stallExtract => f.stallExtract
  | .shortfallSupply => f.shortfallSupply
  | .shortfallExtract => f.shortfallExtract
  | .pressureFault => f.pressureFault
  | .tempFault => f.tempFault
  | .heaterCutout => f.heaterCutout
  | .runOnCut => f.runOnCut
  | .defrostIncomplete => f.defrostIncomplete
  | .frostDegraded => f.frostDegraded
  | .sensorLost => f.sensorLost
  | .sensorBusFault => f.sensorBusFault
  | .filterDue => f.filterDue
  | .filterCheckFailed => f.filterCheckFailed
  | .doorUnplanned => f.doorUnplanned
  | .fireInput => f.fireInput
  | .noticesLost => f.noticesLost
  | .storeFailed => f.storeFailed
  | .settingsDefaulted => f.settingsDefaulted

/-- The flag set with one flag set or cleared. -/
def FlagSet.put (f : FlagSet) (g : Flag) (v : Bool) : FlagSet :=
  match g with
  | .stallSupply => { f with stallSupply := v }
  | .stallExtract => { f with stallExtract := v }
  | .shortfallSupply => { f with shortfallSupply := v }
  | .shortfallExtract => { f with shortfallExtract := v }
  | .pressureFault => { f with pressureFault := v }
  | .tempFault => { f with tempFault := v }
  | .heaterCutout => { f with heaterCutout := v }
  | .runOnCut => { f with runOnCut := v }
  | .defrostIncomplete => { f with defrostIncomplete := v }
  | .frostDegraded => { f with frostDegraded := v }
  | .sensorLost => { f with sensorLost := v }
  | .sensorBusFault => { f with sensorBusFault := v }
  | .filterDue => { f with filterDue := v }
  | .filterCheckFailed => { f with filterCheckFailed := v }
  | .doorUnplanned => { f with doorUnplanned := v }
  | .fireInput => { f with fireInput := v }
  | .noticesLost => { f with noticesLost := v }
  | .storeFailed => { f with storeFailed := v }
  | .settingsDefaulted => { f with settingsDefaulted := v }

/-- The flag set with every flag of a list set to `v`. -/
def FlagSet.putAll (f : FlagSet) (gs : List Flag) (v : Bool) : FlagSet := gs.foldl (fun h g => h.put g v) f

/-- The flags that are set, in code order. -/
def FlagSet.list (f : FlagSet) : List Flag := allFlags.filter f.get

/-- The code of a notice kind (R178). -/
def NoticeKind.code : NoticeKind → Nat
  | .demandChanged => 1
  | .fanState => 2
  | .flowShortfall => 3
  | .frostStage => 4
  | .defrostStarted => 5
  | .defrostEnded => 6
  | .humidityBoost => 7
  | .sensorState => 8
  | .filterResult => 9
  | .filterState => 10
  | .door => 11
  | .captureTaken => 12
  | .stateChanged => 13
  | .settingsStored => 14

/-- A two-part notice value: the first part in the high 16 bits, the second in the low 16 bits (R178). -/
def twoPart (hi lo : Nat) : Int := (hi * 65536 + lo : Nat)

/-- The entry has the kind and subject of a notice (R179). -/
def Notice.same (a b : Notice) : Bool := a.kind == b.kind && a.subject == b.subject

/-- An entry with a notice merged into it (R179): the new value and uptime, repeat one more, stopping at 15. -/
def Notice.merge (old new : Notice) : Notice :=
  { old with value := new.value, uptime := new.uptime, repeats := bump old.repeats 15 }

/-- A notice offered to a queue of capacity `cap` (R179): it coalesces, joins the tail, or is dropped, and the lost count
then rises (R180). The second part says whether it was dropped. -/
def NoticeQueue.offer (q : NoticeQueue) (cap : Nat) (n : Notice) : NoticeQueue × Bool :=
  if q.entries.any (·.same n) then
    ({ q with entries := q.entries.map fun e => if e.same n then e.merge n else e }, false)
  else if q.entries.length < cap then ({ q with entries := q.entries ++ [n] }, false)
  else ({ q with lost := bump q.lost 255 }, true)

/-- What GET_NOTICES takes from a queue (R180): the lost count and up to 8 of the oldest entries. -/
def NoticeQueue.fetch (q : NoticeQueue) : NoticeQueue × Nat × List Notice :=
  (⟨q.entries.drop 8, 0⟩, q.lost, q.entries.take 8)

/-- A capture offered to the record (R160). The second part says whether it was taken. -/
def Sup.offer (u : Sup) (c : Capture) : Sup × Bool :=
  match u.capture with
  | none => ({ u with capture := some c, missed := 0 }, true)
  | some _ => ({ u with missed := bump u.missed 255 }, false)

/-- The capture is of kind FAULT. -/
def Capture.isFault : Capture → Bool
  | .fault _ _ _ _ => true
  | .watch _ _ _ _ _ _ _ _ => false

end Sys2Proof.Machine
end

