-- ==== Sys2Proof/Machine/Operands.lean ====
section
/-! DEFINITION. Frames and fields: the two CRCs (R87, R168), the receiver (R169), the bytes of a field (R174), the images
under the CRCs of the nonvolatile copies (R140, R185) and the fields of each request's payload (R175). -/

namespace Sys2Proof.Machine

/-! ### CRCs -/

/-- One bit of a CRC-16 with polynomial 0x1021 (R168). -/
def crc16Bit (r : BitVec 16) : BitVec 16 := if r.msb then (r <<< 1) ^^^ 0x1021#16 else r <<< 1

/-- One byte of a CRC-16, most significant bit first (R168). -/
def crc16Byte (r : BitVec 16) (b : Byte) : BitVec 16 :=
  let r := r ^^^ (b.setWidth 16 <<< 8)
  crc16Bit (crc16Bit (crc16Bit (crc16Bit (crc16Bit (crc16Bit (crc16Bit (crc16Bit r)))))))

/-- The CRC-16 of a byte sequence, from 0xFFFF (R168). -/
def crc16 (bs : List Byte) : BitVec 16 := bs.foldl crc16Byte 0xFFFF#16

/-- One bit of the sensor CRC-8 with polynomial x⁸+x⁵+x⁴+1 (R87). -/
def crc8Bit (r : BitVec 8) : BitVec 8 := if r.msb then (r <<< 1) ^^^ 0x31#8 else r <<< 1

/-- One byte of the sensor CRC-8, most significant bit first (R87). -/
def crc8Byte (r : BitVec 8) (b : Byte) : BitVec 8 :=
  let r := r ^^^ b
  crc8Bit (crc8Bit (crc8Bit (crc8Bit (crc8Bit (crc8Bit (crc8Bit (crc8Bit r)))))))

/-- The CRC-8 of a byte sequence, from 0 (R87). -/
def crc8 (bs : List Byte) : BitVec 8 := bs.foldl crc8Byte 0#8

/-! ### The bytes of a field (R174) -/

/-- A quantity within 0 to 255. -/
def u8 (n : Nat) : List Byte := [BitVec.ofNat 8 n]
/-- A quantity within 0 to 65535, high byte first. -/
def u16 (n : Nat) : List Byte := [BitVec.ofNat 8 (n / 256), BitVec.ofNat 8 n]
/-- A four-byte quantity, high byte first. -/
def u32 (n : Nat) : List Byte := u16 (n / 65536) ++ u16 n
/-- A signed two-byte quantity, two's complement. -/
def s16 (i : Int) : List Byte := u16 (BitVec.ofInt 16 i).toNat
/-- A signed four-byte quantity, two's complement. -/
def s32 (i : Int) : List Byte := u32 (BitVec.ofInt 32 i).toNat
/-- A yes/no field. -/
def yesNo (b : Bool) : List Byte := u8 (if b then 1 else 0)
/-- An optional field: a presence byte, then the value's bytes, zeros when absent; `width` is their number. -/
def opt (width : Nat) (enc : α → List Byte) : Option α → List Byte
  | some a => u8 1 ++ enc a
  | none => u8 0 ++ List.replicate width 0
/-- A list: a count byte, then the items. -/
def listOf (enc : α → List Byte) (l : List α) : List Byte := u8 l.length ++ l.flatMap enc

/-! ### Nonvolatile images -/

/-- What the CRC of a settings copy covers: the values, then the write count (R185; layout: log 21). -/
def SettingsCopy.image (c : SettingsCopy) : List Byte := c.values.flatMap s32 ++ u32 c.writeCount

/-- The CRC-16 of a settings copy matches (R185, R186). -/
def SettingsCopy.crcOk (c : SettingsCopy) : Bool := crc16 c.image == c.crc

/-- A settings copy as a completed write leaves it (R185). -/
def SettingsCopy.sealed (values : List Int) (count : Nat) : SettingsCopy :=
  let c : SettingsCopy := { values := values, writeCount := count, crc := 0 }
  { c with crc := crc16 c.image }

/-- A settings copy that is being written: its CRC does not match (R185, log 21). -/
def SettingsCopy.spoiled (c : SettingsCopy) : SettingsCopy := { c with crc := crc16 c.image ^^^ 0xFFFF }

/-- The data of a filter entry as the filter block holds it, in the order of R140 (layout: log 21). -/
def FilterData.image (d : FilterData) : List Byte :=
  opt 2 u16 d.baseline ++ opt 2 u16 d.lastRef ++ opt 1 u8 d.loading ++ u16 d.hoursSinceChange ++ u16 d.hoursSinceDue
    ++ listOf (fun e => u32 e.1 ++ u16 e.2) d.history ++ opt 2 u16 d.projected

/-- What the CRC of a filter block copy covers: its contents (R140; layout: log 21). -/
def FilterBlock.image (b : FilterBlock) : List Byte :=
  b.supply.image ++ b.extract.image ++ u32 b.runHours ++ u16 b.hoursSinceCheck

/-- The CRC-16 of a filter block copy matches (R140). -/
def FilterCopy.crcOk (c : FilterCopy) : Bool := crc16 c.block.image == c.crc

/-- A filter block copy as a completed write leaves it (R140). -/
def FilterCopy.sealed (b : FilterBlock) (count : Nat) : FilterCopy :=
  { block := b, writeCount := count, crc := crc16 b.image }

/-- A filter block copy that is being written: its CRC does not match (R140, log 21). -/
def FilterCopy.spoiled (c : FilterCopy) : FilterCopy := { c with crc := crc16 c.block.image ^^^ 0xFFFF }

/-- A two-byte field of a request. -/
def be16 (a b : Byte) : Nat := a.toNat * 256 + b.toNat

/-- A four-byte setting value of a request, two's complement (R182). -/
def be32 (a b c d : Byte) : Int := (a ++ b ++ c ++ d : BitVec 32).toInt

/-- A run time of a request: a mode byte, 0 for seconds, then two bytes (R174). None is UNTIMED. -/
def runTimeField (mode a b : Byte) : Option Nat := if mode = 0 then some (be16 a b) else none

/-! ### The receiver (R169) -/

/-- A frame from the bytes after the start marker, once they are complete: length, kind, tag, payload, CRC. None where
the CRC differs. -/
def frameOf (got : List Byte) : Option Frame :=
  match got with
  | len :: kind :: tag :: rest =>
    let payload := rest.take len.toNat
    match rest.drop len.toNat with
    | [hi, lo] =>
      if crc16 (len :: kind :: tag :: payload) = hi ++ lo then some { kind := kind, tag := tag, payload := payload }
      else none
    | _ => none
  | _ => none

/-- How many bytes after the start marker make the frame whole (R168). -/
def frameLength (got : List Byte) : Nat :=
  match got with
  | len :: _ => len.toNat + 5
  | [] => 5

/-- What a byte does to a receiver (R169): it is taken as an ordinary byte and the receiver goes on, it is a frame
error, or it completes a frame whose CRC matches. -/
inductive Received where
  | ordinary (r : Receiver)
  | error
  | arrived (f : Frame)
deriving DecidableEq, Repr

/-- The start marker (R168). -/
def startMarker : Byte := 0x7E

/-- The event table of R169, for a byte and whether its stop bit was there. -/
def Receiver.byte (r : Receiver) (b : Byte) (stopOk : Bool) : Received :=
  match r with
  | .hunt counted =>
    if stopOk ∧ b = startMarker then .ordinary (.header [])
    else if counted then .ordinary (.hunt true) else .error
  | .header got =>
    if stopOk = false then .error
    else if got = [] ∧ Config.maxPayload < b.toNat then .error
    else
      let got := got ++ [b]
      if got.length < 3 then .ordinary (.header got) else .ordinary (.body got)
  | .body got =>
    if stopOk = false then .error
    else
      let got := got ++ [b]
      if got.length < frameLength got then .ordinary (.body got)
      else match frameOf got with
        | some f => .arrived f
        | none => .error

/-- The receiver after a frame error (R169): HUNT; a stray byte in HUNT is the one that is counted. -/
def Receiver.afterError : Receiver → Receiver
  | .hunt _ => .hunt true
  | .header _ | .body _ => .hunt false

/-- A frame is in reception (R169). -/
def Receiver.inFrame : Receiver → Bool
  | .hunt _ => false
  | .header _ | .body _ => true

/-! ### Links -/

/-- The record of a link. -/
def Lnk.link (k : Lnk) : Link → LinkRec
  | .main => k.main
  | .service => k.service

/-- LNK with the record of a link replaced. -/
def Lnk.setLink (k : Lnk) (l : Link) (r : LinkRec) : Lnk :=
  match l with
  | .main => { k with main := r }
  | .service => { k with service := r }

/-- The code of a link (R167). -/
def linkCode : Link → Nat
  | .main => 0
  | .service => 1

/-- The mode of a link (R167). -/
def linkMode : Link → Origin
  | .main => .system
  | .service => .service

/-- The stated origin a byte names (R171). -/
def statedOrigin (b : Byte) : Option Origin :=
  if b = 0 then some .occupant else if b = 1 then some .system else if b = 2 then some .service else none

/-- The effective origin: the less privileged of the stated origin and the link's mode (R171). -/
def effectiveOrigin (stated mode : Origin) : Origin := if stated.rank ≤ mode.rank then stated else mode

/-- The result codes (R172). -/
inductive Result where
  | ok | clamped | refusedState | notPermitted | badRequest | busy | held | notOwner | blocked
deriving DecidableEq, Repr

/-- The code of a result (R172). -/
def Result.code : Result → Nat
  | .ok => 0
  | .clamped => 1
  | .refusedState => 2
  | .notPermitted => 3
  | .badRequest => 4
  | .busy => 5
  | .held => 6
  | .notOwner => 7
  | .blocked => 8

/-- An owning block's answer: a result and the reply fields after it (R172). -/
structure Reply where
  result : Result
  fields : List Byte
deriving DecidableEq, Repr

/-- A refused reply without fields (R172). -/
def Reply.bare (r : Result) : Reply := { result := r, fields := [] }

/-- The reply frame of a request (R168, R172). -/
def replyFrame (f : Frame) (o : Origin) (r : Reply) : Frame :=
  { kind := f.kind + 0x80, tag := f.tag, payload := u8 r.result.code ++ u8 o.rank ++ r.fields }

/-- The bytes of a frame on the line (R168). -/
def Frame.bytes (f : Frame) : List Byte :=
  let body := BitVec.ofNat 8 f.payload.length :: f.kind :: f.tag :: f.payload
  let crc := crc16 body
  startMarker :: body ++ u16 crc.toNat

/-! ### Requests and their lengths (R171, R175) -/

/-- The request kinds (R175), in code order. -/
inductive RequestKind where
  | queryStatus | readDemands | postDemand | cancelDemand | readAirflow | readFrost | readSensors | probeSensor
  | readFilters | checkFilters | filterOpen | filterClose | filterChanged | getNotices | readFlags | clearFlags
  | readCapture | releaseCapture | setWatch | claimManual | releaseManual | manualOutputs | getSetting | setSetting
  | storeSettings | standby | wake | restart
deriving DecidableEq, Repr

/-- The code of a request kind (R175). -/
def RequestKind.code : RequestKind → Nat
  | .queryStatus => 0x01
  | .readDemands => 0x02
  | .postDemand => 0x03
  | .cancelDemand => 0x04
  | .readAirflow => 0x05
  | .readFrost => 0x06
  | .readSensors => 0x07
  | .probeSensor => 0x08
  | .readFilters => 0x09
  | .checkFilters => 0x0A
  | .filterOpen => 0x0B
  | .filterClose => 0x0C
  | .filterChanged => 0x0D
  | .getNotices => 0x0E
  | .readFlags => 0x0F
  | .clearFlags => 0x10
  | .readCapture => 0x11
  | .releaseCapture => 0x12
  | .setWatch => 0x13
  | .claimManual => 0x14
  | .releaseManual => 0x15
  | .manualOutputs => 0x16
  | .getSetting => 0x17
  | .setSetting => 0x18
  | .storeSettings => 0x19
  | .standby => 0x1A
  | .wake => 0x1B
  | .restart => 0x1C

/-- The kind byte names a request (R171, check 1). -/
def kindKnown (b : Byte) : Bool := decide (1 ≤ b.toNat) && decide (b.toNat ≤ 0x1C)

/-- The request fields, the payload after the stated origin, fit the kind (R171 check 3, R175). -/
def RequestKind.lengthFits (k : RequestKind) (fields : List Byte) : Bool :=
  match k with
  | .readDemands | .readSensors | .readFilters => decide (fields.length ≤ 1)
  | .postDemand => fields.length == 9
  | .cancelDemand | .probeSensor | .filterChanged | .getSetting => fields.length == 1
  | .manualOutputs => fields.length == 7
  | .setSetting => fields.length == 5
  | .clearFlags => match fields with
    | c :: codes => if c = 255 then codes.isEmpty else decide (c.toNat ≤ 19) && codes.length == c.toNat
    | [] => false
  | .setWatch => match fields with
    | _ :: _ :: _ :: _ :: _ :: c :: codes => decide (c.toNat ≤ 12) && codes.length == c.toNat
    | _ => false
  | .queryStatus | .readAirflow | .readFrost | .checkFilters | .filterOpen | .filterClose | .getNotices | .readFlags
  | .readCapture | .releaseCapture | .claimManual | .releaseManual | .storeSettings | .standby | .wake | .restart =>
    fields.isEmpty

end Sys2Proof.Machine
end

