-- ==== Sys2Proof/Machine/Ops.lean ====
section
/-! DEFINITION. The shared operations over the whole state: settings, notices, flags, captures, the demand table with
its reports and posts, the fan paths and targets, the preheater, run-on and cuts, and the propagation of a change
through the blocks. -/

namespace Sys2Proof.Machine

/-! ### One block replaced -/

/-- The state with OSC replaced by its image under `f`; the nine below likewise. -/
def State.updOsc (s : State) (f : Osc → Osc) : State := { s with osc := f s.osc }
/-- ARB replaced. -/
def State.updArb (s : State) (f : Arb → Arb) : State := { s with arb := f s.arb }
/-- AFC replaced. -/
def State.updAfc (s : State) (f : Afc → Afc) : State := { s with afc := f s.afc }
/-- FRG replaced. -/
def State.updFrg (s : State) (f : Frg → Frg) : State := { s with frg := f s.frg }
/-- The defrost record replaced. -/
def State.updDefrost (s : State) (f : Defrost → Defrost) : State :=
  s.updFrg fun g => { g with defrost := f g.defrost }
/-- HUM replaced. -/
def State.updHum (s : State) (f : Hum → Hum) : State := { s with hum := f s.hum }
/-- FLT replaced. -/
def State.updFlt (s : State) (f : Flt → Flt) : State := { s with flt := f s.flt }
/-- The check record replaced. -/
def State.updCheck (s : State) (f : Check → Check) : State := s.updFlt fun g => { g with check := f g.check }
/-- DIO replaced. -/
def State.updDio (s : State) (f : Dio → Dio) : State := { s with dio := f s.dio }
/-- SUP replaced. -/
def State.updSup (s : State) (f : Sup → Sup) : State := { s with sup := f s.sup }
/-- LNK replaced. -/
def State.updLnk (s : State) (f : Lnk → Lnk) : State := { s with lnk := f s.lnk }
/-- A link's record is replaced by its image. -/
def State.updLink (s : State) (l : Link) (f : LinkRec → LinkRec) : State :=
  s.updLnk fun k => k.setLink l (f (k.link l))

/-- One free value has been used (log 20). -/
def State.useFree (s : State) : State := { s with freeCount := s.freeCount + 1 }

/-- The oldest frame of a link that is still to be handed on, if LNK hands frames on at all (R170, R191). -/
def State.nextFrame (s : State) (l : Link) : Option Frame :=
  if s.lnk.restarting.isSome then none else (s.lnk.link l).waiting.head?

/-! ### Settings as the blocks read them -/

/-- A NOW-class setting, read when used (R182). -/
def State.setting (s : State) (id : Nat) : Nat := settingNat s.osc.working id

/-- A START-class setting, as copied at the settings load (R182, R186). -/
def State.inUse (s : State) (id : Nat) : Nat := settingNat s.osc.inUse id

/-- "heater fitted" as FRG uses it (R186). -/
def State.heaterFitted (s : State) : Bool := s.inUse 28 == 1

/-! ### Notices, flags, captures -/

/-- The code of a device state (R174). -/
def DevState.code : DevState → Nat
  | .starting => 0
  | .running => 1
  | .doorOpen => 2
  | .servicePrepare => 3
  | .filterService => 4
  | .stopping => 5
  | .standby => 6
  | .waking => 7

/-- A flag is set (R155). -/
def State.setFlag (s : State) (f : Flag) : State := s.updSup fun u => { u with flags := u.flags.put f true }

/-- A notice offered to the main queue, if its kind is in "main notice kinds" (R178). -/
def State.offerMain (s : State) (n : Notice) : State :=
  if inMask (settingVal s.osc.working 83) n.kind.code then
    let r := s.lnk.mainQueue.offer Config.mainCapacity n
    let s := s.updLnk fun k => { k with mainQueue := r.1 }
    if r.2 then s.setFlag .noticesLost else s
  else s

/-- A notice offered to the service queue, if its kind is in "service notice kinds" (R178). -/
def State.offerService (s : State) (n : Notice) : State :=
  if inMask (settingVal s.osc.working 84) n.kind.code then
    let r := s.lnk.serviceQueue.offer Config.serviceCapacity n
    let s := s.updLnk fun k => { k with serviceQueue := r.1 }
    if r.2 then s.setFlag .noticesLost else s
  else s

/-- A notice is raised (R178): each queue is offered it, independently. -/
def State.raise (s : State) (k : NoticeKind) (subject : Nat) (value : Int) : State :=
  let n : Notice := { kind := k, subject := subject, value := value, uptime := s.osc.uptime, repeats := 1 }
  (s.offerMain n).offerService n

/-- The value of CAPTURE_TAKEN: the kind, and the fault code or the slot (R160, R178). -/
def Capture.noticeValue : Capture → Int
  | .fault f _ _ _ => twoPart 0 f.code
  | .watch slot _ _ _ _ _ _ _ => twoPart 1 slot.code

/-- A capture offered to the record (R160); when it is taken, CAPTURE_TAKEN is raised. -/
def State.offerCapture (s : State) (c : Capture) : State :=
  let r := s.sup.offer c
  let s := s.updSup fun _ => r.1
  if r.2 then s.raise .captureTaken 0 c.noticeValue else s

/-- A FAULT capture is offered (R159); its value is carried in −32768 to 32767. R159 says so of DEFROST_INCOMPLETE; of a raw
pressure or temperature beyond that range the model carries the nearest end (log 68). -/
def State.offerFault (s : State) (f : Flag) (subject : Nat) (value : Int) : State :=
  s.offerCapture (.fault f subject (clampI value (-32768) 32767) s.osc.uptime)

/-- An occurrence of a fault: the flag is set and a FAULT capture is offered (R155). -/
def State.faultEvent (s : State) (f : Flag) (subject : Nat) (value : Int) : State :=
  (s.setFlag f).offerFault f subject value

/-! ### The demand table in the whole -/

/-- The code of a slot, or 0 for none (R1). -/
def slotCode : Option Slot → Nat
  | some s => s.code
  | none => 0

/-- The code of a check trigger and of a check outcome (R126, R174). -/
def CheckTrigger.code : CheckTrigger → Nat
  | .scheduled => 0
  | .requested => 1
  | .shortfall => 2

/-- The code of a check outcome; NONE is 0 (R126, R174). -/
def outcomeCode : Option CheckOutcome → Nat
  | none => 0
  | some .completed => 1
  | some .deferred => 2
  | some .settleTimeout => 3
  | some .interrupted => 4
  | some .sensorFault => 5
  | some .door => 6

/-- FILTER_RESULT is raised with the outcome and the trigger (R131, R178). -/
def State.raiseFilterResult (s : State) : State :=
  s.raise .filterResult 0
    (twoPart (outcomeCode s.flt.check.outcome) (match s.flt.check.trigger with | some t => t.code | none => 0))

/-- The record of a check that ends with `o` (R131, R133): the outcome is recorded in the record and in both entries,
the phase becomes IDLE, and the test of R127 at a check end becomes due. -/
def State.recordCheckEnd (s : State) (o : CheckOutcome) : State :=
  s.updFlt fun t =>
    { t with
      supply := { t.supply with lastOutcome := some o }
      extract := { t.extract with lastOutcome := some o }
      check := { t.check with outcome := some o, phase := .idle }
      startTestDue := true }

/-- The samples and sums are discarded (R130, R132, R133), and a settle timeout that is still to be taken falls (log 71). -/
def Check.discard (c : Check) : Check :=
  { c with samples := 0, supplyDp := 0, supplyQ := 0, extractDp := 0, extractQ := 0, timeoutDue := false }

/-- A frost cap is in force (R63). -/
def State.capInForce (s : State) : Bool := decide (0 < s.frg.imbalance)

/-- The check passes from WAITING to SETTLE when FILTER_CHECK is ACTIVE and no cap is in force (R129). -/
def State.trySettle (s : State) : State :=
  if s.flt.check.phase = .waiting ∧ s.arb.active = some .filterCheck ∧ s.capInForce = false then
    s.updCheck fun c => { c with phase := .settle, settle := 0, stable := 0, timeoutDue := false }
  else s

/-- FILTER_CHECK has become SUSPENDED (R132): the check returns to WAITING and counts a suspension; at the third it is
abandoned with INTERRUPTED (R133). The slot is waiting, so its withdrawal changes no active slot. -/
def State.checkPreempted (s : State) : State :=
  if s.flt.check.phase = .settle ∨ s.flt.check.phase = .sample then
    let s := s.updCheck fun c =>
      { c.discard with phase := .waiting, stable := 0, suspensions := bump c.suspensions Config.checkSuspensions }
    if Config.checkSuspensions ≤ s.flt.check.suspensions then
      ((s.recordCheckEnd .interrupted).updArb fun a => (a.free .filterCheck).1).raiseFilterResult
    else s
  else s

/-- FILTER_CHECK has been freed by standby (R133): the check in flight is abandoned with DEFERRED. -/
def State.checkFreedByStandby (s : State) : State :=
  if s.flt.check.phase = .idle then s
  else ((s.recordCheckEnd .deferred).updCheck Check.discard).raiseFilterResult

/-- DEFROST has become ACTIVE (R71): the first entry into RUNNING counts and raises DEFROST_STARTED; a resumption does
neither. -/
def State.defrostActive (s : State) : State :=
  match s.frg.defrost.phase with
  | .posted =>
    let s := s.updDefrost fun d =>
      { d with phase := .running, started := true, count := bump d.count 65535, runSince := s.osc.uptime, endDue := none }
    s.raise .defrostStarted 0 s.frg.defrost.count
  | .suspended =>
    s.updDefrost fun d => { d with phase := .running, confirm := 0, runSince := s.osc.uptime, endDue := none }
  | .idle | .prepare | .running | .confirm | .lockout => s

/-- DEFROST has become SUSPENDED (R71). -/
def State.defrostPreempted (s : State) : State :=
  match s.frg.defrost.phase with
  | .running | .confirm => s.updDefrost fun d => { d with phase := .suspended, confirm := 0, endDue := none }
  | .idle | .prepare | .posted | .suspended | .lockout => s

/-- A report of ARB is taken by the slot's poster (R16). What the table below leaves out changes nothing in the poster:
OSC (BASE), SUP (R165), HUM and DIO for ACTIVE and SUSPENDED (R113, R149). R79 treats DEFROST freed by standby with
the acceptance. -/
def State.takeReport (s : State) (r : Report) : State :=
  match r.kind, r.slot with
  | .active, .defrost => s.defrostActive
  | .suspended, .defrost => s.defrostPreempted
  | .active, .filterCheck => s.trySettle
  | .suspended, .filterCheck => s.checkPreempted
  | .freedByStandby, .filterCheck => s.checkFreedByStandby
  | .freedByExpiry, .inputBoost | .freedByStandby, .inputBoost => s.updDio fun d => { d with boostMark := false }
  | .freedByExpiry, .inputHood | .freedByStandby, .inputHood => s.updDio fun d => { d with hoodMark := false }
  | .freedByExpiry, .fire | .freedByStandby, .fire => s.updDio fun d => { d with fireMark := false }
  | .freedByStandby, .humidity => s.updHum fun h => { h with humidityMark := false }
  | .freedByStandby, .dryness => s.updHum fun h => { h with drynessMark := false }
  | _, _ => s

/-- A change of the demand table takes effect: DEMAND_CHANGED is raised when the active slot changes (R17), and the
internal posters take their reports (R16), with the notices of theirs after it (log 72). -/
def State.applyArb (s : State) (r : Arb × List Report) : State :=
  let prev := s.arb.active
  let s := s.updArb fun _ => r.1
  let s := if r.1.active = prev then s
    else s.raise .demandChanged (slotCode r.1.active) (twoPart r.1.activeLevel (slotCode prev))
  (r.2.filter (·.slot.internal)).foldl State.takeReport s

/-- An internal job withdraws its slot (R13). -/
def State.withdraw (s : State) (slot : Slot) : State := s.applyArb (s.arb.free slot)

/-- The posting states (R5). -/
def DevState.posting : DevState → Bool
  | .running | .doorOpen | .servicePrepare | .filterService => true
  | .starting | .stopping | .standby | .waking => false

/-- What ARB answers a poster (R5). -/
inductive PostAnswer where
  | ok | blocked | refusedState
deriving DecidableEq, Repr

/-- The two figures of a WATCH capture: flows, or MANUAL's duties (R21). -/
def Carry.figures : Carry → Nat × Nat
  | .baseFlow => (0, 0)
  | .flows s e => (s, e)
  | .duties s e => (s, e)

/-- The post watch tests a post (R20) and handles a match (R21). The second part says whether it blocks the post. -/
def State.watchTest (s : State) (slot : Slot) (requested : Nat) (p : PostArgs) (link : Option Link) : State × Bool :=
  if s.arb.watch.hits slot (s.arb.isFree slot) p.level then
    match s.sup.capture with
    | some (.fault _ _ _ _) => (s.updSup fun u => { u with missed := bump u.missed 255 }, false)
    | _ =>
      (s.offerCapture (.watch slot p.origin requested p.level p.carry.figures.1 p.carry.figures.2 link s.osc.uptime),
        s.arb.watch.action == .block && slot != .defrost && slot != .fire)
  else (s, false)

/-- A post through checks 1, 5 and 6 of R5. -/
def State.postCore (s : State) (slot : Slot) (requested : Nat) (p : PostArgs) (link : Option Link) :
    State × PostAnswer :=
  if s.osc.device.posting then
    let w := s.watchTest slot requested p link
    if w.2 then (w.1, .blocked) else (w.1.applyArb (w.1.arb.post slot p w.1.osc.uptime), .ok)
  else (s, .refusedState)

/-- An internal post (R4): origin INTERNAL, and no link. -/
def State.internalPost (s : State) (slot : Slot) (level : Nat) (c : Carry) (run : Option Nat) : State × PostAnswer :=
  s.postCore slot level { level := level, origin := .internal, carry := c, run := run } none

/-! ### Fan paths -/

/-- The code of a path (R159, R178). -/
def pathCode : PathId → Nat
  | .supply => 0
  | .extract => 1

/-- The code of a path state (R174). -/
def PathState.code : PathState → Nat
  | .off => 0
  | .spinup => 1
  | .regulating => 2
  | .saturated => 3
  | .hold => 4
  | .manual => 5
  | .stalled => 6
  | .failed => 7

/-- The stall-checked states (R28). -/
def PathState.stallChecked : PathState → Bool
  | .regulating | .saturated | .hold | .manual => true
  | .off | .spinup | .stalled | .failed => false

/-- The path regulates on its measured flow (R34): REGULATING or SATURATED. -/
def PathState.regulates : PathState → Bool
  | .regulating | .saturated => true
  | .off | .spinup | .hold | .manual | .stalled | .failed => false

/-- The path is running (R28). -/
def FanPath.running (p : FanPath) : Bool :=
  match p.state with
  | .spinup | .regulating | .saturated | .hold => true
  | .manual => decide (0 < p.duty)
  | .off | .stalled | .failed => false

/-- The stall condition (R38). -/
def FanPath.stallCond (p : FanPath) (stallSpeed : Nat) : Bool :=
  p.state.stallChecked && decide (200 ≤ p.duty) && decide (p.speed < stallSpeed)

/-- The shortfall condition (R42). -/
def FanPath.shortCond (p : FanPath) : Bool :=
  match p.state, p.flow, p.target with
  | .saturated, some q, some t => decide (q * 100 < t * 90)
  | _, _, _ => false

/-- A lapsed stall or shortfall condition starts over (R38, R42). -/
def FanPath.lapse (p : FanPath) (stallSpeed : Nat) : FanPath :=
  let p := if p.stallCond stallSpeed then p else { p with stallTime := 0 }
  if p.shortCond then p else { p with shortfallTime := 0, shortfallStanding := false }

/-- The path enters OFF (R31); the retry count is kept. -/
def FanPath.toOff (p : FanPath) : FanPath :=
  { p with state := .off, duty := 0, spinupTime := 0, retryTime := 0, goodTime := 0, goodTiming := false,
           stallTime := 0, shortfallTime := 0, shortfallStanding := false }

/-- The path enters SPINUP at "start duty" (R32, R39, R40). The duty is the setting's value at the entry; a later change
of the setting does not move it (log 50). -/
def FanPath.toSpinup (p : FanPath) (startDuty : Nat) : FanPath :=
  { p with state := .spinup, duty := startDuty, spinupTime := 0, retryTime := 0, goodTime := 0, goodTiming := false,
           stallTime := 0, shortfallTime := 0, shortfallStanding := false }

/-- What a path is asked to serve: its new target, its manual duty while MANUAL is the active slot and the device does
not hold the fans stopped, whether MANUAL has just become the active slot, and the settings of R32, R33 and R35. -/
structure Serve where
  target : Option Nat
  manual : Option Nat
  becameManual : Bool
  startDuty : Nat
  minDuty : Nat
  stallSpeed : Nat
deriving DecidableEq, Repr

/-- A path under MANUAL (R31, R32, R36). A drive request of 0 stops a path in SPINUP or STALLED (log 27). -/
def FanPath.serveManual (p : FanPath) (v : Serve) (duty : Nat) : FanPath :=
  match p.state with
  | .off =>
    if v.becameManual then { p with state := .manual, duty := duty }
    else if 0 < duty then p.toSpinup v.startDuty else p
  | .spinup | .stalled => if duty = 0 then p.toOff else p
  | .regulating | .saturated | .hold | .manual => { p with state := .manual, duty := duty }
  | .failed => p

/-- A path under a target `t` (R31, R32, R35, R36); `old` is its target before. -/
def FanPath.serveTarget (p : FanPath) (v : Serve) (old : Option Nat) (t : Nat) : FanPath :=
  match p.state with
  | .off => if 0 < t then p.toSpinup v.startDuty else p
  | .spinup | .stalled | .regulating | .saturated => if t = 0 then p.toOff else p
  | .hold =>
    if t = 0 then p.toOff
    else match old with
      | some o => if 0 < o ∧ o ≠ t then { p with duty := clampN (p.duty * t / o) v.minDuty 1000 } else p
      | none => p
  | .manual =>
    if t = 0 then p.toOff
    else if v.stallSpeed ≤ p.speed then
      { p with state := if p.faulted then .hold else .regulating, duty := clampN p.duty v.minDuty 1000 }
    else p.toSpinup v.startDuty
  | .failed => p

/-- A path takes what it is asked to serve (2.6). -/
def FanPath.serve (p : FanPath) (v : Serve) : FanPath :=
  let q := { p with target := v.target }
  (match v.manual with
    | some d => q.serveManual v d
    | none => q.serveTarget v p.target (v.target.getD 0)).lapse v.stallSpeed

/-- The record of a path. -/
def Afc.path (a : Afc) : PathId → FanPath
  | .supply => a.supply
  | .extract => a.extract

/-- AFC with the record of a path replaced. -/
def Afc.setPath (a : Afc) (i : PathId) (p : FanPath) : Afc :=
  match i with
  | .supply => { a with supply := p }
  | .extract => { a with extract := p }

/-- A path's record is replaced; a change of its state raises FAN_STATE (R43). -/
def State.movePath (s : State) (i : PathId) (p : FanPath) : State :=
  let old := (s.afc.path i).state
  let s := s.updAfc (·.setPath i p)
  if p.state = old then s else s.raise .fanState (pathCode i) p.state.code

/-- Extract loss (R41). -/
def State.extractLoss (s : State) : Bool := s.afc.extract.state == .stalled || s.afc.extract.state == .failed

/-- The device holds both fans stopped (R28, R29 case 1). -/
def DevState.fansStopped : DevState → Bool
  | .starting | .waking | .standby | .doorOpen | .filterService => true
  | .running | .servicePrepare | .stopping => false

/-- The extract flow of the active demand, 0 without one and for MANUAL (R63). -/
def State.activeExtract (s : State) : Nat :=
  match s.arb.activeDemand with
  | some d => match d.flows (s.setting 1) with
    | some f => f.2
    | none => 0
  | none => 0

/-- The frost cap C, absent while none is in force (R63). -/
def State.capC (s : State) : Option Nat :=
  if s.capInForce then some (max (s.setting 2) (s.activeExtract * (100 - s.frg.imbalance) / 100)) else none

/-- The targets of a demand other than FIRE and MANUAL (R30): hood allowance, frost cap, run-on, extract loss. -/
def State.resolveDemand (s : State) (supply extract : Nat) : Nat × Nat :=
  let t := min supply (extract + s.setting 4)
  let t := match s.capC with
    | some c => min t c
    | none => t
  let t := if 0 < s.frg.runOn then max t (s.setting 5) else t
  (if s.extractLoss then 0 else t, extract)

/-- Target resolution (R29). -/
def State.resolve (s : State) : Option Nat × Option Nat :=
  if s.osc.device.fansStopped then (some 0, some 0)
  else match s.arb.active, s.arb.activeDemand with
    | some .manual, _ => (none, none)
    | some slot, some d => match d.flows (s.setting 1) with
      | some f =>
        if slot = .fire then (some f.1, some f.2)
        else ((fun r => (some r.1, some r.2)) (s.resolveDemand f.1 f.2))
      | none => (some 0, some 0)
    | _, _ => (some 0, some 0)

/-- The manual duties that the paths serve: those of the MANUAL record while MANUAL is the active slot and the device
does not hold the fans stopped (R28, R36). -/
def State.manualDuties (s : State) : Option (Nat × Nat) :=
  if s.osc.device.fansStopped then none
  else match s.arb.active, s.arb.table.manual with
    | some .manual, some d => match d.carry with
      | .duties a b => some (a, b)
      | _ => none
    | _, _ => none

/-- What a path is asked to serve now. -/
def State.serveArgs (s : State) (i : PathId) : Serve :=
  { target := match i with | .supply => s.resolve.1 | .extract => s.resolve.2
    manual := s.manualDuties.map fun d => match i with | .supply => d.1 | .extract => d.2
    becameManual := s.arb.active == some .manual && s.afc.served != some .manual
    startDuty := s.setting 22
    minDuty := s.setting 21
    stallSpeed := s.setting 23 }

/-- The targets are resolved and reach a path at once (R29). -/
def State.servePath (s : State) (i : PathId) : State := s.movePath i ((s.afc.path i).serve (s.serveArgs i))

/-- The targets are resolved and reach both paths, the extract path first, since its state bears on the supply target
(R29, R41, log 6). -/
def State.serveFans (s : State) : State :=
  let s := (s.servePath .extract).servePath .supply
  s.updAfc fun a => { a with served := s.arb.active }

/-- The drive request of a path (R28). -/
def State.driveRequest (s : State) (i : PathId) : Nat :=
  let v := s.serveArgs i
  match v.manual with
  | some d => d
  | none => v.target.getD 0

/-! ### Preheater, run-on, cuts -/

/-- A defrost is in progress (R68). -/
def DefrostPhase.inProgress : DefrostPhase → Bool
  | .prepare | .posted | .running | .confirm | .suspended => true
  | .idle | .lockout => false

/-- A forcing condition of the heater request holds (R56). -/
def State.requestForced (s : State) : Bool :=
  s.osc.device != .running || !s.arb.isFree .manual || s.frg.defrost.phase.inProgress || !s.heaterFitted

/-- A forcing condition takes effect when it arises (R56). -/
def State.forceRequest (s : State) : State :=
  if s.requestForced then s.updFrg fun g => { g with request := 0 } else s

/-- The conditions of the applied duty (R57). -/
def State.heaterAllowed (s : State) : Bool :=
  s.osc.device == .running && s.afc.supply.state.regulates
    && (match s.afc.supply.flow with | some q => decide (s.setting 5 ≤ q) | none => false)
    && s.frg.cutout == .closed

/-- The cut conditions (R61), in the order of their subject codes (R159). -/
inductive CutSubject where
  | doorOpen | filterService | fire | extractLoss | supplyStall
deriving DecidableEq, Repr

/-- The subject code of a cut (R159). -/
def CutSubject.code : CutSubject → Nat
  | .doorOpen => 0
  | .filterService => 1
  | .fire => 2
  | .extractLoss => 3
  | .supplyStall => 4

/-- The first cut condition that holds (R61). -/
def State.cutCondition (s : State) : Option CutSubject :=
  if s.osc.device = .doorOpen then some .doorOpen
  else if s.osc.device = .filterService then some .filterService
  else if s.arb.active = some .fire then some .fire
  else if s.extractLoss then some .extractLoss
  else if s.afc.supply.state = .stalled ∨ s.afc.supply.state = .failed then some .supplyStall
  else none

/-- Where in its window of 10000 ms the heater stands: a free value within what the counted seconds allow (R58,
log 19). -/
def State.windowMs (s : State) : Nat :=
  let lo := (s.frg.windowSecs - 1) * 1000
  let hi := (s.frg.windowSecs + 1) * 1000
  min 9999 (lo + Config.freeWindowMs s.freeCount % (hi - lo))

/-- The heater output after a change of the duty from `old` to `new`, both above 0, inside a window (R58): at duty 1000
the ON time is the whole window. -/
def State.outputAfterChange (s : State) (old new : Nat) : Bool :=
  if s.frg.outputOn ∧ old ≤ new then true
  else if s.frg.outputOn = false ∧ new ≤ old then false
  else decide (s.windowMs < new * 10)

/-- The applied duty becomes `new` (R57), with the window (R58) and the run-on (R60): a fall to 0 starts run-on unless a
cut condition holds; a rise from 0 ends it. -/
def State.applyDuty (s : State) (new : Nat) : State :=
  let old := s.frg.applied
  if new = old then s
  else if new = 0 then
    let run := if s.cutCondition.isNone then s.setting 29 else s.frg.runOn
    s.updFrg fun g => { g with applied := 0, outputOn := false, windowSecs := 0, runOn := run }
  else if old = 0 then
    s.updFrg fun g => { g with applied := new, outputOn := true, windowSecs := 0, runOn := 0 }
  else
    let out := s.outputAfterChange old new
    (s.updFrg fun g => { g with applied := new, outputOn := out }).useFree

/-- The applied duty is re-derived (R57). -/
def State.deriveDuty (s : State) : State := s.applyDuty (if s.heaterAllowed then s.frg.request else 0)

/-- The device state changes; STATE_CHANGED is raised (R187). -/
def State.setDevice (s : State) (d : DevState) : State :=
  (s.updOsc fun o => { o with device := d }).raise .stateChanged 0 d.code

/-- The device enters STANDBY from STOPPING (R23, R189), with STATE_CHANGED before DEMAND_CHANGED (log 72). -/
def State.enterStandby (s : State) : State :=
  let s := s.setDevice .standby
  s.applyArb (s.arb.enterStandby, [])

/-- The device enters FILTER_SERVICE and the service timer starts (R135, R136). -/
def State.enterFilterService (s : State) : State :=
  (s.setDevice .filterService).updFlt fun t => { t with serviceTimer := s.setting 66, serviceEndDue := false }

/-- DEFROST is posted (R70): level 13, flows 0 and "defrost flow", UNTIMED. -/
def State.postDefrost (s : State) : State := (s.internalPost .defrost 13 (.flows 0 (s.setting 11)) none).1

/-- In PREPARE with the run-on timer at 0 the phase becomes POSTED and DEFROST is posted (R70). -/
def State.tryDefrostPost (s : State) : State :=
  if s.frg.defrost.phase = .prepare ∧ s.frg.runOn = 0 then
    (s.updDefrost fun d => { d with phase := .posted }).postDefrost
  else s

/-- The next command in the queue is a STANDBY that OSC accepts (R171, R189): it comes together with the event being taken
(R81, log 58). -/
def State.standbyNext (s : State) : Bool :=
  match s.pending with
  | .standby l :: _ => match s.nextFrame l with
    | some ⟨kind, _, [b]⟩ => s.osc.device == .running && kind.toNat == RequestKind.standby.code
      && (statedOrigin b).any fun o => decide (Origin.system.rank ≤ (effectiveOrigin o (linkMode l)).rank)
    | _ => false
  | _ => false

/-- The post of R70 where the run-on timer reaches 0 together with the acceptance of STANDBY and is taken first (R81): the
post is made, and FRG takes STANDBY's report before the report that DEFROST is ACTIVE, so the phase stays POSTED until
standby frees the slot (log 58). -/
def State.postDefrostBeforeStandby (s : State) : State :=
  let p : PostArgs := { level := 13, origin := .internal, carry := .flows 0 (s.setting 11), run := none }
  let w := (s.watchTest .defrost 13 p none).1
  let r := w.arb.post .defrost p w.osc.uptime
  w.applyArb (r.1, r.2.filter (·.slot != .defrost))

/-- The run-on timer has reached 0 with a defrost in PREPARE (R70, R81). -/
def State.defrostTimerEnd (s : State) : State :=
  if s.frg.defrost.phase = .prepare ∧ s.frg.runOn = 0 ∧ s.standbyNext = true then
    (s.updDefrost fun d => { d with phase := .posted }).postDefrostBeforeStandby
  else s.tryDefrostPost

/-- What waits for the run-on timer, once it is 0: a defrost in PREPARE (R70), STOPPING (R189), SERVICE_PREPARE
(R135). -/
def State.runOnEnded (s : State) : State :=
  let s := s.defrostTimerEnd
  match s.osc.device with
  | .stopping => s.enterStandby
  | .servicePrepare => s.enterFilterService
  | .starting | .running | .doorOpen | .filterService | .standby | .waking => s

/-- A run-on above 0 under a cut condition is cut (R61), with the capture before what the cut lets go on (log 72). -/
def State.cutRunOn (s : State) : State :=
  match s.cutCondition with
  | none => s
  | some c =>
    if 0 < s.frg.runOn then
      let left := s.frg.runOn
      ((s.updFrg fun g => { g with runOn := 0 }).faultEvent .runOnCut c.code left).runOnEnded
    else s

/-! ### Starting a check -/

/-- The filter sensors that are FAULTED (R127). -/
def State.filterSensorFaulted (s : State) : Bool :=
  s.flt.supply.sensor == .faulted || s.flt.extract.sensor == .faulted

/-- A check starts with a trigger (R127, R128). A FAULTED filter sensor ends it at once; a post that the watch blocks
undoes it. -/
def State.startCheck (s : State) (t : CheckTrigger) : State × PostAnswer :=
  if s.filterSensorFaulted then
    let s := s.updCheck fun c => { c with trigger := some t, scheduledDue := false, hoursSinceCheck := 0 }
    ((s.recordCheckEnd .sensorFault).raiseFilterResult, .ok)
  else
    let before := s.flt.check
    let s := s.updCheck fun c =>
      { c.discard with trigger := some t, waiting := 0, settle := 0, stable := 0, suspensions := 0,
                       scheduledDue := false, hoursSinceCheck := 0 }
    let r := s.internalPost .filterCheck 6 (.flows (s.setting 10) (s.setting 10)) none
    match r.2 with
    | .ok => ((r.1.updCheck fun c => { c with phase := .waiting }).trySettle, .ok)
    | a => (r.1.updCheck fun _ => before, a)

/-- The scheduled-start test of R127, where one is due. -/
def State.startTest (s : State) : State :=
  if s.flt.startTestDue then
    let s := s.updFlt fun t => { t with startTestDue := false }
    if s.flt.check.scheduledDue ∧ s.flt.check.phase = .idle ∧ s.osc.device = .running then
      (s.startCheck .scheduled).1
    else s
  else s

/-- A scheduled-start test becomes due (R127). -/
def State.dueStartTest (s : State) : State := s.updFlt fun t => { t with startTestDue := true }

/-! ### Propagation -/

/-- The frost stage that applies (R64). -/
def State.stageNow (s : State) : Stage :=
  if s.frg.defrost.phase.inProgress then .defrost
  else if 0 < s.frg.imbalance then .imbalance
  else if 0 < s.frg.applied then .preheat
  else .none

/-- The code of a stage (R64). -/
def Stage.code : Stage → Nat
  | .none => 0
  | .preheat => 1
  | .imbalance => 2
  | .defrost => 3

/-- The stage is derived; a change raises FROST_STAGE (R64). -/
def State.deriveStage (s : State) : State :=
  let g := s.stageNow
  if g = s.frg.stage then s else (s.updFrg fun f => { f with stage := g }).raise .frostStage 0 g.code

/-- One round of propagation: heater request, targets and fans, applied duty, cuts, a due check start (log 6). -/
def State.round (s : State) : State := ((s.forceRequest.serveFans).deriveDuty).cutRunOn.startTest

/-- A change is propagated through AFC, the preheater and FLT until nothing more follows from it: four rounds suffice
for the longest chain (log 6). Inside a frost evaluation this is all, since R64 derives the stage at its step 6. -/
def State.settleBlocks (s : State) : State := s.round.round.round.round

/-- A round between evaluations: the applied duty changes at most once in it, and the stage is derived (R64, log 6). -/
def State.stagedRound (s : State) : State := s.round.deriveStage

/-- A change is propagated. The stage is derived from the change itself and after each round, so that a duty that rises
and falls again in the consequences of one event raises both changes of the stage (R64, log 6). -/
def State.propagate (s : State) : State := s.deriveStage.stagedRound.stagedRound.stagedRound.stagedRound

/-- An internal post with what follows from it. -/
def State.post (s : State) (slot : Slot) (level : Nat) (c : Carry) (run : Option Nat) : State × PostAnswer :=
  let r := s.internalPost slot level c run
  (r.1.propagate, r.2)

end Sys2Proof.Machine
end

