-- ==== Sys2Proof/Machine/Dispatching.lean ====
section
/-! DEFINITION. How LNK hands a frame to its owning block and forms the reply (R170, R171, R172). -/

namespace Sys2Proof.Machine

/-- The kinds that STANDBY hands on (R171, check 5). -/
def RequestKind.takenInStandby : RequestKind → Bool
  | .queryStatus | .readDemands | .readAirflow | .readFrost | .readSensors | .readFilters | .getNotices | .getSetting
  | .setSetting | .storeSettings | .readFlags | .clearFlags | .readCapture | .releaseCapture | .wake | .restart => true
  | .postDemand | .cancelDemand | .probeSensor | .checkFilters | .filterOpen | .filterClose | .filterChanged
  | .setWatch | .claimManual | .releaseManual | .manualOutputs | .standby => false

/-- The state checks of R171, 4 and 5: the device state hands the kind on. -/
def RequestKind.takenIn (k : RequestKind) (d : DevState) : Bool :=
  match d with
  | .starting | .waking => k == .queryStatus
  | .standby => k.takenInStandby
  | .running | .doorOpen | .servicePrepare | .filterService | .stopping => true

/-- Checks 2 to 6 of R171 on a frame whose kind is known: the effective origin that the reply reports, and the owning
block's answer where every check passes. `act` is the owning block's part. -/
def State.checked (s : State) (l : Link) (k : RequestKind) (f : Frame)
    (act : State → Origin → List Byte → State × Reply) : State × Origin × Reply :=
  match f.payload with
  | [] => (s, .occupant, .bare .badRequest)
  | st :: fields =>
    match statedOrigin st with
    | none => (s, .occupant, .bare .badRequest)
    | some stated =>
      let o := effectiveOrigin stated (linkMode l)
      if k.lengthFits fields = false then (s, o, .bare .badRequest)
      else if k.takenIn s.osc.device = false then (s, o, .bare .refusedState)
      else
        let r := act s o fields
        (r.1, o, r.2)

/-- Frames of unknown kind at the head are answered BAD_REQUEST as soon as their turn comes (R171 check 1, log 10). Once a
RESTART is taken they stay unanswered, as every other frame does (R191, log 57). -/
def State.answerUnknown (s : State) (l : Link) : State :=
  if s.lnk.restarting.isSome then s
  else s.updLink l fun r =>
    { r with
      waiting := r.waiting.dropWhile fun f => !kindKnown f.kind
      replies := r.replies ++
        (r.waiting.takeWhile fun f => !kindKnown f.kind).map fun f => replyFrame f .occupant (.bare .badRequest) }

/-- The step of a request row: the oldest frame of the link, of this kind, is handed on, answered, and its reply joins
the link's replies (R170 to R172). Without such a frame the step does not arise and nothing changes (log 9). -/
def State.request (s : State) (l : Link) (k : RequestKind) (act : State → Origin → List Byte → State × Reply) :
    State :=
  match s.nextFrame l with
  | none => s
  | some f =>
    if f.kind.toNat = k.code then
      let s := s.updLink l fun r => { r with waiting := r.waiting.drop 1 }
      let a := s.checked l k f act
      (a.1.updLink l fun r => { r with replies := r.replies ++ [replyFrame f a.2.1 a.2.2] }).answerUnknown l
    else s

/-- An owning block's origin requirement (R171): below it the request gets NOT_PERMITTED. -/
def requireOrigin (need o : Origin) (s : State) (act : State × Reply) : State × Reply :=
  if o.rank < need.rank then (s, .bare .notPermitted) else act

end Sys2Proof.Machine
end

