-- ==== Sys2Proof/Machine/Thermal.lean ====
section
/-! DEFINITION. The frost guard's own operations: temperature channels (R46 to R49), the frost evaluation (R52 to R56,
R62), the defrost record's tests, updates and ends (R69 to R76). -/

namespace Sys2Proof.Machine

/-! ### Channels -/

/-- The code of a channel (R159). -/
def tempCode : TempId → Nat
  | .oda => 0
  | .sup => 1
  | .eta => 2
  | .eha => 3

/-- The record of a channel. -/
def Frg.channel (g : Frg) : TempId → TempChannel
  | .oda => g.oda
  | .sup => g.sup
  | .eta => g.eta
  | .eha => g.eha

/-- FRG with the record of a channel replaced. -/
def Frg.setChannel (g : Frg) (i : TempId) (c : TempChannel) : Frg :=
  match i with
  | .oda => { g with oda := c }
  | .sup => { g with sup := c }
  | .eta => { g with eta := c }
  | .eha => { g with eha := c }

/-- The raw value that is recorded of a reading (R46). -/
def tempRaw : TempReading → Int
  | .value t => t
  | .openCircuit => -9998
  | .shortCircuit => -9999

/-- The reading is valid (R46). -/
def tempValid : TempReading → Bool
  | .value t => decide (-400 ≤ t) && decide (t ≤ 800)
  | .openCircuit | .shortCircuit => false

/-- A channel takes a reading (R47). The second part says whether TEMP_FAULT is set and a capture offered: a GOOD channel
that goes invalid, or a first reading that is invalid. -/
def TempChannel.take (c : TempChannel) (r : TempReading) : TempChannel × Bool :=
  if tempValid r then
    ({ status := .good, holdTime := 0, raw := tempRaw r, lastGood := some (tempRaw r), everRead := true }, false)
  else match c.status with
    | .good => ({ c with status := .holding, holdTime := 0, raw := tempRaw r, everRead := true }, true)
    | .holding =>
      ({ c with holdTime := bump c.holdTime Config.holdSeconds, raw := tempRaw r, everRead := true }, false)
    | .invalid => ({ c with raw := tempRaw r, everRead := true }, !c.everRead)

/-- The frost regime (R48). -/
def Frg.regime (g : Frg) : Regime :=
  if g.eha.status ≠ .invalid then .normal
  else if g.oda.status = .invalid ∨ g.eta.status = .invalid then .fixed
  else .substitute

/-- The value in use of T_oda (R47, R48). -/
def Frg.odaInUse (g : Frg) : Int := if g.oda.status = .invalid then -100 else g.oda.lastGood.getD (-100)

/-- The value in use of T_eta (R47, R48). -/
def Frg.etaInUse (g : Frg) : Int := if g.eta.status = .invalid then 200 else g.eta.lastGood.getD 200

/-- The value in use of T_sup (R47, R48). -/
def Frg.supInUse (g : Frg) : Option Int := if g.sup.status = .invalid then none else g.sup.lastGood

/-- The value in use of T_eha (R47, R48): in SUBSTITUTE the exhaust substitute last computed, in FIXED none. -/
def Frg.ehaInUse (g : Frg) : Option Int :=
  match g.regime with
  | .normal => g.eha.lastGood
  | .substitute => g.substitute
  | .fixed => none

/-- The value in use of a channel (R47). -/
def Frg.inUse (g : Frg) : TempId → Option Int
  | .oda => some g.odaInUse
  | .sup => g.supInUse
  | .eta => some g.etaInUse
  | .eha => g.ehaInUse

/-- The exhaust substitute T_x (R49); the division truncates toward zero. -/
def exhaustSubstitute (oda eta eff : Int) : Int := oda + ((eta - oda) * (100 - eff)).tdiv 100

/-- The exhaust substitute is computed from the values in use (R49). -/
def State.computeSubstitute (s : State) : State :=
  s.updFrg fun g =>
    { g with substitute := some (exhaustSubstitute g.odaInUse g.etaInUse (settingVal s.osc.working 31)) }

/-- The counts as the phase passes between RUNNING and CONFIRM (R73): confirm starts over. An update whose end is still to
be taken is then taken after the passage, so it counts elapsed alone, and ends INCOMPLETE at `max` or not at all (R72,
log 4). -/
def Defrost.passage (d : Defrost) (max : Nat) : Defrost :=
  match d.endDue with
  | none => { d with confirm := 0 }
  | some (.incomplete, elapsed, _) => { d with confirm := 0, endDue := some (.incomplete, elapsed, 0) }
  | some (.cleared, elapsed, _) =>
    if d.elapsed < elapsed ∧ max ≤ elapsed then
      { d with confirm := 0, endDue := some (.incomplete, elapsed, 0) }
    else { d with confirm := 0, elapsed := elapsed, endDue := none }

/-- In CONFIRM the phase returns to RUNNING when the exhaust is below the end temperature or has no value (R73). -/
def State.confirmExit (s : State) : State :=
  if s.frg.defrost.phase = .confirm then
    let warm := match s.frg.ehaInUse with
      | some t => decide (settingVal s.osc.working 33 ≤ t)
      | none => false
    if warm then s
    else s.updDefrost fun d => { d.passage (s.setting 34) with phase := .running }
  else s

/-- What follows a change of the regime from `before` (R48, R49, R73, log 29). Td and M keep their values until the next
evaluation, also where the regime has become FIXED (log 52). -/
def State.afterRegime (s : State) (before : Regime) : State :=
  if s.frg.regime = before then s
  else (if s.frg.regime = .substitute then s.computeSubstitute else s).confirmExit

/-- FRG reads a channel (R46, R47). -/
def State.readTemp (s : State) (i : TempId) (r : TempReading) : State :=
  let before := s.frg.regime
  let t := (s.frg.channel i).take r
  let s := s.updFrg (·.setChannel i t.1)
  let s := if t.2 then s.faultEvent .tempFault (tempCode i) (tempRaw r) else s
  let s := s.afterRegime before
  if i = .eha then s.confirmExit else s

/-! ### Margin and load -/

/-- The dew-point estimate and the frost margin (R53). -/
def frostMargin (eta eha : Int) (rh : Nat) (guardTenths : Int) : Int × Int :=
  let td := eta - ((1000 - rh) / 5 : Nat)
  (td, clampI (eha - min td 0 - guardTenths) (-999) 999)

/-- The extract flow Q_eta that the load uses (R54). -/
def State.qEta (s : State) : Nat :=
  match s.afc.extract.flow with
  | some q => q
  | none => s.afc.extract.target.getD 0

/-- The load after one update (R54). -/
def nextLoad (load : Nat) (regime : Regime) (margin eha : Option Int) (q : Nat) : Nat :=
  match regime with
  | .fixed => if 0 < q then min 65535 (load + 40) else load
  | .normal | .substitute =>
    match margin, eha with
    | some m, some t =>
      if m < 0 then min 65535 (load + ((-m).toNat * q + 50) / 100)
      else if 0 < t then load - (t.toNat * q + 100) / 200
      else load
    | _, _ => load

/-- The heater request that step 4 computes without a forcing condition (R56). -/
def State.requestNow (s : State) : Nat :=
  match s.frg.regime, s.frg.margin with
  | .fixed, _ => 500
  | _, some m => (clampI ((settingVal s.osc.working 26 - m) * settingVal s.osc.working 27) 0 1000).toNat
  | _, none => 0

/-- Steps 1 and 2 of the evaluation: humidity, tier, regime, Td and M (R50, R52, R53). Only here do Td and M become absent
in FIXED (log 52). -/
def State.evaluateMargin (s : State) : State :=
  let s := s.updFrg fun g =>
    { g with rhEta := s.hum.extract.map fun v => min v.1 1000
             tier := s.hum.extract.map (·.2) }
  let s := if s.frg.regime = .substitute then s.computeSubstitute else s
  let m := match s.frg.regime, s.frg.ehaInUse, s.frg.rhEta with
    | .fixed, _, _ => none
    | _, some t, some rh => some (frostMargin s.frg.etaInUse t rh (settingVal s.osc.working 25))
    | _, _, _ => none
  s.updFrg fun g => { g with td := m.map (·.1), margin := m.map (·.2) }

/-! ### The defrost record -/

/-- The counting condition of R72. -/
def State.defrostCounting (s : State) : Bool :=
  s.arb.active == some .defrost && s.afc.extract.state.regulates

/-- The passage from RUNNING to CONFIRM (R73). -/
def State.confirmEntry (s : State) : State :=
  let warm := match s.frg.ehaInUse with
    | some t => decide (settingVal s.osc.working 33 ≤ t)
    | none => false
  if s.frg.defrost.phase = .running ∧ s.frg.load = 0 ∧ warm = true ∧ s.defrostCounting = true then
    s.updDefrost fun d => { d.passage (s.setting 34) with phase := .confirm, confirmSince := s.osc.uptime }
  else s

/-- The defrost trigger (R69): the phase becomes PREPARE, the heater request is forced to 0 at once (R56), and the
run-on timer is tested (R70). -/
def State.defrostTrigger (s : State) : State :=
  if s.frg.defrost.phase = .idle ∧ s.osc.device = .running ∧ s.setting 32 ≤ s.frg.load then
    let s := s.updDefrost fun d => { d with phase := .prepare, started := false, elapsed := 0, confirm := 0 }
    s.settleBlocks.tryDefrostPost
  else s

/-- Step 3 of the evaluation: the load, and its handover to the defrost record (R52, R54, R69, R73). -/
def State.evaluateLoad (s : State) : State :=
  let s := s.updFrg fun g => { g with load := nextLoad g.load g.regime g.margin g.ehaInUse s.qEta }
  s.defrostTrigger.confirmEntry

/-- Step 4 of the evaluation: the heater request, and the applied duty that follows (R52, R56, R57). -/
def State.evaluateRequest (s : State) : State :=
  (s.updFrg fun g => { g with request := if s.requestForced then 0 else s.requestNow }).settleBlocks

/-! ### Imbalance -/

/-- The frost cap has come into force: a check settling or sampling returns to WAITING (R132). -/
def State.checkCapped (s : State) : State :=
  if s.flt.check.phase = .settle ∨ s.flt.check.phase = .sample then
    s.updCheck fun c => { c.discard with phase := .waiting, stable := 0 }
  else s

/-- The imbalance becomes `n`; FLT is told when the cap comes into force or is lifted (R63, R129, R132). -/
def State.setImbalance (s : State) (n : Nat) : State :=
  let was := s.capInForce
  let s := s.updFrg fun g => { g with imbalance := n }
  if was = s.capInForce then s else if s.capInForce then s.checkCapped else s.trySettle

/-- The heater is exhausted (R62). -/
def State.heaterExhausted (s : State) : Bool :=
  s.frg.request == 1000 || !s.heaterFitted || s.frg.cutout == .opened
    || (decide (0 < s.frg.request) && s.frg.applied == 0)

/-- The exhausted count and the imbalance after one update in NORMAL or SUBSTITUTE (R62). -/
def nextImbalance (count imbalance limit : Nat) (m mPre : Int) (exhausted : Bool) : Nat × Nat :=
  if imbalance = 0 then
    if m < 0 ∧ exhausted = true then
      if 3 ≤ count + 1 then (0, min 5 limit) else (count + 1, 0)
    else (0, 0)
  else if m < 0 then (count, min (imbalance + 5) limit)
  else if mPre ≤ m then (count, imbalance - 5)
  else (count, imbalance)

/-- Step 5 of the evaluation (R52, R62, R63). -/
def State.evaluateImbalance (s : State) : State :=
  match s.osc.device with
  | .running | .stopping | .servicePrepare =>
    let r : Nat × Nat := match s.frg.regime, s.frg.margin with
      | .fixed, _ => (0, s.setting 30)
      | _, some m =>
        nextImbalance s.frg.exhausted s.frg.imbalance (s.setting 30) m (settingVal s.osc.working 26) s.heaterExhausted
      | _, none => (s.frg.exhausted, s.frg.imbalance)
    (s.updFrg fun g => { g with exhausted := r.1 }).setImbalance r.2
  | .starting | .doorOpen | .filterService | .standby | .waking => s

/-- One frost evaluation: steps 1 to 6 in order (R52, R64), and what follows from the cap and the stage. -/
def State.evaluateFrost (s : State) : State :=
  s.evaluateMargin.evaluateLoad.evaluateRequest.evaluateImbalance.deriveStage.propagate

/-! ### The defrost record, second by second -/

/-- The update of the defrost record at an increment of the uptime counter (R72). An update that reaches an end is not
taken here: it is marked due, and the end's own step takes it (R81); until then no further update counts (log 4). -/
def State.defrostSecond (s : State) : State :=
  let d := s.frg.defrost
  match d.phase with
  | .running | .confirm =>
    if d.endDue.isSome then s else
    let counting := s.defrostCounting
    let counts := counting && decide (d.runSince < s.osc.uptime)
    let elapsed := if counts then d.elapsed + 1 else d.elapsed
    let confirm := if counting && d.phase == .confirm && decide (d.confirmSince < s.osc.uptime)
      then d.confirm + 1 else d.confirm
    if Config.confirmSeconds ≤ confirm then
      s.updDefrost fun d => { d with endDue := some (.cleared, elapsed, confirm) }
    else if counts = true ∧ s.setting 34 ≤ elapsed then
      s.updDefrost fun d => { d with endDue := some (.incomplete, elapsed, confirm) }
    else (s.updDefrost fun d => { d with elapsed := elapsed, confirm := confirm }).confirmEntry
  | .lockout => s.updDefrost fun d => { d with lockout := d.lockout - 1 }
  | .idle | .prepare | .posted | .suspended => s

/-- The code of a defrost result in DEFROST_ENDED (R178). -/
def DefrostEnd.code : DefrostEnd → Nat
  | .cleared => 1
  | .incomplete => 2

/-- The end actions of R76: DEFROST is withdrawn, the phase becomes LOCKOUT, DEFROST_ENDED is raised. -/
def State.endDefrost (s : State) (e : DefrostEnd) (lockout : Nat) : State :=
  let s := s.withdraw .defrost
  let s := s.updDefrost fun d => { d with phase := .lockout, lockout := lockout, endDue := none }
  (s.raise .defrostEnded 0 (twoPart e.code s.frg.defrost.elapsed)).propagate

end Sys2Proof.Machine
end

