-- ==== Sys2Proof/Machine/Demands.lean ====
section
/-! DEFINITION. The demand arbiter's requests (R5, R6, R12, R18, R19) and the expiry of the active demand (R14). -/

namespace Sys2Proof.Machine

/-- What a command's meaning answers. -/
abbrev Answer := Host.Outcome State Fault Refusal

/-- The code of a slot state (R2, R174). -/
def SlotState.code : SlotState → Nat
  | .free => 0
  | .pending => 1
  | .active => 2
  | .suspended => 3

/-! ### READ_DEMANDS -/

/-- The record of a slot (R2): the slot, its state, then the optional fields. -/
def State.demandBytes (s : State) (slot : Slot) : List Byte :=
  let d := s.arb.table.get slot
  let flows := d.bind fun d => d.flows (s.setting 1)
  let duties := d.bind fun d => match d.carry with
    | .duties a b => some (a, b)
    | _ => none
  u8 slot.code ++ u8 (s.arb.slotState slot).code ++ opt 1 u8 (d.map (·.level)) ++ opt 1 u8 (d.map (·.origin.rank))
    ++ opt 2 u16 (flows.map (·.1)) ++ opt 2 u16 (flows.map (·.2)) ++ opt 2 u16 (d.bind (·.run))
    ++ opt 4 u32 (d.map (·.postedAt)) ++ opt 1 u8 (d.map (·.suspensions))
    ++ opt 2 u16 (duties.map (·.1)) ++ opt 2 u16 (duties.map (·.2))

/-- The demand table as READ_DEMANDS lists it (R18). -/
def State.tableBytes (s : State) : List Byte :=
  u8 (slotCode s.arb.active)
    ++ allSlots.flatMap (fun t => u8 (s.arb.slotState t).code ++ opt 1 u8 ((s.arb.table.get t).map (·.level)))
    ++ listOf (fun t => u8 t.code) s.arb.stack ++ listOf (fun t => u8 t.code) s.arb.queue

/-- READ_DEMANDS (R18). -/
def actReadDemands (s : State) (_ : Origin) (fields : List Byte) : State × Reply :=
  match fields with
  | [] => (s, ⟨.ok, s.tableBytes⟩)
  | c :: _ => match slotOfCode c.toNat with
    | some slot => (s, ⟨.ok, s.tableBytes ++ s.demandBytes slot⟩)
    | none => (s, .bare .badRequest)

/-- READ_DEMANDS on a link (R18). -/
def execReadDemands (l : Link) (s : State) : Answer := .next (s.request l .readDemands actReadDemands)

/-! ### POST_DEMAND -/

/-- The values of a link post: as requested, and as taken (R5, R6). -/
structure LinkPost where
  level : Nat
  supply : Nat
  extract : Nat
  run : Option Nat
deriving DecidableEq, Repr

/-- A link post after the clamps of R6. -/
def State.clampPost (s : State) (o : Origin) (p : LinkPost) : LinkPost :=
  { level := clampN p.level 1 o.ceiling
    supply := clampN p.supply (s.setting 2) (s.setting 3)
    extract := clampN p.extract (s.setting 2) (s.setting 3)
    run := o.clampRun p.run }

/-- A link post that passed checks 1 to 3 of R5, with the link for the watch (R21). -/
def State.linkPost (s : State) (l : Link) (o : Origin) (slot : Slot) (p : LinkPost) : State × PostAnswer :=
  let t := s.clampPost o p
  let r := s.postCore slot p.level { level := t.level, origin := o, carry := .flows t.supply t.extract, run := t.run }
    (some l)
  match r.2 with
  | .ok => (r.1.propagate, .ok)
  | a => (r.1, a)

/-- The reply fields of POST_DEMAND (R6, R175). Its last byte is the slot's state as it stands, also where the watch blocks
the post, so that a FREE slot stays FREE (log 55). -/
def State.postReply (s : State) (slot : Slot) (t : LinkPost) : List Byte :=
  u8 slot.code ++ u8 t.level ++ u16 t.supply ++ u16 t.extract ++ opt 2 u16 t.run ++ u8 (s.arb.slotState slot).code

/-- The result of a post: BLOCKED, or CLAMPED where a value was changed, or OK (R5). -/
def postResult (a : PostAnswer) (changed : Bool) : Result :=
  match a with
  | .blocked => .blocked
  | .refusedState => .refusedState
  | .ok => if changed then .clamped else .ok

/-- POST_DEMAND in the order of checks of R5. A BLOCKED reply carries the values as taken (R6) and the slot's state as it
stands (log 55). -/
def actPostDemand (l : Link) (s : State) (o : Origin) (fields : List Byte) : State × Reply :=
  match fields with
  | [c, lev, s1, s0, e1, e0, m, r1, r0] =>
    if s.osc.device.posting = false then (s, .bare .refusedState)
    else match slotOfCode c.toNat with
      | none => (s, .bare .badRequest)
      | some slot =>
        if o.mayWrite slot = false then (s, .bare .notPermitted)
        else
          let p : LinkPost :=
            { level := lev.toNat, supply := be16 s1 s0, extract := be16 e1 e0, run := runTimeField m r1 r0 }
          let t := s.clampPost o p
          let r := s.linkPost l o slot p
          (r.1, ⟨postResult r.2 (t != p), r.1.postReply slot t⟩)
  | _ => (s, .bare .badRequest)

/-- POST_DEMAND on a link (R5). -/
def execPostDemand (l : Link) (s : State) : Answer := .next (s.request l .postDemand (actPostDemand l))

/-! ### CANCEL_DEMAND -/

/-- The effect of CANCEL_DEMAND on a slot (R12). -/
def State.cancel (s : State) (slot : Slot) : State := (s.applyArb (s.arb.free slot)).propagate

/-- CANCEL_DEMAND (R12): checks 1 to 3 of R5, then the slot is freed. -/
def actCancelDemand (s : State) (o : Origin) (fields : List Byte) : State × Reply :=
  match fields with
  | [c] =>
    if s.osc.device.posting = false then (s, .bare .refusedState)
    else match slotOfCode c.toNat with
      | none => (s, .bare .badRequest)
      | some slot =>
        if o.mayWrite slot = false then (s, .bare .notPermitted)
        else (s.cancel slot, ⟨.ok, u8 slot.code ++ u8 (s.arb.slotState slot).code⟩)
  | _ => (s, .bare .badRequest)

/-- CANCEL_DEMAND on a link (R12). -/
def execCancelDemand (l : Link) (s : State) : Answer := .next (s.request l .cancelDemand actCancelDemand)

/-! ### SET_WATCH -/

/-- The match a byte names (R19, R174). -/
def watchMatch (b : Byte) : Option WatchMatch := if b = 0 then some .newOnly else if b = 1 then some .all else none

/-- The action a byte names (R19, R174). -/
def watchAction (b : Byte) : Option WatchAction := if b = 0 then some .capture else if b = 1 then some .block else none

/-- A yes/no byte of a request; any other value has no meaning (R174, log 33). -/
def yesNoField (b : Byte) : Option Bool := if b = 0 then some false else if b = 1 then some true else none

/-- The slots that a list of bytes names, each once (R19, log 43); none where a code is outside 1 to 12. The slots stand in
the order of the list, a slot listed twice at the place of its first listing, which is the model's choice (log 70). -/
def slotSet (codes : List Byte) : Option (List Slot) :=
  match codes with
  | [] => some []
  | c :: rest => match slotOfCode c.toNat, slotSet rest with
    | some slot, some l => some (slot :: l.filter (· != slot))
    | _, _ => none

/-- The configuration that the fields of SET_WATCH give, where R19 allows it. -/
def watchOf (en m a lo hi : Byte) (codes : List Byte) : Option Watch :=
  match yesNoField en, watchMatch m, watchAction a, slotSet codes with
  | some en, some m, some a, some slots =>
    if 1 ≤ lo.toNat ∧ lo.toNat ≤ 15 ∧ 1 ≤ hi.toNat ∧ hi.toNat ≤ 15 ∧ lo.toNat ≤ hi.toNat then
      some { enabled := en, slots := slots, levelMin := lo.toNat, levelMax := hi.toNat, mode := m, action := a }
    else none
  | _, _, _, _ => none

/-- The watch configuration as SET_WATCH reports it (R175), its slots in the order that `slotSet` gives them (log 70). -/
def Watch.bytes (w : Watch) : List Byte :=
  yesNo w.enabled ++ u8 (match w.mode with | .newOnly => 0 | .all => 1)
    ++ u8 (match w.action with | .capture => 0 | .block => 1) ++ u8 w.levelMin ++ u8 w.levelMax
    ++ listOf (fun t => u8 t.code) w.slots

/-- SET_WATCH (R19): the whole configuration is replaced. -/
def actSetWatch (s : State) (o : Origin) (fields : List Byte) : State × Reply :=
  match fields with
  | en :: m :: a :: lo :: hi :: _ :: codes =>
    requireOrigin .service o s <|
      match watchOf en m a lo hi codes with
      | some w => (s.updArb fun b => { b with watch := w }, ⟨.ok, w.bytes⟩)
      | none => (s, .bare .badRequest)
  | _ => (s, .bare .badRequest)

/-- SET_WATCH on a link (R19). -/
def execSetWatch (l : Link) (s : State) : Answer := .next (s.request l .setWatch actSetWatch)

/-! ### Expiry -/

/-- The active demand, whose last second has passed, expires (R14, log 3): its slot is freed and reselection runs. Without
such a demand the step does not arise (log 1). -/
def execDemandExpiry (s : State) : Answer :=
  match s.arb.expiryDue with
  | some slot => .next (s.applyArb (s.arb.expire slot)).propagate
  | none => .next s

end Sys2Proof.Machine
end

