-- ==== Sys2Proof/Machine/Airflow.lean ====
section
/-! DEFINITION. The airflow controller: the one-second reading and update of a path (R24 to R27, R33, R34, R38, R39, R42),
the ends of its times (R33, R38, R39, R42), zeroing (R25), release (R40) and READ_AIRFLOW (R44). -/

namespace Sys2Proof.Machine

/-! ### Arithmetic -/

/-- isqrt of 0.7, bit by bit from weight 2^15: exact below 2^32. -/
def isqrt (n : Nat) : Nat :=
  [15, 14, 13, 12, 11, 10, 9, 8, 7, 6, 5, 4, 3, 2, 1, 0].foldl
    (fun r k => if (r + 2 ^ k) * (r + 2 ^ k) ≤ n then r + 2 ^ k else r) 0

/-- The reading is valid: a completed one within `lo` to `hi` (R24, R119). -/
def readingValid (lo hi : Int) : Reading → Bool
  | .value v => decide (lo ≤ v) && decide (v ≤ hi)
  | .incomplete => false

/-- The number that a capture or a reply carries for a reading (R24, R44). -/
def readingCode : Reading → Int
  | .value v => v
  | .incomplete => -9999

/-- The pressure Δp after the zero offset, at least 0 (R26, R119). -/
def deltaP (r : Reading) (zero : Int) : Nat :=
  match r with
  | .value v => (v - zero).toNat
  | .incomplete => 0

/-- The measured flow of a nozzle pressure (R26). -/
def measuredFlow (k dp : Nat) : Nat := min 999 ((k * isqrt (100 * dp) + 500) / 1000)

/-- The fan speed of a pulse count (R27). -/
def fanSpeed (pulses tach : Nat) : Nat := min 9999 (pulses * 60 / tach)

/-- The step of the fan loop (R34). -/
def loopStep (target q gain : Nat) : Int := clampI ((((target : Int) - q) * gain).tdiv 100) (-50) 50

/-- The nozzle factor of a path (R26). -/
def State.nozzleFactor (s : State) : PathId → Nat
  | .supply => s.setting 18
  | .extract => s.setting 19

/-- The device zeroes its pressure sensors (R25, R188, R190). -/
def DevState.zeroing : DevState → Bool
  | .starting | .waking => true
  | .running | .doorOpen | .servicePrepare | .filterService | .stopping | .standby => false

/-- The reading of this second is one of the eight of the zeroing (R25, R188). -/
def Osc.zeroReading (o : Osc) : Bool :=
  o.device.zeroing && decide (Config.zeroingDelay < o.stoppedSecs)
    && decide (o.stoppedSecs ≤ Config.zeroingDelay + Config.zeroingReadings)

/-! ### The one-second reading -/

/-- A nozzle reading joins the zeroing (R25). -/
def FanPath.addZero (p : FanPath) (r : Reading) : FanPath :=
  if readingValid (-50) 550 r then { p with zeroSum := p.zeroSum + readingCode r } else { p with zeroFault := true }

/-- A path's flow and speed of this second (R26, R27). The flow is taken here and nowhere else: the 0 that a FAULTED path
reads while the device zeroes stands through the entry into RUNNING, until the next second makes it absent (log 49). -/
def FanPath.measure (p : FanPath) (k speed : Nat) (zeroing : Bool) : FanPath :=
  { p with
    speed := speed
    flow := if zeroing then some 0 else if p.faulted then none else some (measuredFlow k (deltaP p.raw p.zeroOffset)) }

/-- A valid reading heals a faulted sensor: HOLD returns to REGULATING (R24, R35). -/
def FanPath.heal (p : FanPath) : FanPath :=
  { p with faulted := false, state := if p.state = .hold then .regulating else p.state }

/-- A fault reading on a healthy sensor: a regulating path enters HOLD (R24, R35). -/
def FanPath.fault (p : FanPath) : FanPath :=
  { p with
    faulted := true
    state := if p.state.regulates then .hold else p.state
    shortfallTime := 0
    shortfallStanding := false }

/-- The reading of a path's nozzle: fault and recovery (R24), a fault's capture before FAN_STATE (log 72). -/
def State.readNozzle (s : State) (i : PathId) (r : Reading) : State :=
  let p := s.afc.path i
  let p := if s.osc.zeroReading then p.addZero r else p
  let p := { p with raw := r }
  if readingValid (-50) 550 r then s.movePath i (if p.faulted then p.heal else p)
  else if p.faulted then s.movePath i p
  else (s.faultEvent .pressureFault (pathCode i) (readingCode r)).movePath i p.fault

/-- What AFC reads of a path in one second: nozzle and tachometer (R24, R26, R27). -/
def State.sensePath (s : State) (i : PathId) (r : Reading) (pulses : Nat) : State :=
  let s := s.readNozzle i r
  s.movePath i ((s.afc.path i).measure (s.nozzleFactor i) (fanSpeed pulses (s.inUse 24)) s.osc.device.zeroing)

/-! ### The one-second update -/

/-- One step of the fan loop and the classification after it (R34). -/
def FanPath.loop (p : FanPath) (gain minDuty : Nat) : FanPath :=
  match p.state.regulates, p.flow, p.target with
  | true, some q, some t =>
    let duty := (clampI ((p.duty : Int) + loopStep t q gain) minDuty 1000).toNat
    { p with duty := duty, state := if duty = 1000 ∧ q < t then .saturated else .regulating }
  | _, _, _ => p

/-- The times of SPINUP and STALLED (R33, R39). -/
def FanPath.spinTimes (p : FanPath) : FanPath :=
  match p.state with
  | .spinup => { p with spinupTime := bump p.spinupTime Config.spinupSeconds }
  | .stalled => { p with retryTime := p.retryTime - 1 }
  | .off | .regulating | .saturated | .hold | .manual | .failed => p

/-- Good time (R39). -/
def FanPath.goodSecond (p : FanPath) (stallSpeed : Nat) : FanPath :=
  if p.goodTiming && p.state.stallChecked then
    { p with goodTime := if stallSpeed ≤ p.speed then bump p.goodTime Config.goodSeconds else 0 }
  else p

/-- Stall time and shortfall time (R38, R42), from whether each condition held when the second began (log 28). -/
def FanPath.conditionTimes (p : FanPath) (stallSpeed : Nat) (stalling short : Bool) : FanPath :=
  let p := if p.stallCond stallSpeed then
      (if stalling then { p with stallTime := bump p.stallTime Config.stallSeconds } else p)
    else { p with stallTime := 0 }
  if p.shortCond then
    (if short && !p.shortfallStanding then { p with shortfallTime := bump p.shortfallTime Config.shortfallSeconds }
      else p)
  else { p with shortfallTime := 0, shortfallStanding := false }

/-- The update of a path at one second (R33, R34, R38, R39, R42); `old` is the path as the second began. -/
def FanPath.second (p old : FanPath) (gain minDuty stallSpeed : Nat) : FanPath :=
  ((p.spinTimes.loop gain minDuty).goodSecond stallSpeed).conditionTimes stallSpeed (old.stallCond stallSpeed)
    old.shortCond

/-- The update of a path at one second, in the whole. -/
def State.regulatePath (s : State) (i : PathId) (old : FanPath) : State :=
  s.movePath i ((s.afc.path i).second old (s.setting 20) (s.setting 21) (s.setting 23))

/-! ### Spin-up, stall, retry, good running -/

/-- The stall flag of a path (R38). -/
def stallFlag : PathId → Flag
  | .supply => .stallSupply
  | .extract => .stallExtract

/-- The shortfall flag of a path (R42). -/
def shortfallFlag : PathId → Flag
  | .supply => .shortfallSupply
  | .extract => .shortfallExtract

/-- A path stops after a stall or a failed spin-up: duty and times 0, the retry count raised by a failed spin-up, FAILED at
the third (R38, R39). -/
def FanPath.stop (p : FanPath) (failed : Bool) : FanPath :=
  let count := if failed then min (p.retryCount + 1) Config.failedSpinups else p.retryCount
  let dead := failed && decide (Config.failedSpinups ≤ count)
  { p with
    state := if dead then .failed else .stalled
    duty := 0, spinupTime := 0, retryTime := if dead then 0 else Config.retrySeconds, retryCount := count
    goodTime := 0, goodTiming := false, stallTime := 0, shortfallTime := 0, shortfallStanding := false }

/-- A path has stalled or its spin-up has failed: flag, capture, state (R38, R39), in this order (log 72). -/
def State.stallPath (s : State) (i : PathId) (failed : Bool) : State :=
  let p := s.afc.path i
  ((s.faultEvent (stallFlag i) (pathCode i) p.speed).movePath i (p.stop failed)).propagate

/-- A successful end of a spin-up (R33): MANUAL, REGULATING or HOLD. -/
def FanPath.started (p : FanPath) (manual : Option Nat) : FanPath :=
  let p := { p with spinupTime := 0, goodTime := 0, goodTiming := true, stallTime := 0 }
  match manual with
  | some d => { p with state := .manual, duty := d }
  | none => { p with state := if p.faulted then .hold else .regulating }

/-- A spin-up reaches its 15 s (R33). Without such a path the step does not arise (log 1). -/
def execSpinupEnd (i : PathId) (s : State) : Answer :=
  let p := s.afc.path i
  if p.state = .spinup ∧ Config.spinupSeconds ≤ p.spinupTime then
    if s.setting 23 ≤ p.speed then .next (s.movePath i (p.started (s.serveArgs i).manual)).propagate
    else .next (s.stallPath i true)
  else .next s

/-- The stall time reaches 10 s (R38, R39). -/
def execStallDetected (i : PathId) (s : State) : Answer :=
  let p := s.afc.path i
  if p.state.stallChecked = true ∧ Config.stallSeconds ≤ p.stallTime then .next (s.stallPath i p.goodTiming)
  else .next s

/-- The retry time of a STALLED path reaches 0: SPINUP again (R39). -/
def execRetryEnd (i : PathId) (s : State) : Answer :=
  let p := s.afc.path i
  if p.state = .stalled ∧ p.retryTime = 0 then .next (s.movePath i (p.toSpinup (s.setting 22))).propagate
  else .next s

/-- The good time reaches 10 s: the retry count is cleared (R39). -/
def execGoodTimeComplete (i : PathId) (s : State) : Answer :=
  let p := s.afc.path i
  if p.goodTiming = true ∧ Config.goodSeconds ≤ p.goodTime then
    .next (s.movePath i { p with retryCount := 0, goodTiming := false })
  else .next s

/-! ### Shortfall -/

/-- A shortfall prompt reaches FLT (R127): a check starts in RUNNING, IDLE, unless the last completed one is too
recent. -/
def State.shortfallPrompt (s : State) : State :=
  let quiet := match s.flt.check.lastCompleted with
    | some t => decide (s.osc.uptime - t < Config.shortfallQuiet)
    | none => false
  if s.osc.device = .running ∧ s.flt.check.phase = .idle ∧ quiet = false then (s.startCheck .shortfall).1 else s

/-- The shortfall time reaches 60 s (R42): flag, notice, prompt (in this order, log 72), and the shortfall stands. -/
def execShortfallReported (i : PathId) (s : State) : Answer :=
  let p := s.afc.path i
  if Config.shortfallSeconds ≤ p.shortfallTime ∧ p.shortfallStanding = false ∧ p.shortCond = true then
    let s := s.movePath i { p with shortfallStanding := true }
    let s := (s.setFlag (shortfallFlag i)).raise .flowShortfall (pathCode i) (p.flow.getD 0)
    .next s.shortfallPrompt.propagate
  else .next s

/-! ### Zeroing and release -/

/-- The zero offset at the end of the zeroing (R25, R120): the offset, and the mean where it is beyond ±20 Pa. -/
def zeroResult (sum : Int) (faulted : Bool) : Int × Option Int :=
  if faulted then (0, none)
  else
    let mean := sum.tdiv 8
    if -20 ≤ mean ∧ mean ≤ 20 then (mean, none) else (0, some mean)

/-- The zeroing of a nozzle completes (R25). -/
def State.zeroNozzle (s : State) (i : PathId) : State :=
  let p := s.afc.path i
  let z := zeroResult p.zeroSum p.zeroFault
  let s := s.updAfc (·.setPath i { p with zeroOffset := z.1 })
  match z.2 with
  | some mean => s.faultEvent .pressureFault (pathCode i) mean
  | none => s

/-- A FAILED path is released (R40). Targets are those of the moment; of two paths released together SUPPLY is the first
(log 51). -/
def State.releasePath (s : State) (i : PathId) : State :=
  let p := s.afc.path i
  if p.state = .failed then
    let p := { p with retryCount := 0 }
    s.movePath i (if 0 < s.driveRequest i then p.toSpinup (s.setting 22) else p.toOff)
  else s

/-! ### READ_AIRFLOW -/

/-- The fields of a path in READ_AIRFLOW (R44). -/
def FanPath.bytes (p : FanPath) : List Byte :=
  u8 p.state.code ++ u16 p.duty ++ opt 2 u16 p.target ++ opt 2 u16 p.flow ++ u16 p.speed
    ++ u8 (if p.faulted then 1 else 0) ++ s16 p.zeroOffset ++ s16 (clampI (readingCode p.raw) (-32768) 32767)
    ++ u8 p.retryCount ++ yesNo p.shortfallStanding

/-- READ_AIRFLOW (R44). -/
def actReadAirflow (s : State) (_ : Origin) (_ : List Byte) : State × Reply :=
  (s, ⟨.ok, u8 (slotCode s.arb.active) ++ yesNo s.extractLoss ++ s.afc.supply.bytes ++ s.afc.extract.bytes⟩)

/-- READ_AIRFLOW on a link (R44). -/
def execReadAirflow (l : Link) (s : State) : Answer := .next (s.request l .readAirflow actReadAirflow)

end Sys2Proof.Machine
end

