-- ==== Sys2Proof/Machine/Frost.lean ====
section
/-! DEFINITION. The frost guard's events (R47, R52, R58, R59, R70 to R76, R79, R80), the start value of the load (R55) and
READ_FROST (R65). -/

namespace Sys2Proof.Machine

/-! ### Channels and evaluation -/

/-- The hold time of a channel reaches 60 s: the channel is INVALID (R47), and the regime is derived anew (R48). -/
def State.invalidate (s : State) (i : TempId) : State :=
  let before := s.frg.regime
  (s.updFrg fun g => g.setChannel i { g.channel i with status := .invalid }).afterRegime before

/-- HOLD_EXPIRED (R47). Without a channel whose hold time has run out the step does not arise (log 1). -/
def execHoldExpired (i : TempId) (s : State) : Answer :=
  if (s.frg.channel i).status = .holding ∧ Config.holdSeconds ≤ (s.frg.channel i).holdTime then
    .next (s.invalidate i).propagate
  else .next s

/-- The frost evaluation, every 10 s but in STARTING and WAKING (R52). One that is taken late takes its 10 s off the timer,
so that the next comes sooner by the delay (log 69). -/
def execFrostEvaluation (s : State) : Answer :=
  if s.osc.device.zeroing = false ∧ Config.tenSeconds ≤ s.frg.evalTimer then
    .next (s.updFrg fun g => { g with evalTimer := g.evalTimer - Config.tenSeconds }).evaluateFrost
  else .next s

/-- The start value of the load at the first entry into RUNNING (R55). -/
def State.startLoad (s : State) : State :=
  if s.frg.odaInUse < -100 then s.updFrg fun g => { g with load := s.setting 32 / 2 } else s

/-! ### Preheater -/

/-- Something waits for the run-on timer (R70, R135, R189). -/
def State.awaitsRunOn (s : State) : Bool :=
  s.frg.defrost.phase == .prepare || s.osc.device == .stopping || s.osc.device == .servicePrepare

/-- The run-on timer has reached 0 (R60, R70, R135, R189): what waits for it goes on. Where a defrost in PREPARE posts
DEFROST and the post makes it ACTIVE, FRG takes the report in the same step, so the phase is RUNNING (R71); where an
accepted STANDBY comes together with the timer, as the next command, the phase stays POSTED for it (R81, log 58). -/
def execRunOnEnd (s : State) : Answer :=
  if s.frg.runOn = 0 ∧ s.awaitsRunOn = true then .next s.runOnEnded.propagate else .next s

/-- A heater window ends and the next begins with the output ON (R58). -/
def execHeaterWindowEnd (s : State) : Answer :=
  if 0 < s.frg.applied then .next (s.updFrg fun g => { g with outputOn := true, windowSecs := 0 }) else .next s

/-- The ON time of a heater window ends (R58); at duty 1000 it is the whole window. -/
def execHeaterOnTimeEnd (s : State) : Answer :=
  if s.frg.outputOn = true ∧ 0 < s.frg.applied ∧ s.frg.applied < 1000 then
    .next (s.updFrg fun g => { g with outputOn := false })
  else .next s

/-- DIO reports the cutout line (R59, R152): the field takes the state and the applied duty follows; an opening, or a
first report of OPEN, then sets the flag and offers a capture with the duty just before, after the notices of that change
(log 72). -/
def State.reportCutout (s : State) (c : Contact) : State :=
  let duty := s.frg.applied
  let s := (s.updFrg fun g => { g with cutout := c }).propagate
  match c with
  | .opened => s.faultEvent .heaterCutout 0 duty
  | .closed => s

/-! ### Defrost -/

/-- The defrost ends CLEARED (R74, R76). -/
def execDefrostCleared (s : State) : Answer :=
  match s.frg.defrost.endDue with
  | some (.cleared, elapsed, confirm) =>
    .next ((s.updDefrost fun d => { d with lastResult := some .cleared, elapsed := elapsed, confirm := confirm }).endDefrost
      .cleared (s.setting 35))
  | _ => .next s

/-- The defrost ends INCOMPLETE (R75, R76), with the capture before the end actions (log 72). -/
def execDefrostIncomplete (s : State) : Answer :=
  match s.frg.defrost.endDue with
  | some (.incomplete, elapsed, confirm) =>
    let s := s.updDefrost fun d =>
      { d with lastResult := some .incomplete, elapsed := elapsed, confirm := confirm }
    let s := s.faultEvent .defrostIncomplete 0 s.frg.load
    let s := s.updFrg fun g => { g with load := s.setting 32 / 2 }
    .next (s.endDefrost .incomplete (s.setting 36))
  | _ => .next s

/-- The lockout runs out: the phase becomes IDLE (R72). -/
def execLockoutEnd (s : State) : Answer :=
  if s.frg.defrost.phase = .lockout ∧ s.frg.defrost.lockout = 0 then
    .next (s.updDefrost fun d => { d with phase := .idle })
  else .next s

/-- The defrost record at the acceptance of STANDBY (R79). -/
def Defrost.standby (d : Defrost) : Defrost :=
  match d.phase with
  | .prepare => { d with phase := .idle, started := false, elapsed := 0, endDue := none }
  | .posted => { d with phase := .suspended, started := false, endDue := none }
  | .running | .confirm => { d with phase := .suspended, confirm := 0, endDue := none }
  | .suspended | .idle | .lockout => d

/-- The post of a defrost that was SUSPENDED as the device returned to RUNNING from STOPPING or WAKING (R80): `found` is
the phase at the return. A record in any other phase does not post, whatever the entry has made of it since. -/
def State.repostDefrost (s : State) (found : DefrostPhase) : State :=
  if found = .suspended then
    (if s.frg.defrost.started then s else s.updDefrost fun d => { d with phase := .posted }).postDefrost
  else s

/-! ### READ_FROST -/

/-- The code of a channel status (R47, R174). -/
def ChannelStatus.code : ChannelStatus → Nat
  | .good => 0
  | .holding => 1
  | .invalid => 2

/-- The code of a regime (R48, R174). -/
def Regime.code : Regime → Nat
  | .normal => 0
  | .substitute => 1
  | .fixed => 2

/-- The code of a tier (R51, R174). -/
def Tier.code : Tier → Nat
  | .duct => 0
  | .rooms => 1
  | .fallback => 2

/-- The code of a defrost phase (R67, R174). -/
def DefrostPhase.code : DefrostPhase → Nat
  | .idle => 0
  | .prepare => 1
  | .posted => 2
  | .running => 3
  | .confirm => 4
  | .suspended => 5
  | .lockout => 6

/-- The code of a last result: NONE, CLEARED, INCOMPLETE (R67, R174). -/
def defrostResultCode : Option DefrostEnd → Nat
  | none => 0
  | some e => e.code

/-- The code of the cutout field: CLOSED, OPEN (R51, R174). -/
def cutoutCode : Contact → Nat
  | .closed => 0
  | .opened => 1

/-- The fields of a channel (R65). A raw value beyond 16 bits is carried as the nearest that fits (log 64). -/
def Frg.channelBytes (g : Frg) (i : TempId) : List Byte :=
  let c := g.channel i
  u8 c.status.code ++ u8 c.holdTime ++ s16 (clampI c.raw (-32768) 32767) ++ opt 2 s16 (g.inUse i)
    ++ opt 2 s16 c.lastGood

/-- The frost record in the order of R51 (log 31). -/
def State.frostBytes (s : State) : List Byte :=
  let g := s.frg
  u8 g.regime.code ++ opt 2 u16 g.rhEta ++ opt 1 u8 (g.tier.map (·.code)) ++ opt 2 s16 g.td ++ opt 2 s16 g.margin
    ++ u16 g.load ++ u16 g.request ++ u16 g.applied ++ u8 (if g.outputOn then 0 else 1) ++ u16 g.runOn
    ++ u8 g.exhausted ++ u8 g.imbalance ++ yesNo s.capInForce ++ opt 2 u16 s.capC ++ u8 g.stage.code
    ++ u8 (cutoutCode g.cutout)

/-- The defrost record in the order of R67. -/
def Defrost.bytes (d : Defrost) : List Byte :=
  u8 d.phase.code ++ yesNo d.started ++ u16 d.elapsed ++ u8 d.confirm ++ u16 d.lockout
    ++ u8 (defrostResultCode d.lastResult) ++ u16 d.count

/-- READ_FROST (R65). -/
def actReadFrost (s : State) (_ : Origin) (_ : List Byte) : State × Reply :=
  let g := s.frg
  (s, ⟨.ok, g.channelBytes .oda ++ g.channelBytes .sup ++ g.channelBytes .eta ++ g.channelBytes .eha
    ++ u8 g.regime.code ++ s.frostBytes ++ s32 (if s.heaterFitted then 1 else 0) ++ s32 (settingVal s.osc.working 32)
    ++ g.defrost.bytes⟩)

/-- READ_FROST on a link (R65). -/
def execReadFrost (l : Link) (s : State) : Answer := .next (s.request l .readFrost actReadFrost)

end Sys2Proof.Machine
end

