-- ==== Sys2Proof/Machine/Humidity.lean ====
section
/-! DEFINITION. The humidity response: freshness (R100), rings (R105), boost records (R106 to R111), dryness (R112), its
demands (R113) and the extract humidity value (R114, R115). -/

namespace Sys2Proof.Machine

/-! ### Entries -/

/-- Entry `n`, 1 to 8 (R95). -/
def Hum.sensor (h : Hum) (n : Nat) : Option Sensor := if n = 0 then none else h.sensors[n - 1]?

/-- Entry `n` replaced by its image. -/
def Hum.updSensor (h : Hum) (n : Nat) (f : Sensor → Sensor) : Hum :=
  if n = 0 then h else { h with sensors := h.sensors.modify (n - 1) f }

/-- Entry `n` replaced by its image, in the whole. -/
def State.updSensor (s : State) (n : Nat) (f : Sensor → Sensor) : State := s.updHum (·.updSensor n f)

/-- The age of the last good reading (R100, R102). -/
def Sensor.age (e : Sensor) (now : Nat) : Option Nat := e.lastGood.map (now - ·)

/-- The entry's reading is fresh (R100). -/
def Sensor.fresh (e : Sensor) (now : Nat) : Bool :=
  e.state == .online && e.lastStatus == some .ok
    && (match e.age now with | some a => decide (a ≤ Config.freshSeconds) | none => false)

/-- The last humidity of a fresh entry. -/
def Sensor.freshHum (e : Sensor) (now : Nat) : Option Nat := if e.fresh now then e.lastHum else none

/-- The role counts toward dryness and the ROOMS tier (R95). -/
def Role.room : Role → Bool
  | .wetRoom | .dryRoom => true
  | .extractDuct | .outdoor => false

/-- The entry's boost record is in BOOST. -/
def Sensor.boosting (e : Sensor) : Bool := match e.boost with
  | some b => b.state == .boost
  | none => false

/-! ### The extract humidity value -/

/-- The greatest of a list, none for an empty one. -/
def greatest (l : List Nat) : Option Nat := match l with
  | [] => none
  | x :: rest => some (rest.foldl max x)

/-- The extract humidity value and tier (R114). -/
def Hum.extractNow (h : Hum) (now fallback : Nat) : Nat × Tier :=
  match (h.sensors.filter fun e => e.role == .extractDuct).findSome? (·.freshHum now) with
  | some v => (v, .duct)
  | none => match greatest ((h.sensors.filter fun e => e.role.room).filterMap (·.freshHum now)) with
    | some v => (v, .rooms)
    | none => (fallback, .fallback)

/-- The value and tier are derived anew while the response is active (R114); a change of the tier to FALLBACK sets
FROST_DEGRADED (R115). -/
def State.deriveHumidity (s : State) : State :=
  if s.hum.active then
    let v := s.hum.extractNow s.osc.uptime (s.setting 45)
    let before : Option Tier := s.hum.extract.map Prod.snd
    let s := s.updHum fun h => { h with extract := some v }
    if v.2 = .fallback ∧ before ≠ some .fallback then s.setFlag .frostDegraded else s
  else s

/-! ### The two demands -/

/-- HUMIDITY is due (R113). -/
def Hum.humidityDue (h : Hum) : Bool := h.sensors.any (·.boosting)

/-- HUM posts HUMIDITY where the slot is due, not posted, and the device is RUNNING (R113). -/
def State.tryHumidity (s : State) : State :=
  if s.hum.humidityDue = true ∧ s.hum.humidityMark = false ∧ s.osc.device = .running then
    let r := s.internalPost .humidity 7 (.flows (s.setting 6) (s.setting 6)) none
    if r.2 = .ok then r.1.updHum fun h => { h with humidityMark := true } else r.1
  else s

/-- HUM posts DRYNESS where the slot is due, not posted, and the device is RUNNING (R113). -/
def State.tryDryness (s : State) : State :=
  if s.hum.dryOn = true ∧ s.hum.drynessMark = false ∧ s.osc.device = .running then
    let r := s.internalPost .dryness 2 (.flows (s.setting 9) (s.setting 9)) none
    if r.2 = .ok then r.1.updHum fun h => { h with drynessMark := true } else r.1
  else s

/-- HUM withdraws HUMIDITY when it stops being due (R113). -/
def State.endHumidity (s : State) : State :=
  if s.hum.humidityDue = false ∧ s.hum.humidityMark = true then
    (s.updHum fun h => { h with humidityMark := false }).withdraw .humidity
  else s

/-- HUM withdraws DRYNESS when it stops being due (R113). -/
def State.endDryness (s : State) : State :=
  if s.hum.dryOn = false ∧ s.hum.drynessMark = true then
    (s.updHum fun h => { h with drynessMark := false }).withdraw .dryness
  else s

/-! ### Boosts -/

/-- The lowest value of a ring (R107); none for an empty one. -/
def ringMin (l : List Nat) : Option Nat := match l with
  | [] => none
  | x :: rest => some (rest.foldl min x)

/-- The level before a rise: the ring's minimum when it holds at least 3 values, else the reading (R107). -/
def preRise (ring : List Nat) (rh : Nat) : Nat :=
  if 3 ≤ ring.length then (ringMin ring).getD rh else rh

/-- What starts a boost at a reading, if anything (R107). -/
def boostTest (ring : List Nat) (rh rhAbs rhRise : Nat) : Option BoostTrigger :=
  if rhAbs ≤ rh then some .absolute
  else if 3 ≤ ring.length ∧ 400 ≤ rh ∧ preRise ring rh + rhRise ≤ rh then some .rise
  else none

/-- A boost record that starts (R107). -/
def Boost.start (b : Boost) (t : BoostTrigger) (now pre : Nat) : Boost :=
  { b with state := .boost, trigger := some t, startTime := some now, preRise := some pre, endTarget := some (pre + 30),
           time := 0, limitDue := false }

/-- A boost record whose boost ends without a holdoff (R109, R110). -/
def Boost.finish (b : Boost) (e : BoostEnd) : Boost :=
  { b with state := .idle, lastEnd := some e, time := 0, limitDue := false }

/-- A boost record that reaches its limit (R108). -/
def Boost.limit (b : Boost) (holdoff : Nat) : Boost :=
  { b with state := .holdoff, holdoff := holdoff, lastEnd := some .limit, time := 0, limitDue := false }

/-- A boost of entry `n` starts: HUMIDITY_BOOST, and then the post if the slot was not due before (R107, R111, R113,
log 72). -/
def State.startBoost (s : State) (n : Nat) (t : BoostTrigger) (pre : Nat) : State :=
  let was := s.hum.humidityDue
  let s := s.updSensor n fun e => { e with boost := e.boost.map fun b => b.start t s.osc.uptime pre }
  let s := s.raise .humidityBoost n 0
  if was then s else s.tryHumidity

/-- A boost of entry `n` ends as `f` says: HUMIDITY_BOOST, and then the withdrawal if it was the last (R111, R113,
log 72). -/
def State.endBoost (s : State) (n : Nat) (f : Boost → Boost) : State :=
  let s := s.updSensor n fun e => { e with boost := e.boost.map f }
  (s.raise .humidityBoost n 1).endHumidity

/-- The end conditions of a boost at a fresh reading (R109). -/
def Boost.endsAt (b : Boost) (rh minimum rhAbs : Nat) : Bool :=
  decide (minimum ≤ b.time) && (match b.endTarget with | some t => decide (rh ≤ t) | none => false)
    && decide (rh + 50 < rhAbs)

/-- A fresh reading of entry `n` with humidity `rh` reaches the response (R104, R107, R109, R114). -/
def State.freshReading (s : State) (n rh : Nat) : State :=
  if s.hum.active then
    let s := match s.hum.sensor n with
      | some e => match e.boost with
        | some b => match b.state with
          | .idle => match boostTest e.ring rh (s.setting 39) (s.setting 40) with
            | some t => s.startBoost n t (preRise e.ring rh)
            | none => s
          | .boost => if b.endsAt rh (s.setting 41) (s.setting 39) then s.endBoost n (·.finish .fallen) else s
          | .holdoff => s
        | none => s
      | none => s
    s.deriveHumidity
  else s

/-- Entry `n` has left ONLINE: its ring is emptied (R105) and its boost record handled (R110). -/
def State.entryLost (s : State) (n : Nat) : State :=
  let s := s.updSensor n fun e => { e with ring := [] }
  match (s.hum.sensor n).bind (·.boost) with
  | some b => match b.state with
    | .boost => s.endBoost n (·.finish .loss)
    | .holdoff => s.updSensor n fun e => { e with boost := some { b with state := .idle, holdoff := 0 } }
    | .idle => s
  | none => s

/-! ### Dryness -/

/-- The entry qualifies for the dryness average (R112). -/
def Sensor.qualifies (e : Sensor) (now : Nat) : Bool := e.role.room && e.fresh now && !e.boosting

/-- The dryness average and the qualifying count (R112). -/
def Hum.dryness (h : Hum) (now : Nat) : Option Nat × Nat :=
  let l := (h.sensors.filter fun e => e.qualifies now).filterMap (·.lastHum)
  (if l.isEmpty then none else some (l.sum / l.length), l.length)

/-- The dryness record after an evaluation (R112). -/
def dryNext (on : Bool) (avg : Option Nat) (threshold : Nat) (odaInvalid : Bool) (oda : Int) : Bool :=
  match on, avg with
  | false, some a => decide (a < threshold) && !odaInvalid && decide (oda < 50)
  | false, none => false
  | true, none => false
  | true, some a => !(decide (threshold + 50 < a) || (!odaInvalid && decide (80 ≤ oda)))

/-- The dryness evaluation at a ring tick (R112). -/
def State.evaluateDryness (s : State) : State :=
  let d := s.hum.dryness s.osc.uptime
  let on := dryNext s.hum.dryOn d.1 (s.setting 44) (s.frg.oda.status == .invalid) s.frg.odaInUse
  (s.updHum fun h => { h with dryOn := on, dryAverage := d.1, dryCount := d.2 }).endDryness

/-! ### Timers and ticks -/

/-- A value is appended to a ring (R105). -/
def ringAppend (ring : List Nat) (v : Nat) : List Nat :=
  (if Config.ringCapacity ≤ ring.length then ring.drop 1 else ring) ++ [v]

/-- A ring tick of one entry (R105). -/
def Sensor.tick (e : Sensor) (now : Nat) : Sensor :=
  match e.freshHum now with
  | some v => { e with ring := ringAppend e.ring v }
  | none => e

/-- The ring tick, every 60 s once the response is active (R105, R112, R113). HUM's acts on the demand table follow in this
order: it withdraws DRYNESS, posts HUMIDITY, posts DRYNESS (log 53). The targets are resolved after each (R29). A tick that is
taken late takes its 60 s off the timer (log 69). -/
def execRingTick (s : State) : Answer :=
  if s.hum.active = true ∧ Config.ringSeconds ≤ s.hum.ringTimer then
    let s := s.updHum fun h =>
      { h with ringTimer := h.ringTimer - Config.ringSeconds, sensors := h.sensors.map (·.tick s.osc.uptime) }
    .next s.evaluateDryness.propagate.tryHumidity.propagate.tryDryness.propagate
  else .next s

/-- The boost record of entry `n` has reached "humidity boost maximum" at an update (R108). -/
def execBoostLimit (n : Nat) (s : State) : Answer :=
  match (s.hum.sensor n).bind (·.boost) with
  | some b =>
    if b.state = .boost ∧ b.limitDue = true then .next (s.endBoost n (·.limit (s.setting 43))).propagate
    else .next s
  | none => .next s

/-- The holdoff of entry `n` runs out: the record is IDLE (R108). -/
def execHoldoffEnd (n : Nat) (s : State) : Answer :=
  match (s.hum.sensor n).bind (·.boost) with
  | some b =>
    if b.state = .holdoff ∧ b.holdoff = 0 then
      .next (s.updSensor n fun e => { e with boost := some { b with state := .idle } })
    else .next s
  | none => .next s

/-- A boost record at one second (R108): a time in BOOST that reaches `max`, the current "humidity boost maximum", makes the
limit's step due, and stands until that step is taken (log 2). -/
def Boost.second (b : Boost) (now max : Nat) : Boost :=
  match b.state with
  | .boost =>
    if b.limitDue then b else
    let time := min 14400 (now - b.startTime.getD now)
    { b with time := time, limitDue := decide (max ≤ time) }
  | .holdoff => { b with holdoff := b.holdoff - 1 }
  | .idle => b

/-- The boost records at one second (R108). -/
def State.boostSecond (s : State) : State :=
  s.updHum fun h =>
    { h with sensors := h.sensors.map fun e => { e with boost := e.boost.map (·.second s.osc.uptime (s.setting 42)) } }

end Sys2Proof.Machine
end

