-- ==== Sys2Proof/Machine/Bus.lean ====
section
/-! DEFINITION. The sensor bus and the sensor table: the transaction queue (R91), outcomes (R85, R89), completion and bus
fault (R90, R94), the entries (R97 to R100), PROBE_SENSOR (R101) and READ_SENSORS (R102, R117, R177). -/

namespace Sys2Proof.Machine

/-! ### The queue and the entries -/

/-- An entry is offered to the transaction queue; the same sensor and kind is not queued twice (R91). -/
def Bus.offer (b : Bus) (n : Nat) (k : BusKind) : Bus :=
  if b.queue.contains (n, k) then b else { b with queue := b.queue ++ [(n, k)] }

/-- An offer to the queue, in the whole. -/
def State.offerBus (s : State) (n : Nat) (k : BusKind) : State := s.updHum fun h => { h with bus := h.bus.offer n k }

/-- The code of a sensor state (R96, R174). -/
def SensorState.code : SensorState → Nat
  | .unused => 0
  | .probing => 1
  | .online => 2
  | .lost => 3
  | .absent => 4

/-- An entry changes state: SENSOR_STATE is raised (R100). -/
def State.setSensor (s : State) (n : Nat) (st : SensorState) (f : Sensor → Sensor) : State :=
  (s.updSensor n fun e => { f e with state := st }).raise .sensorState n st.code

/-- An entry enters PROBING: attempts 0, the pause timer stopped, a PROBE offered at once (R93). -/
def State.enterProbing (s : State) (n : Nat) : State :=
  ((s.setSensor n .probing fun e => { e with attempts := 0, pause := none, lostTime := 0 }).offerBus n .probe).deriveHumidity

/-- An entry becomes LOST (R99, R100). The rules leave the order of the notices open: SENSOR_STATE, then CAPTURE_TAKEN, then
HUMIDITY_BOOST with what follows from a boost that ends (log 72). -/
def State.loseSensor (s : State) (n : Nat) (o : Nat) : State :=
  let s := s.setSensor n .lost fun e => { e with lostTime := Config.lostSeconds }
  let s := s.faultEvent .sensorLost n o
  ((if s.hum.active then s.entryLost n else s).deriveHumidity).propagate

/-! ### Outcomes -/

/-- The code of an outcome (R89). -/
def BusOutcome.code : BusOutcome → Nat
  | .good => 0
  | .noAck => 1
  | .crcBad => 2
  | .stretchTimeout => 3
  | .sensorError => 4
  | .rangeBad => 5

/-- A reading of a GOOD reply (R87, R89). -/
structure Measured where
  temp : Int
  hum : Nat
  status : SensorStatus
deriving DecidableEq, Repr

/-- The outcome of the six bytes of a reply record, tests 3 to 8 of R89, with the values of a GOOD one. -/
def classifyReply (b0 b1 b2 b3 b4 b5 : Byte) : BusOutcome × Option Measured :=
  let t : Int := (b0 ++ b1 : BitVec 16).toInt
  let h := be16 b2 b3
  if crc8 [b0, b1, b2, b3, b4] ≠ b5 then (.crcBad, none)
  else if b4 = 2 then (.sensorError, none)
  else if b4 ≠ 0 ∧ b4 ≠ 1 then (.rangeBad, none)
  else if t < -400 ∨ 800 < t then (.rangeBad, none)
  else if 1050 < h then (.rangeBad, none)
  else (.good, some { temp := t, hum := min h 1000, status := if b4 = 0 then .ok else .warming })

/-- The outcome of a PROBE that no stretch ended (R85). -/
def classifyProbe : ProbeReply → BusOutcome
  | .answered _ true => .good
  | .answered _ false | .dataLow => .noAck

/-- The outcome of a MEASURE that no stretch ended (R89). -/
def classifyMeasure : MeasureReply → BusOutcome × Option Measured
  | .noAck _ _ | .dataLow => (.noAck, none)
  | .bytes _ b0 b1 b2 b3 b4 b5 => classifyReply b0 b1 b2 b3 b4 b5

/-- The outcome of a completed PROBE reaches its entry (R97). -/
def State.probed (s : State) (n : Nat) (o : BusOutcome) : State :=
  let s := s.updSensor n fun e => { e with lastOutcome := some (.probe, o) }
  match s.hum.sensor n with
  | some e =>
    if e.state = .probing then
      if o = .good then
        ((s.setSensor n .online fun e => { e with failures := 0, pause := none }).offerBus n .measure).deriveHumidity
      else
        let attempts := bump e.attempts 50
        if s.setting 38 ≤ attempts then
          (s.setSensor n .absent fun e => { e with attempts := attempts, pause := none }).deriveHumidity
        else s.updSensor n fun e => { e with attempts := attempts, pause := some (s.setting 37) }
    else s
  | none => s

/-- The outcome of a completed MEASURE reaches its entry (R98). -/
def State.measured (s : State) (n : Nat) (o : BusOutcome) (m : Option Measured) : State :=
  let s := s.updSensor n fun e => { e with lastOutcome := some (.measure, o) }
  match s.hum.sensor n with
  | some e =>
    if e.state = .online then
      match m with
      | some v =>
        let s := s.updSensor n fun e =>
          { e with lastTemp := some v.temp, lastHum := some v.hum, lastStatus := some v.status, failures := 0,
                   lastGood := if v.status = .ok then some s.osc.uptime else e.lastGood }
        if v.status = .ok then (s.freshReading n v.hum).propagate else s
      | none =>
        let failures := bump e.failures 3
        let s := s.updSensor n fun e => { e with failures := failures }
        if 3 ≤ failures then s.loseSensor n o.code else s
    else s
  | none => s

/-! ### The controller -/

/-- The bus release sequence (R94): the controller stops driving both lines, drives nine clock pulses as far as the clock
line is free, then a stop condition. -/
def releaseSequence : List BusItem := .release :: List.replicate 9 .clock ++ [.stop]

/-- The bus has faulted (R94), at the third timeout, of sensor `n`: the release sequence goes out and RECOVERY begins. -/
def State.busFault (s : State) (n : Nat) : State :=
  let s := s.faultEvent .sensorBusFault 0 n
  s.updHum fun h =>
    { h with bus := { h.bus with faults := bump h.bus.faults 255, timeouts := 0, state := .recovery,
                                 recovery := Config.recoveryMs, flight := releaseSequence } }

/-- The items of a transaction up to the byte sent after `k` others. -/
def throughSend : List BusItem → Nat → List BusItem
  | [], _ => []
  | .send b :: _, 0 => [.send b]
  | .send b :: l, k + 1 => .send b :: throughSend l k
  | x :: l, k => x :: throughSend l k

/-- How many bytes a MEASURE has sent before that of `p` (R86). -/
def bytesBefore : AckPoint → Nat
  | .writeAddress => 0
  | .command => 1
  | .readAddress => 2

/-- What has gone out before the line test (R84, R103). -/
def beforeTest : List BusItem → List BusItem
  | [] | .lineTest :: _ => []
  | x :: l => x :: beforeTest l

/-- What follows the line test (R84). -/
def afterTest : List BusItem → List BusItem
  | [] => []
  | .lineTest :: l => l
  | _ :: l => afterTest l

/-- The pulses of a line test that finds the data line high after them (R84). -/
def testPulses (pulses : Fin 10) : List BusItem := List.replicate pulses.val .clock

/-- What passes where the line test finds the data line high after `pulses`, and then `rest` (R84). -/
def Bus.passing (b : Bus) (pulses : Fin 10) (rest : List BusItem) : List BusItem :=
  beforeTest b.flight ++ testPulses pulses ++ rest

/-- What passes where the data line is still low after the ninth pulse: there is no start condition (R84, log 65). -/
def Bus.pulsesOnly (b : Bus) : List BusItem := b.passing 9 []

/-- What passes in a PROBE that no stretch ends (R84, R85). -/
def Bus.probeSent (b : Bus) : ProbeReply → List BusItem
  | .answered k _ => b.passing k (afterTest b.flight)
  | .dataLow => b.pulsesOnly

/-- What passes in a MEASURE that no stretch ends (R84, R86): a high acknowledge bit ends it at once with a stop
condition. -/
def Bus.measureSent (b : Bus) : MeasureReply → List BusItem
  | .noAck k p => b.passing k (throughSend (afterTest b.flight) (bytesBefore p) ++ [.stop])
  | .bytes k _ _ _ _ _ _ => b.passing k (afterTest b.flight)
  | .dataLow => b.pulsesOnly

/-- What passes in a transaction that a stretch timeout ends, before its start condition or after (R84, R88): no stop
condition is sent, and the controller stops driving both lines. How far it came is free (log 65). -/
def Bus.stretchSent (b : Bus) (free : Nat) : List BusItem :=
  beforeTest b.flight
    ++ (testPulses (Config.freePulses free) ++ (afterTest b.flight).dropLast).take (Config.freePassed free) ++ [.release]

/-- The completion of the transaction in flight, of which `sent` has passed on the bus, steps 1 to 3 of R90: the head leaves
the queue, the timeouts are counted, a third one is a bus fault. -/
def State.completeHead (s : State) (n : Nat) (o : BusOutcome) (sent : List BusItem) : State :=
  let timeouts := if o = .stretchTimeout then s.hum.bus.timeouts + 1 else 0
  let s := s.updHum fun h =>
    { h with bus := { h.bus with
      queue := h.bus.queue.drop 1, timeouts := timeouts, state := .idle, flight := [], sent := sent } }
  if 3 ≤ timeouts then s.busFault n else s

/-- The address byte of a transaction (R84): the 7-bit sensor address, and the direction bit below it (log 59). -/
def addressByte (address : Nat) (read : Bool) : Byte := BitVec.ofNat 8 (2 * address + if read then 1 else 0)

/-- The measurement command byte (R86). -/
def measureCommand : Byte := 0x4D

/-- What a transaction consists of, after its line test, when every byte is acknowledged (R84 to R86). A PROBE is the
address byte alone; a MEASURE is a command part and, after a repeated start, six bytes of which the first five are
acknowledged. A high acknowledge bit ends it at once with a stop condition. -/
def BusKind.sequence (k : BusKind) (address : Nat) : List BusItem :=
  match k with
  | .probe => [.start, .send (addressByte address false), .stop]
  | .measure =>
    [.start, .send (addressByte address false), .send measureCommand, .start, .send (addressByte address true)]
      ++ List.replicate 5 (.read true) ++ [.read false, .stop]

/-- What the transaction of the head entry consists of (R84 to R86). -/
def Hum.headSequence (h : Hum) : List BusItem :=
  match h.bus.queue with
  | (n, k) :: _ => match h.sensor n with
    | some e => k.sequence e.address
    | none => []
  | [] => []

/-- What goes out as the transaction of the head entry starts: the line test of R84, then the transaction; the first one
after a reset is preceded by the release sequence (R103). -/
def Hum.startSequence (h : Hum) : List BusItem :=
  (if h.bus.releaseDue then releaseSequence else []) ++ .lineTest :: h.headSequence

/-- The controller starts the transaction of the head entry with the line test, whose result shows as it completes (R84, R90,
log 65). -/
def execTransactionStart (s : State) : Answer :=
  if s.hum.bus.state = .idle ∧ s.hum.bus.queue ≠ [] then
    .next (s.updHum fun h =>
      { h with bus := { h.bus with state := .busy, releaseDue := false, flight := h.startSequence } })
  else .next s

/-- A PROBE in flight completes with its acknowledge bit, or with NO_ACK where the data line test failed (R85, R90). -/
def execProbeComplete (ack : ProbeReply) (s : State) : Answer :=
  match s.hum.bus.state, s.hum.bus.queue with
  | .busy, (n, .probe) :: _ =>
    let o := classifyProbe ack
    .next ((s.completeHead n o (s.hum.bus.probeSent ack)).probed n o)
  | _, _ => .next s

/-- A MEASURE in flight completes (R86, R89, R90). -/
def execMeasureComplete (m : MeasureReply) (s : State) : Answer :=
  match s.hum.bus.state, s.hum.bus.queue with
  | .busy, (n, .measure) :: _ =>
    let c := classifyMeasure m
    .next ((s.completeHead n c.1 (s.hum.bus.measureSent m)).measured n c.1 c.2)
  | _, _ => .next s

/-- The transaction in flight ends STRETCH_TIMEOUT (R88, R90). -/
def State.stretched (s : State) (n : Nat) : State :=
  (s.completeHead n .stretchTimeout (s.hum.bus.stretchSent s.freeCount)).useFree

/-- A clock stretch reaches the bus timeout: the transaction in flight ends STRETCH_TIMEOUT, also before its start
condition (R84, R88, R90). -/
def execStretchTimeout (s : State) : Answer :=
  match s.hum.bus.state, s.hum.bus.queue with
  | .busy, (n, .probe) :: _ => .next ((s.stretched n).probed n .stretchTimeout)
  | .busy, (n, .measure) :: _ => .next ((s.stretched n).measured n .stretchTimeout none)
  | _, _ => .next s

/-- Recovery remaining reaches 0: the controller is IDLE (R94). That comes within the second after which 1000 ms or less
remain; with more remaining the step does not arise (logs 1 and 18). -/
def execRecoveryEnd (s : State) : Answer :=
  if s.hum.bus.state = .recovery ∧ s.hum.bus.recovery ≤ 1000 then
    .next (s.updHum fun h => { h with bus := { h.bus with state := .idle, recovery := 0, flight := [] } })
  else .next s

/-- The indexes of the entries (R95). -/
def sensorIndexes : List Nat := [1, 2, 3, 4, 5, 6, 7, 8]

/-- A poll round offers a MEASURE for each entry that is ONLINE, in index order (R92). -/
def State.pollRound (s : State) : State :=
  (sensorIndexes.filter fun n => match s.hum.sensor n with
    | some e => e.state == .online
    | none => false).foldl (fun s n => s.offerBus n .measure) s

/-- The poll round, every 10 s (R92). One that is taken late takes its 10 s off the timer (log 69). -/
def execPollRound (s : State) : Answer :=
  match s.hum.pollTimer with
  | some t =>
    if Config.tenSeconds ≤ t then
      .next (s.updHum fun h => { h with pollTimer := some (t - Config.tenSeconds) }).pollRound
    else .next s
  | none => .next s

/-- The probe pause of entry `n` runs out: a PROBE is offered (R93). -/
def execProbePauseEnd (n : Nat) (s : State) : Answer :=
  match s.hum.sensor n with
  | some e =>
    if e.state = .probing ∧ e.pause = some 0 then
      .next ((s.updSensor n fun e => { e with pause := none }).offerBus n .probe)
    else .next s
  | none => .next s

/-- The lost time of entry `n` runs out: PROBING again (R99). -/
def execLostTimeEnd (n : Nat) (s : State) : Answer :=
  match s.hum.sensor n with
  | some e => if e.state = .lost ∧ e.lostTime = 0 then .next (s.enterProbing n) else .next s
  | none => .next s

/-- The times of an entry at one second (R93, R99). -/
def Sensor.second (e : Sensor) : Sensor :=
  { e with pause := e.pause.map (· - 1), lostTime := if e.state = .lost then e.lostTime - 1 else e.lostTime }

/-- Recovery remaining at an increment of the uptime counter (R94): 1000 ms less, but at the first one after the bus fault
less by the part of the second that has passed since, which is free (log 18). -/
def Bus.second (b : Bus) (free : Nat) : Bus :=
  if b.state = .recovery then
    { b with recovery := b.recovery - if b.recovery = Config.recoveryMs then 1 + free % 1000 else 1000 }
  else b

/-- The bus and table at one second: pauses, lost times, recovery, poll timer, ring timer (R92 to R94, R99, R105). The poll
and ring timers count on past 10 and 60 while POLL_ROUND or RING_TICK has not been taken (log 69). -/
def State.busSecond (s : State) : State :=
  let s' := s.updHum fun h =>
    { h with
      bus := h.bus.second (Config.freeMs s.freeCount)
      sensors := h.sensors.map (·.second)
      pollTimer := h.pollTimer.map (· + 1)
      ringTimer := if h.active then h.ringTimer + 1 else h.ringTimer }
  s'.useFree

/-! ### PROBE_SENSOR -/

/-- PROBE_SENSOR (R101). -/
def actProbeSensor (s : State) (o : Origin) (fields : List Byte) : State × Reply :=
  match fields with
  | [i] =>
    requireOrigin .service o s <|
      let n := i.toNat
      match s.hum.sensor n with
      | none => (s, .bare .badRequest)
      | some e => match e.state with
        | .unused => (s, .bare .badRequest)
        | .absent | .lost => (s.enterProbing n, ⟨.ok, u8 n ++ u8 SensorState.probing.code⟩)
        | .probing =>
          (s.updSensor n fun e => { e with attempts := 0 }, ⟨.ok, u8 n ++ u8 SensorState.probing.code⟩)
        | .online => (s, ⟨.ok, u8 n ++ u8 SensorState.online.code⟩)
  | _ => (s, .bare .badRequest)

/-- PROBE_SENSOR on a link (R101). -/
def execProbeSensor (l : Link) (s : State) : Answer := .next (s.request l .probeSensor actProbeSensor)

/-! ### READ_SENSORS -/

/-- The code of a bus state (R90, R174). -/
def BusState.code : BusState → Nat
  | .idle => 0
  | .busy => 1
  | .recovery => 2

/-- The code of a transaction kind (R91, R174). -/
def BusKind.code : BusKind → Nat
  | .probe => 0
  | .measure => 1

/-- The code of a role (R95, R182). -/
def Role.code : Role → Nat
  | .wetRoom => 0
  | .dryRoom => 1
  | .extractDuct => 2
  | .outdoor => 3

/-- The code of a sensor status (R96, R174). -/
def SensorStatus.code : SensorStatus → Nat
  | .ok => 0
  | .warming => 1

/-- The byte of a last outcome (R96). -/
def lastOutcomeCode : Option (BusKind × BusOutcome) → Nat
  | none => 255
  | some (.measure, o) => o.code
  | some (.probe, o) => o.code + 16

/-- The code of a boost state (R106, R174). -/
def BoostState.code : BoostState → Nat
  | .idle => 0
  | .boost => 1
  | .holdoff => 2

/-- The code of a boost trigger (R106, R174). -/
def BoostTrigger.code : BoostTrigger → Nat
  | .absolute => 0
  | .rise => 1

/-- The code of a boost's last end: NONE, FALLEN, LIMIT, LOSS (R106, R174). -/
def boostEndCode : Option BoostEnd → Nat
  | none => 0
  | some .fallen => 1
  | some .limit => 2
  | some .loss => 3

/-- The boost record in the order of R106, 19 bytes. -/
def Boost.bytes (b : Boost) : List Byte :=
  u8 b.state.code ++ opt 1 u8 (b.trigger.map (·.code)) ++ opt 4 u32 b.startTime ++ opt 2 u16 b.preRise
    ++ opt 2 u16 b.endTarget ++ u16 b.time ++ u16 b.holdoff ++ u8 (boostEndCode b.lastEnd)

/-- The fields of an entry (R96, R102, R117). -/
def Sensor.bytes (e : Sensor) (now : Nat) : List Byte :=
  u8 e.address ++ u8 e.role.code ++ u8 e.state.code ++ u8 e.attempts ++ opt 1 u8 e.pause ++ u8 e.failures
    ++ u16 e.lostTime ++ opt 2 s16 e.lastTemp ++ opt 2 u16 e.lastHum ++ opt 1 u8 (e.lastStatus.map (·.code))
    ++ opt 4 u32 e.lastGood ++ u8 (lastOutcomeCode e.lastOutcome) ++ yesNo (e.fresh now) ++ opt 4 u32 (e.age now)
    ++ listOf u16 e.ring ++ opt 19 Boost.bytes e.boost

/-- The items of the transaction queue: index, kind, in flight (R102, R177). -/
def Bus.queueBytes (b : Bus) : List Byte :=
  u8 b.queue.length ++ (b.queue.zipIdx.flatMap fun q =>
    u8 q.1.1 ++ u8 q.1.2.code ++ yesNo (q.2 == 0 && b.state == .busy))

/-- Part 0 of READ_SENSORS (R177). -/
def Hum.bytes (h : Hum) : List Byte :=
  u8 h.bus.state.code ++ u8 h.bus.timeouts ++ u16 h.bus.recovery ++ u8 h.bus.faults ++ h.bus.queueBytes
    ++ u8 (if h.dryOn then 0 else 1) ++ opt 2 u16 h.dryAverage ++ u8 h.dryCount
    ++ yesNo h.humidityMark ++ yesNo h.drynessMark
    ++ opt 3 (fun v => u16 v.1 ++ u8 v.2.code) h.extract

/-- READ_SENSORS by parts (R102, R117, R177). -/
def actReadSensors (s : State) (_ : Origin) (fields : List Byte) : State × Reply :=
  match fields with
  | [] => (s, ⟨.ok, s.hum.bytes⟩)
  | p :: _ =>
    if p = 0 then (s, ⟨.ok, s.hum.bytes⟩)
    else match s.hum.sensor p.toNat with
      | some e => (s, ⟨.ok, u8 p.toNat ++ e.bytes s.osc.uptime⟩)
      | none => (s, .bare .badRequest)

/-- READ_SENSORS on a link (R102). -/
def execReadSensors (l : Link) (s : State) : Answer := .next (s.request l .readSensors actReadSensors)

end Sys2Proof.Machine
end

