-- ==== Sys2Proof/Machine/Filters.lean ====
section
/-! DEFINITION. The filter monitor: filter sensors (R119, R120), states (R123), scaling, loading and projection (R124, R125),
the check (R126 to R133), filter service and the door (R134 to R138), the filter block (R140) and READ_FILTERS (R141). -/

namespace Sys2Proof.Machine

/-! ### Entries -/

/-- The record of a filter. -/
def Flt.filter (t : Flt) : PathId → Filter
  | .supply => t.supply
  | .extract => t.extract

/-- FLT with the record of a filter replaced. -/
def Flt.setFilter (t : Flt) (i : PathId) (f : Filter) : Flt :=
  match i with
  | .supply => { t with supply := f }
  | .extract => { t with extract := f }

/-- The limit of a filter, the current setting (R122). -/
def State.filterLimit (s : State) : PathId → Nat
  | .supply => s.setting 62
  | .extract => s.setting 63

/-- The capture subject of a filter sensor (R159). -/
def filterSubject : PathId → Nat
  | .supply => 2
  | .extract => 3

/-- The filter pressure Δp_f (R119). -/
def Filter.pressure (f : Filter) : Option Nat :=
  if f.sensor = .faulted then none else some (deltaP f.raw f.zeroOffset)

/-- The code of a filter state (R122, R174). -/
def FilterState.code : FilterState → Nat
  | .baselineDue => 0
  | .clean => 1
  | .loading => 2
  | .due => 3
  | .overdue => 4
  | .unknown => 5

/-- The entry is DUE or OVERDUE. -/
def FilterState.isDue : FilterState → Bool
  | .due | .overdue => true
  | .baselineDue | .clean | .loading | .unknown => false

/-- The state of an entry by the first case that applies (R123). -/
def Filter.derived (f : Filter) (maxHours : Nat) : FilterState :=
  if f.data.baseline.isNone then .baselineDue
  else if f.sensor ≠ .healthy then .unknown
  else if 100 ≤ f.data.loading.getD 0 ∨ maxHours ≤ f.data.hoursSinceChange then
    (if Config.overdueHours < f.data.hoursSinceDue then .overdue else .due)
  else if 50 ≤ f.data.loading.getD 0 then .loading
  else .clean

/-- An entry with its state derived; CLEAN and LOADING clear the hours since DUE (R123). -/
def Filter.derive (f : Filter) (maxHours : Nat) : Filter :=
  let st := f.derived maxHours
  { f with
    state := st
    data := if st = .clean ∨ st = .loading then { f.data with hoursSinceDue := 0 } else f.data }

/-- FILTER_DUE is set where an entry becomes DUE or OVERDUE (R123). -/
def State.flagDue (s : State) (old new : FilterState) : State :=
  if new.isDue && !old.isDue then s.setFlag .filterDue else s

/-- The state of an entry is derived; a change raises FILTER_STATE (R123). -/
def State.deriveFilter (s : State) (i : PathId) : State :=
  let old := s.flt.filter i
  let f := old.derive (s.setting 64)
  let s := s.updFlt (·.setFilter i f)
  if f.state = old.state then s else (s.raise .filterState (pathCode i) f.state.code).flagDue old.state f.state

/-- Both entries are derived. -/
def State.deriveFilters (s : State) : State := (s.deriveFilter .supply).deriveFilter .extract

/-! ### The filter block -/

/-- The content of the filter block as it stands (R140). -/
def Flt.block (t : Flt) : FilterBlock :=
  { supply := t.supply.data, extract := t.extract.data, runHours := t.runHours, hoursSinceCheck := t.check.hoursSinceCheck }

/-- Which copy a write goes to: an invalid one, the first if both are; else the one with the lower write count
(R140, R185; log 24). -/
def writeTarget (valid1 valid2 : Bool) (count1 count2 : Nat) : CopyId :=
  if valid1 = false then .first else if valid2 = false then .second else if count2 < count1 then .second else .first

/-- The write count of the next write: one above the higher count among the valid copies, 1 without one; what follows the
last is free (R140, R185, log 22). -/
def nextCount (valid1 valid2 : Bool) (count1 count2 : Nat) : Nat :=
  if valid1 = false ∧ valid2 = false then 1
  else
    let top := max (if valid1 then count1 else 0) (if valid2 then count2 else 0)
    if top < Config.last32 then top + 1 else Config.countAfterLast

/-- Which copy a load takes: the valid one, of two the one with the higher write count (R140, R186; log 24). -/
def loadSource (valid1 valid2 : Bool) (count1 count2 : Nat) : Option CopyId :=
  if valid1 = false ∧ valid2 = false then none
  else if valid2 = false then some .first
  else if valid1 = false then some .second
  else if count1 < count2 then some .second else some .first

/-- A filter write starts (R140): the copy it goes to is not valid while it is written (log 21). -/
def Flt.startWrite (t : Flt) : Flt :=
  let target := writeTarget t.copy1.crcOk t.copy2.crcOk t.copy1.writeCount t.copy2.writeCount
  let count := nextCount t.copy1.crcOk t.copy2.crcOk t.copy1.writeCount t.copy2.writeCount
  let t := { t with writing := some { snapshot := t.block, target := target, count := count }, again := false }
  match target with
  | .first => { t with copy1 := t.copy1.spoiled }
  | .second => { t with copy2 := t.copy2.spoiled }

/-- The filter block is persisted; with a write in flight one further write follows it (R140). -/
def State.persist (s : State) : State :=
  s.updFlt fun t => if t.writing.isSome then { t with again := true } else t.startWrite

/-- What a successful filter write leaves (R140). -/
def Flt.written (t : Flt) (w : FilterWrite) : Flt :=
  let c : FilterCopy := .sealed w.snapshot w.count
  match w.target with
  | .first => { t with copy1 := c }
  | .second => { t with copy2 := c }

/-- A filter write ends (R140): a failed one sets STORE_FAILED; a further write follows where one waits. -/
def execFilterWriteComplete (ok : Bool) (s : State) : Answer :=
  match s.flt.writing with
  | none => .next s
  | some w =>
    let s := if ok then s.updFlt (·.written w) else s.setFlag .storeFailed
    .next (s.updFlt fun t =>
      let t := { t with writing := none }
      if t.again then t.startWrite else t)

/-! ### The check -/

/-- A check in flight is abandoned (R133). -/
def State.abandonCheck (s : State) (o : CheckOutcome) : State :=
  if s.flt.check.phase = .idle then s
  else (((s.recordCheckEnd o).updCheck Check.discard).withdraw .filterCheck).raiseFilterResult

/-- A scheduled check becomes due, and the start test with it (R127). -/
def State.dueCheck (s : State) : State := (s.updCheck fun c => { c with scheduledDue := true }).dueStartTest

/-- The waiting time reaches its limit: DEFERRED (R128, R133). -/
def execCheckWaitingExpired (s : State) : Answer :=
  if s.flt.check.phase = .waiting ∧ Config.waitingLimit ≤ s.flt.check.waiting then
    .next (s.abandonCheck .deferred).propagate
  else .next s

/-- A path is in the settling band (R129). -/
def inBand (q : Option Nat) (qref : Nat) : Bool :=
  match q with
  | some q => decide (max (q - qref) (qref - q) * 100 ≤ 5 * qref)
  | none => false

/-- Both paths are in the band (R129, R130). -/
def State.bothInBand (s : State) : Bool :=
  inBand s.afc.supply.flow (s.setting 10) && inBand s.afc.extract.flow (s.setting 10)

/-- A sum of a check, 0 to 65535 (R126). -/
def sumCap (n : Nat) : Nat := min n 65535

/-- The check at an increment in SETTLE (R129): the timeout is tested here and marked. With the stable time or the settle
time at its end the counts stand until the row of that end is taken (logs 2 and 71). -/
def Check.settleSecond (c : Check) (band : Bool) : Check :=
  if c.timeoutDue = true ∨ Config.stableSeconds ≤ c.stable then c
  else
    let settle := bump c.settle Config.settleLimit
    let stable := if band then c.stable + 1 else 0
    { c with settle := settle, stable := stable
             timeoutDue := decide (stable < Config.stableSeconds ∧ Config.settleLimit ≤ settle) }

/-- The check at one second (R128, R129, R130). -/
def State.checkSecond (s : State) : State :=
  let band := s.bothInBand
  s.updCheck fun c =>
    match c.phase with
    | .idle => c
    | .waiting => { c with waiting := bump c.waiting Config.waitingLimit }
    | .settle => c.settleSecond band
    | .sample =>
      if Config.checkSamples ≤ c.samples then c
      else if band then
        { c with samples := c.samples + 1
                 supplyDp := sumCap (c.supplyDp + s.flt.supply.pressure.getD 0)
                 supplyQ := sumCap (c.supplyQ + s.afc.supply.flow.getD 0)
                 extractDp := sumCap (c.extractDp + s.flt.extract.pressure.getD 0)
                 extractQ := sumCap (c.extractQ + s.afc.extract.flow.getD 0) }
      else { c.discard with stable := 0, phase := .settle }

/-- The stable time reaches 30 s: SAMPLE (R129, R130). -/
def execSettleStable (s : State) : Answer :=
  if s.flt.check.phase = .settle ∧ Config.stableSeconds ≤ s.flt.check.stable then
    .next (s.updCheck fun c => { c.discard with phase := .sample })
  else .next s

/-- An increment in SETTLE has found the settle time at 180 s without the stable time: SETTLE_TIMEOUT (R129, R133). A check
that comes back from SAMPLE with its settle time at 180 s has the next increment still to come (log 71). -/
def execSettleTimeout (s : State) : Answer :=
  if s.flt.check.phase = .settle ∧ s.flt.check.timeoutDue = true then
    .next ((s.setFlag .filterCheckFailed).abandonCheck .settleTimeout).propagate
  else .next s

/-! ### Evaluation -/

/-- Δp_ref: the average pressure scaled to the reference flow (R124). -/
def scaledPressure (dp q qref : Nat) : Nat := min 1200 ((dp * qref * qref + q * q / 2) / (q * q))

/-- The loading of a filter with a baseline (R124). -/
def loadingOf (p baseline limit : Nat) : Nat :=
  if limit ≤ baseline then 100
  else if p < baseline then 0
  else min 100 ((p - baseline) * 100 / (limit - baseline))

/-- The projected hours of a history (R125). -/
def projectionOf (history : List (Nat × Nat)) (limit : Nat) : Option Nat :=
  match history.head?, history.getLast? with
  | some (h1, p1), some (h2, p2) =>
    if history.length < 2 ∨ p2 ≤ p1 ∨ h2 ≤ h1 then none
    else if limit ≤ p2 then some 0
    else some (min 65535 ((limit - p2) * (h2 - h1) / (p2 - p1)))
  | _, _ => none

/-- A history with an entry appended, the oldest of eight removed (R125). -/
def historyAppend (h : List (Nat × Nat)) (e : Nat × Nat) : List (Nat × Nat) :=
  (if Config.historyCapacity ≤ h.length then h.drop 1 else h) ++ [e]

/-- What EVALUATE does to an entry whose scaled pressure is `p` (R124, R125). -/
def FilterData.evaluate (d : FilterData) (p limit runHours : Nat) : FilterData :=
  let base := match d.baseline with
    | some b => (b, loadingOf p b limit)
    | none => (p, 0)
  let h := historyAppend d.history (runHours, p)
  { d with baseline := some base.1, lastRef := some p, loading := some base.2, history := h
           projected := projectionOf h limit }

/-- EVALUATE (R124, R125). -/
def State.evaluateFilters (s : State) : State :=
  let c := s.flt.check
  let n := Config.checkSamples
  let pS := scaledPressure (c.supplyDp / n) (c.supplyQ / n) (s.setting 10)
  let pE := scaledPressure (c.extractDp / n) (c.extractQ / n) (s.setting 10)
  s.updFlt fun t =>
    { t with supply := { t.supply with data := t.supply.data.evaluate pS (s.setting 62) t.runHours }
             extract := { t.extract with data := t.extract.data.evaluate pE (s.setting 63) t.runHours } }

/-- An UNVERIFIED sensor becomes HEALTHY (R131). -/
def Filter.verify (f : Filter) : Filter :=
  { f with sensor := if f.sensor = .unverified then .healthy else f.sensor }

/-- The completion of a check (R131). -/
def State.completeCheck (s : State) : State :=
  let s := s.updFlt fun t => { t with supply := t.supply.verify, extract := t.extract.verify }
  let s := s.deriveFilters
  let s := (s.recordCheckEnd .completed).updCheck fun c => { c with lastCompleted := some s.osc.uptime }
  ((s.withdraw .filterCheck).persist).raiseFilterResult

/-- The sixteenth sample has been taken: EVALUATE and the completion (R130, R131). -/
def execEvaluate (s : State) : Answer :=
  if s.flt.check.phase = .sample ∧ Config.checkSamples ≤ s.flt.check.samples then
    .next s.evaluateFilters.completeCheck.propagate
  else .next s

/-! ### Run hours -/

/-- The hours of an entry after a run hour (R121). -/
def Filter.hour (f : Filter) : Filter :=
  { f with data := { f.data with
      hoursSinceChange := bump f.data.hoursSinceChange 65535
      hoursSinceDue := if f.state.isDue then bump f.data.hoursSinceDue 65535 else f.data.hoursSinceDue } }

/-- Steps 1 to 5 of a run hour (R121). A check that becomes due starts at step 3 where it may (R127), so the block that
step 5 persists holds its hours since check. The run-hours counter stops at its last value (log 54). -/
def State.runHour (s : State) : State :=
  let s := s.updFlt fun t =>
    { t with
      hoursDue := t.hoursDue - 1
      runHours := bump t.runHours Config.last32
      supply := t.supply.hour
      extract := t.extract.hour
      check := { t.check with hoursSinceCheck := bump t.check.hoursSinceCheck 65535 } }
  let s := if s.setting 65 ≤ s.flt.check.hoursSinceCheck then s.dueCheck else s.dueStartTest
  let s := s.startTest
  let s := s.deriveFilters
  (if s.flt.runHours % 24 = 0 then s.persist else s).propagate

/-- A run hour has been completed and its step not yet taken (R121, log 67). -/
def execRunHour (s : State) : Answer := if 0 < s.flt.hoursDue then .next s.runHour else .next s

/-- The seconds accumulator at one second of running (R121): the second that makes it 3600 returns it to 0 and completes
a run hour, which RUN_HOUR takes (log 67). -/
def Flt.runSecond (t : Flt) : Flt :=
  if 3600 ≤ t.accumulator + 1 then { t with accumulator := 0, hoursDue := t.hoursDue + 1 }
  else { t with accumulator := t.accumulator + 1 }

/-- The seconds accumulator rises while either path is running (R121). -/
def State.accumulate (s : State) : State :=
  if s.afc.supply.running || s.afc.extract.running then s.updFlt Flt.runSecond else s

/-! ### Filter sensors -/

/-- A filter reading joins the zeroing (R120). -/
def Filter.addZero (f : Filter) (r : Reading) : Filter :=
  if readingValid (-50) 1050 r then { f with zeroSum := f.zeroSum + readingCode r } else { f with zeroFault := true }

/-- FLT reads a filter sensor (R119). A scheduled check that a recovery makes due is tested at once (R127), after the
derivation. At a fault the rules do not order the notices: the capture is offered, then a check in flight is abandoned with
DEMAND_CHANGED and FILTER_RESULT, and the entry's state is derived last, with FILTER_STATE (log 72). -/
def State.readFilter (s : State) (i : PathId) (r : Reading) : State :=
  let f := s.flt.filter i
  let f := if s.osc.zeroReading then f.addZero r else f
  let f := { f with raw := r }
  if readingValid (-50) 1050 r then
    if f.sensor = .faulted then
      ((s.updFlt (·.setFilter i { f with sensor := .unverified })).deriveFilter i).dueCheck.startTest
    else s.updFlt (·.setFilter i f)
  else if f.sensor = .faulted then s.updFlt (·.setFilter i f)
  else
    let s := (s.updFlt (·.setFilter i { f with sensor := .faulted })).faultEvent .pressureFault (filterSubject i)
      (readingCode r)
    let s := s.abandonCheck .sensorFault
    (s.updCheck fun c => { c with scheduledDue := false }).deriveFilter i

/-- The zeroing of a filter sensor completes (R120). -/
def State.zeroFilter (s : State) (i : PathId) : State :=
  let f := s.flt.filter i
  let z := zeroResult f.zeroSum f.zeroFault
  let s := s.updFlt (·.setFilter i { f with zeroOffset := z.1 })
  match z.2 with
  | some mean => s.faultEvent .pressureFault (filterSubject i) mean
  | none => s

/-! ### Filter service and the door -/

/-- The device returns to RUNNING from DOOR_OPEN or FILTER_SERVICE (R113, R127, R136, R138). The rules leave the order of
the posts open: HUM posts HUMIDITY, then DRYNESS, then FLT makes the check-start test that is due (log 7). The targets are
resolved after each change (R29). -/
def State.returnToRunning (s : State) : State :=
  let s := (s.setDevice .running).updFlt fun t => { t with serviceTimer := 0, serviceEndDue := false }
  (s.propagate.tryHumidity.propagate.tryDryness.propagate).dueStartTest.propagate

/-- The device enters DOOR_OPEN (R138). A check in flight ends before the device changes state (R126). Where the opening
also cuts a run-on, RUN_ON_CUT's capture is offered before DOOR_UNPLANNED's (R160, log 61; the notices: log 72). -/
def State.enterDoorOpen (s : State) : State :=
  (((s.abandonCheck .door).setDevice .doorOpen).propagate.faultEvent .doorUnplanned 0 0).propagate

/-- The value of a DOOR notice: 0 OPEN, 1 CLOSED (R178). -/
def doorCode : Contact → Nat
  | .opened => 0
  | .closed => 1

/-- DIO reports the filter door (R138, R136). -/
def State.doorReport (s : State) (c : Contact) : State :=
  let s := (s.updFlt fun t => { t with door := c }).raise .door 0 (doorCode c)
  match s.osc.device, c with
  | .running, .opened => s.enterDoorOpen
  | .doorOpen, .closed => s.returnToRunning
  | .servicePrepare, .opened => s.enterFilterService.propagate
  | .filterService, .closed => if s.flt.serviceTimer = 0 then s.returnToRunning else s
  | _, _ => s

/-- The device has entered RUNNING with the door reported open: FLT moves it to DOOR_OPEN (R138). -/
def State.doorTest (s : State) : State :=
  if s.osc.device = .running ∧ s.flt.door = .opened then s.enterDoorOpen else s

/-- The service timer at one second; reaching 0 is an event of its own (R136, log 38). -/
def Flt.serviceSecond (t : Flt) : Flt :=
  if t.serviceTimer = 0 then t
  else { t with serviceTimer := t.serviceTimer - 1, serviceEndDue := t.serviceTimer == 1 }

/-- The service timer reaches 0 in FILTER_SERVICE (R136). -/
def execServiceTimerEnd (s : State) : Answer :=
  if s.osc.device = .filterService ∧ s.flt.serviceEndDue = true then
    match s.flt.door with
    | .closed => .next s.returnToRunning
    | .opened => .next ((s.updFlt fun t => { t with serviceEndDue := false }).raise .door 0 (doorCode .opened))
  else .next s

/-! ### Requests -/

/-- The code of a check phase (R126, R174). -/
def CheckPhase.code : CheckPhase → Nat
  | .idle => 0
  | .waiting => 1
  | .settle => 2
  | .sample => 3

/-- CHECK_FILTERS (R127, R128). A BLOCKED reply carries phase and outcome as they stand (log 34). -/
def actCheckFilters (s : State) (o : Origin) (_ : List Byte) : State × Reply :=
  if s.osc.device ≠ .running then (s, .bare .refusedState)
  else requireOrigin .system o s <|
    if s.flt.check.phase ≠ .idle then (s, .bare .busy)
    else
      let r := s.startCheck .requested
      let t := r.1.propagate
      (t, ⟨postResult r.2 false, u8 t.flt.check.phase.code ++ u8 (outcomeCode t.flt.check.outcome)⟩)

/-- CHECK_FILTERS on a link (R127). -/
def execCheckFilters (l : Link) (s : State) : Answer := .next (s.request l .checkFilters actCheckFilters)

/-- The preheater is off and its run-on done (R134, R189). -/
def State.heaterIdle (s : State) : Bool := decide (s.frg.applied = 0) && decide (s.frg.runOn = 0)

/-- FILTER_OPEN taken (R134): a waiting check is abandoned, and the device prepares or enters the service. -/
def State.filterOpen (s : State) : State :=
  let idle := s.heaterIdle
  let s := s.abandonCheck .deferred
  (if idle then s.enterFilterService else s.setDevice .servicePrepare).propagate

/-- FILTER_OPEN (R134). -/
def actFilterOpen (s : State) (o : Origin) (_ : List Byte) : State × Reply :=
  if s.osc.device ≠ .running then (s, .bare .refusedState)
  else requireOrigin .system o s <|
    if s.flt.check.phase = .settle ∨ s.flt.check.phase = .sample ∨ s.frg.defrost.phase.inProgress = true then
      (s, .bare .busy)
    else
      (s.filterOpen, ⟨.ok, u8 (if s.heaterIdle then DevState.filterService else .servicePrepare).code⟩)

/-- FILTER_OPEN on a link (R134). -/
def execFilterOpen (l : Link) (s : State) : Answer := .next (s.request l .filterOpen actFilterOpen)

/-- FILTER_CLOSE (R136). -/
def actFilterClose (s : State) (o : Origin) (_ : List Byte) : State × Reply :=
  if s.osc.device ≠ .filterService then (s, .bare .refusedState)
  else requireOrigin .system o s <|
    match s.flt.door with
    | .opened => (s, .bare .busy)
    | .closed =>
      let t := s.returnToRunning
      (t, ⟨.ok, u8 DevState.running.code⟩)

/-- FILTER_CLOSE on a link (R136). -/
def execFilterClose (l : Link) (s : State) : Answer := .next (s.request l .filterClose actFilterClose)

/-- The data of a changed filter (R137). -/
def FilterData.changed (d : FilterData) : FilterData :=
  { d with baseline := none, lastRef := none, loading := none, hoursSinceChange := 0, hoursSinceDue := 0,
           history := [], projected := none }

/-- One filter is changed (R137). -/
def State.changeFilter (s : State) (i : PathId) : State :=
  s.updFlt fun t => t.setFilter i { t.filter i with data := (t.filter i).data.changed }

/-- The filters that the field of FILTER_CHANGED names: SUPPLY, EXTRACT, BOTH (R137). -/
def changedFilters (b : Byte) : Option (List PathId) :=
  if b = 0 then some [.supply] else if b = 1 then some [.extract] else if b = 2 then some [.supply, .extract] else none

/-- FILTER_CHANGED taken (R137). -/
def State.filtersChanged (s : State) (l : List PathId) : State :=
  let s := l.foldl State.changeFilter s
  let s := l.foldl State.deriveFilter s
  s.dueCheck.persist.propagate

/-- FILTER_CHANGED (R137). -/
def actFilterChanged (s : State) (o : Origin) (fields : List Byte) : State × Reply :=
  match fields with
  | [b] =>
    if s.osc.device ≠ .filterService then (s, .bare .refusedState)
    else requireOrigin .system o s <|
      match changedFilters b with
      | none => (s, .bare .badRequest)
      | some l =>
        let t := s.filtersChanged l
        (t, ⟨.ok, u8 t.flt.supply.state.code ++ u8 t.flt.extract.state.code⟩)
  | _ => (s, .bare .badRequest)

/-- FILTER_CHANGED on a link (R137). -/
def execFilterChanged (l : Link) (s : State) : Answer := .next (s.request l .filterChanged actFilterChanged)

/-! ### READ_FILTERS -/

/-- The code of a filter sensor status (R119, R174). -/
def FilterSensorStatus.code : FilterSensorStatus → Nat
  | .healthy => 0
  | .faulted => 1
  | .unverified => 2

/-- The check record in the order of R126 (log 32). -/
def Check.bytes (c : Check) : List Byte :=
  u8 c.phase.code ++ opt 1 u8 (c.trigger.map (·.code)) ++ u16 c.waiting ++ u8 c.settle ++ u8 c.stable ++ u8 c.samples
    ++ u16 c.supplyDp ++ u16 c.supplyQ ++ u16 c.extractDp ++ u16 c.extractQ ++ u8 c.suspensions
    ++ u8 (outcomeCode c.outcome) ++ yesNo c.scheduledDue ++ u16 c.hoursSinceCheck ++ opt 4 u32 c.lastCompleted

/-- Part 0 of READ_FILTERS (R177). -/
def Flt.bytes (t : Flt) : List Byte :=
  t.check.bytes ++ u32 t.runHours ++ u16 t.accumulator ++ u16 t.serviceTimer ++ u8 (doorCode t.door)

/-- Part 1 or 2 of READ_FILTERS (R177). -/
def State.filterBytes (s : State) (i : PathId) : List Byte :=
  let f := s.flt.filter i
  let d := f.data
  u8 (pathCode i + 1) ++ u8 (pathCode i) ++ u8 f.state.code ++ opt 2 u16 d.baseline ++ opt 2 u16 d.lastRef
    ++ opt 1 u8 d.loading ++ u16 d.hoursSinceChange ++ u16 d.hoursSinceDue
    ++ listOf (fun e => u32 e.1 ++ u16 e.2) d.history ++ opt 2 u16 d.projected ++ u8 (outcomeCode f.lastOutcome)
    ++ s32 (s.filterLimit i) ++ s16 (clampI (readingCode f.raw) (-32768) 32767) ++ opt 2 u16 f.pressure
    ++ u8 f.sensor.code ++ s16 f.zeroOffset

/-- READ_FILTERS by parts (R141, R177). -/
def actReadFilters (s : State) (_ : Origin) (fields : List Byte) : State × Reply :=
  match fields with
  | [] => (s, ⟨.ok, s.flt.bytes⟩)
  | p :: _ =>
    if p = 0 then (s, ⟨.ok, s.flt.bytes⟩)
    else if p = 1 then (s, ⟨.ok, s.filterBytes .supply⟩)
    else if p = 2 then (s, ⟨.ok, s.filterBytes .extract⟩)
    else (s, .bare .badRequest)

/-- READ_FILTERS on a link (R141). -/
def execReadFilters (l : Link) (s : State) : Answer := .next (s.request l .readFilters actReadFilters)

end Sys2Proof.Machine
end

