-- ==== Sys2Proof/Machine/Inputs.lean ====
section
/-! DEFINITION. The discrete I/O block: channels and functions (R143 to R145), BOOST and HOOD (R146 to R149), FIRE (R150),
FILTER_DOOR (R151), the cutout line (R152) and the relays (R153). -/

namespace Sys2Proof.Machine

/-! ### Channels and functions -/

/-- The contact matches the polarity (R143). -/
def Polarity.matched (p : Polarity) (c : Option Contact) : Bool :=
  match p, c with
  | .closedActive, some .closed | .openActive, some .opened => true
  | _, _ => false

/-- The channel is active (R143). -/
def Channel.active (c : Channel) : Bool := c.polarity.matched c.contact

/-- A function is asserted while a channel of it is active (R145). -/
def Dio.asserted (d : Dio) (f : InputFunction) : Bool := d.channels.any fun c => c.function == f && c.active

/-- The sense of a function: LEVEL if any of its channels has it (R145). -/
def Dio.level (d : Dio) (f : InputFunction) : Bool := d.channels.any fun c => c.function == f && c.sense == .level

/-- Channel `n`, 1 to 4. -/
def Dio.channel (d : Dio) (n : Nat) : Option Channel := if n = 0 then none else d.channels[n - 1]?

/-- Channel `n` replaced by its image. -/
def Dio.updChannel (d : Dio) (n : Nat) (f : Channel → Channel) : Dio :=
  if n = 0 then d else { d with channels := d.channels.modify (n - 1) f }

/-! ### BOOST and HOOD -/

/-- The two functions that post a boost (R147). -/
inductive BoostInput where
  | boost | hood
deriving DecidableEq, Repr

/-- Its slot (R146). -/
def BoostInput.slot : BoostInput → Slot
  | .boost => .inputBoost
  | .hood => .inputHood

/-- Its function. -/
def BoostInput.function : BoostInput → InputFunction
  | .boost => .boost
  | .hood => .hood

/-- Its posted mark (R146). -/
def Dio.mark (d : Dio) : BoostInput → Bool
  | .boost => d.boostMark
  | .hood => d.hoodMark

/-- Its posted mark set to `v`. -/
def Dio.setMark (d : Dio) (i : BoostInput) (v : Bool) : Dio :=
  match i with
  | .boost => { d with boostMark := v }
  | .hood => { d with hoodMark := v }

/-- The level of its posts (R1). -/
def State.inputLevel (s : State) : BoostInput → Nat
  | .boost => s.setting 13
  | .hood => s.setting 14

/-- The flows of its posts (R1). -/
def State.inputFlows (s : State) : BoostInput → Carry
  | .boost => .flows (s.setting 6) (s.setting 6)
  | .hood => .flows (s.setting 7) (s.setting 8)

/-- DIO posts the slot of BOOST or HOOD; OK makes the mark YES (R147, R148). -/
def State.postInput (s : State) (i : BoostInput) (run : Option Nat) : State × PostAnswer :=
  let r := s.internalPost i.slot (s.inputLevel i) (s.inputFlows i) run
  (if r.2 = .ok then r.1.updDio (·.setMark i true) else r.1, r.2)

/-- BOOST or HOOD becomes asserted (R147, R148): a post in a posting state, timed for EDGE, UNTIMED for LEVEL. -/
def State.inputAsserted (s : State) (i : BoostInput) : State :=
  if s.osc.device.posting then
    (s.postInput i (if s.dio.level i.function then none else some (s.setting 15))).1.propagate
  else s

/-- BOOST or HOOD becomes deasserted (R147, R148): a posted LEVEL slot is renewed with the overrun; a renewal that the
watch blocks ends it. -/
def State.inputDeasserted (s : State) (i : BoostInput) : State :=
  if s.osc.device.posting = true ∧ s.dio.level i.function = true ∧ s.dio.mark i = true then
    let r := s.postInput i (some (s.setting 16))
    if r.2 = .ok then r.1.propagate
    else ((r.1.updDio (·.setMark i false)).withdraw i.slot).propagate
  else s

/-! ### FIRE -/

/-- The flows of FIRE, by the fire action in use (R150, R186). -/
def State.fireFlows (s : State) : Carry := .flows 0 (if s.inUse 17 = 1 then s.inUse 12 else 0)

/-- DIO posts FIRE in a posting state (R150). -/
def State.postFire (s : State) : State :=
  let r := s.internalPost .fire 15 s.fireFlows none
  if r.2 = .ok then r.1.updDio fun d => { d with fireMark := true } else r.1

/-- FIRE becomes asserted (R150). -/
def State.fireAsserted (s : State) : State := ((s.setFlag .fireInput).postFire).propagate

/-- FIRE becomes deasserted, in any device state (R150). -/
def State.fireDeasserted (s : State) : State :=
  ((s.updDio fun d => { d with fireMark := false }).withdraw .fire).propagate

/-! ### Changes -/

/-- A function has changed (R147, R148, R150, R151). -/
def State.functionChanged (s : State) (f : InputFunction) (on : Bool) : State :=
  match f, on with
  | .boost, true => s.inputAsserted .boost
  | .boost, false => s.inputDeasserted .boost
  | .hood, true => s.inputAsserted .hood
  | .hood, false => s.inputDeasserted .hood
  | .fire, true => s.fireAsserted
  | .fire, false => s.fireDeasserted
  | .filterDoor, true => s.doorReport .opened
  | .filterDoor, false => s.doorReport .closed
  | .none, _ => s

/-- A function is found asserted when its channel is first established: no edge and no post, but FIRE sets its flag and
FILTER_DOOR reports once (R144, R150, R151). -/
def State.functionEstablished (s : State) (f : InputFunction) : State :=
  match f with
  | .fire => s.setFlag .fireInput
  | .filterDoor => s.doorReport .opened
  | .none | .boost | .hood => s

/-- A channel whose raw contact becomes `c` (R144): a change starts the debounce time over, and a return to the contact
ends it; both leave it 0. -/
def Channel.setRaw (ch : Channel) (c : Contact) : Channel :=
  if ch.raw = c then ch else { ch with raw := c, debounce := 0 }

/-- A channel that takes its raw state as contact (R144). -/
def Channel.settle (ch : Channel) : Channel := { ch with contact := some ch.raw, debounce := 0 }

/-- A channel's debounce time some ms later: 0 while raw contact and contact agree, else anything from what it was up to
50 ms (R143, R144, log 17). -/
def Channel.elapse (ch : Channel) (free : Nat) : Channel :=
  { ch with debounce := if ch.contact = some ch.raw then 0 else min 50 (ch.debounce + free % (51 - ch.debounce)) }

/-- A raw contact changes (R144, R152): the debounce time of its line starts. -/
def execRawContactChange (line : InputLine) (c : Contact) (s : State) : Answer :=
  match line with
  | .input n => .next (s.updDio fun d => d.updChannel n (·.setRaw c))
  | .cutout => .next (s.updDio fun d => { d with cutRaw := c })

/-- Channel `n` takes its raw state as contact (R144); what follows for its function. -/
def State.debounced (s : State) (n : Nat) (ch : Channel) : State :=
  let before := s.dio.asserted ch.function
  let s := s.updDio fun d => d.updChannel n Channel.settle
  let after := s.dio.asserted ch.function
  if before = after then s
  else if ch.contact.isNone then s.functionEstablished ch.function
  else s.functionChanged ch.function after

/-- The raw contact of input `n` has held for 50 ms (R144). Where it equals the contact the step does not arise (log 1). -/
def execInputDebounced (n : Nat) (s : State) : Answer :=
  match s.dio.channel n with
  | some ch => if ch.contact = some ch.raw then .next s else .next (s.debounced n ch)
  | none => .next s

/-- The cutout line has held its raw state for 50 ms (R152): FRG is told. -/
def execCutoutDebounced (s : State) : Answer :=
  if s.dio.cutContact = some s.dio.cutRaw then .next s
  else .next ((s.updDio fun d => { d with cutContact := some d.cutRaw }).reportCutout s.dio.cutRaw)

/-- DIO's posts at an entry into RUNNING from STARTING, WAKING or STOPPING (R149): the asserted LEVEL functions. The
targets are resolved after each post (R29). -/
def State.inputPosts (s : State) : State :=
  let s := if s.dio.asserted .boost && s.dio.level .boost then (s.postInput .boost none).1.propagate else s
  let s := if s.dio.asserted .hood && s.dio.level .hood then (s.postInput .hood none).1.propagate else s
  if s.dio.asserted .fire then s.postFire.propagate else s

/-! ### Relays -/

/-- The flags of a flag set of a relay (R153, R182). -/
def State.anyFlagOf (s : State) (mask : Int) : Bool := allFlags.any fun f => inMask mask f.code && s.sup.flags.get f

/-- The condition of a relay function (R153). -/
def State.relayCondition (s : State) (function : Nat) (mask : Int) : Bool :=
  match function with
  | 1 => s.afc.supply.running || s.afc.extract.running
  | 2 => decide (7 ≤ s.arb.activeLevel)
  | 3 => s.frg.defrost.phase == .running || s.frg.defrost.phase == .confirm
  | 4 => s.flt.supply.state.isDue || s.flt.extract.state.isDue
  | 5 => s.anyFlagOf mask
  | _ => false

/-- Relay 1 or 2 is ENERGISED (R153): it follows its condition once released. -/
def State.relay (s : State) (n : Nat) : Bool :=
  s.dio.released && s.relayCondition (s.setting (78 + n)) (settingVal s.osc.working (80 + n))

/-! ### Report -/

/-- The code of an input function (R143, R174). -/
def InputFunction.code : InputFunction → Nat
  | .none => 0
  | .boost => 1
  | .hood => 2
  | .fire => 3
  | .filterDoor => 4

/-- The fields of a channel (R143, R176). -/
def Channel.bytes (c : Channel) : List Byte :=
  u8 c.function.code ++ u8 (match c.sense with | .edge => 0 | .level => 1)
    ++ u8 (match c.polarity with | .closedActive => 0 | .openActive => 1)
    ++ opt 1 (fun k => u8 (doorCode k)) c.contact ++ u8 c.debounce ++ yesNo c.active

/-- The fields of a relay: function and state (R176). -/
def State.relayBytes (s : State) (n : Nat) : List Byte := u8 (s.setting (78 + n)) ++ u8 (if s.relay n then 0 else 1)

end Sys2Proof.Machine
end

