-- ==== Sys2Proof/Machine/Supervision.lean ====
section
/-! DEFINITION. The supervision unit: READ_FLAGS and CLEAR_FLAGS (R156 to R158), the capture record's requests (R161, R162)
and manual ownership (R163 to R166). -/

namespace Sys2Proof.Machine

/-! ### Flags -/

/-- The standing condition of a flag holds (R155, R157). -/
def State.standing (s : State) : Flag → Bool
  | .stallSupply => s.afc.supply.state == .failed
  | .stallExtract => s.afc.extract.state == .failed
  | .heaterCutout => s.frg.cutout == .opened
  | .frostDegraded => match s.hum.extract with
    | some v => v.2 == .fallback
    | none => false
  | .filterDue => s.flt.supply.state.isDue || s.flt.extract.state.isDue
  | .fireInput => s.dio.asserted .fire
  | .shortfallSupply | .shortfallExtract | .pressureFault | .tempFault | .runOnCut | .defrostIncomplete | .sensorLost
  | .sensorBusFault | .filterCheckFailed | .doorUnplanned | .noticesLost | .storeFailed | .settingsDefaulted => false

/-- The flags that CLEAR_FLAGS names (R156, R175): ALL, or a list of codes; none where the list is empty or holds a code
outside 1 to 19. -/
def namedFlags (fields : List Byte) : Option (List Flag) :=
  match fields with
  | [] => none
  | c :: codes =>
    if c = 255 then some allFlags
    else if codes = [] then none
    else codes.mapM fun b => flagOfCode b.toNat

/-- A stall flag that was set and is named releases its path (R156 step 2, R40; SUPPLY first, log 51). -/
def State.releaseFor (s : State) (was : FlagSet) (named : List Flag) (i : PathId) : State :=
  if was.get (stallFlag i) && named.contains (stallFlag i) then s.releasePath i else s

/-- CLEAR_FLAGS taken (R156): the named flags are cleared, FAILED paths released, and each named flag whose standing
condition holds is set again. Where both paths are released SUPPLY is the first, while the extract path is still FAILED
(log 51). -/
def State.clearFlags (s : State) (named : List Flag) : State :=
  let was := s.sup.flags
  let s := s.updSup fun u => { u with flags := u.flags.putAll named false }
  let s := (s.releaseFor was named .supply).releaseFor was named .extract
  s.updSup fun u => { u with flags := u.flags.putAll (named.filter s.standing) true }

/-- A list of flags as codes (R175). -/
def flagListBytes (l : List Flag) : List Byte := listOf (fun f => u8 f.code) l

/-- CLEAR_FLAGS (R156). The reply carries the flags after all that the request brings about, and the named ones that their
standing condition set again, each list in the order of the codes (log 62). -/
def actClearFlags (s : State) (o : Origin) (fields : List Byte) : State × Reply :=
  requireOrigin .system o s <|
    match namedFlags fields with
    | none => (s, .bare .badRequest)
    | some named =>
      let t := s.clearFlags named
      let u := t.propagate
      (u, ⟨.ok, flagListBytes u.sup.flags.list
        ++ flagListBytes (allFlags.filter fun f => named.contains f && t.standing f)⟩)

/-- CLEAR_FLAGS on a link (R156). -/
def execClearFlags (l : Link) (s : State) : Answer := .next (s.request l .clearFlags actClearFlags)

/-- READ_FLAGS (R158): for each flag, whether it is set and whether its standing condition holds. -/
def actReadFlags (s : State) (_ : Origin) (_ : List Byte) : State × Reply :=
  (s, ⟨.ok, allFlags.flatMap fun f => yesNo (s.sup.flags.get f) ++ yesNo (s.standing f)⟩)

/-- READ_FLAGS on a link (R158). -/
def execReadFlags (l : Link) (s : State) : Answer := .next (s.request l .readFlags actReadFlags)

/-! ### Capture -/

/-- The fields of a capture (R159, R175). -/
def Capture.bytes : Capture → List Byte
  | .fault f subject value time => u8 0 ++ u8 f.code ++ u8 subject ++ s16 value ++ u32 time
  | .watch slot o requested taken supply extract link time =>
    u8 1 ++ u8 slot.code ++ u8 o.rank ++ u8 requested ++ u8 taken ++ u16 supply ++ u16 extract
      ++ u8 (match link with | some l => linkCode l | none => 2) ++ u32 time

/-- The capture record as READ_CAPTURE carries it (R161, R175). The value bytes of an absent capture are 0,
as many as those of a FAULT capture, 9, or of a WATCH capture, 14; which of the two is free (R174, log 23). -/
def Sup.captureBytes (u : Sup) : List Byte :=
  match u.capture with
  | some c => u8 1 ++ u8 u.missed ++ u8 1 ++ c.bytes
  | none => u8 0 ++ u8 u.missed ++ u8 0 ++ List.replicate (if Config.absentAsWatch then 14 else 9) 0

/-- READ_CAPTURE (R161). -/
def actReadCapture (s : State) (_ : Origin) (_ : List Byte) : State × Reply := (s, ⟨.ok, s.sup.captureBytes⟩)

/-- READ_CAPTURE on a link (R161). -/
def execReadCapture (l : Link) (s : State) : Answer := .next (s.request l .readCapture actReadCapture)

/-- The record is released (R162). -/
def Sup.release (u : Sup) : Sup := match u.capture with
  | some _ => { u with capture := none, missed := 0 }
  | none => u

/-- RELEASE_CAPTURE (R162). -/
def actReleaseCapture (s : State) (o : Origin) (_ : List Byte) : State × Reply :=
  requireOrigin .system o s (s.updSup Sup.release, ⟨.ok, s.sup.captureBytes⟩)

/-- RELEASE_CAPTURE on a link (R162). -/
def execReleaseCapture (l : Link) (s : State) : Answer := .next (s.request l .releaseCapture actReleaseCapture)

/-! ### Manual ownership -/

/-- The code of an owner: NONE, MAIN, SERVICE (R163, R174). -/
def ownerCode : Option Link → Nat
  | none => 0
  | some .main => 1
  | some .service => 2

/-- CLAIM_MANUAL (R163). -/
def actClaimManual (l : Link) (s : State) (o : Origin) (_ : List Byte) : State × Reply :=
  if s.osc.device ≠ .running then (s, .bare .refusedState)
  else requireOrigin .system o s <|
    if s.frg.defrost.phase.inProgress then (s, .bare .busy)
    else match s.sup.owner with
      | none => (s.updSup fun u => { u with owner := some l }, ⟨.ok, u8 (ownerCode (some l))⟩)
      | some h => if h = l then (s, ⟨.ok, u8 (ownerCode (some l))⟩) else (s, ⟨.held, u8 (linkCode h)⟩)

/-- CLAIM_MANUAL on a link (R163). -/
def execClaimManual (l : Link) (s : State) : Answer := .next (s.request l .claimManual (actClaimManual l))

/-- Ownership ends and MANUAL is withdrawn in the same act (R165, R166). -/
def State.releaseOwner (s : State) : State :=
  ((s.updSup fun u => { u with owner := none }).withdraw .manual).propagate

/-- RELEASE_MANUAL (R165). -/
def actReleaseManual (l : Link) (s : State) (o : Origin) (_ : List Byte) : State × Reply :=
  requireOrigin .system o s <|
    if s.sup.owner = some l then (s.releaseOwner, ⟨.ok, u8 (ownerCode none)⟩) else (s, .bare .notOwner)

/-- RELEASE_MANUAL on a link (R165). -/
def execReleaseManual (l : Link) (s : State) : Answer := .next (s.request l .releaseManual (actReleaseManual l))

/-- The values of MANUAL_OUTPUTS (R164). -/
structure ManualOutputs where
  supply : Nat
  extract : Nat
  run : Option Nat
deriving DecidableEq, Repr

/-- The values as taken (R164). -/
def ManualOutputs.clamp (m : ManualOutputs) : ManualOutputs :=
  { supply := min m.supply 1000, extract := min m.extract 1000
    run := match m.run with
      | some t => some (clampN t 1 1800)
      | none => some 1800 }

/-- SUP posts MANUAL for its owner (R4, R164). -/
def State.postManual (s : State) (l : Link) (m : ManualOutputs) : State × PostAnswer :=
  let r := s.postCore .manual 14 { level := 14, origin := .internal, carry := .duties m.supply m.extract, run := m.run }
    (some l)
  match r.2 with
  | .ok => (r.1.propagate, .ok)
  | a => (r.1, a)

/-- MANUAL_OUTPUTS (R164). A BLOCKED reply carries the slot's state as it stands (log 55). -/
def actManualOutputs (l : Link) (s : State) (o : Origin) (fields : List Byte) : State × Reply :=
  match fields with
  | [a1, a0, b1, b0, m, r1, r0] =>
    if s.osc.device.posting = false then (s, .bare .refusedState)
    else requireOrigin .system o s <|
      if s.sup.owner ≠ some l then (s, .bare .notOwner)
      else if 0 < s.frg.applied ∨ 0 < s.frg.runOn then (s, .bare .busy)
      else
        let p : ManualOutputs := { supply := be16 a1 a0, extract := be16 b1 b0, run := runTimeField m r1 r0 }
        let t := p.clamp
        let r := s.postManual l t
        (r.1, ⟨postResult r.2 (t != p),
          u16 t.supply ++ u16 t.extract ++ opt 2 u16 t.run ++ u8 (r.1.arb.slotState .manual).code⟩)
  | _ => (s, .bare .badRequest)

/-- MANUAL_OUTPUTS on a link (R164). -/
def execManualOutputs (l : Link) (s : State) : Answer := .next (s.request l .manualOutputs (actManualOutputs l))

end Sys2Proof.Machine
end

