-- ==== Sys2Proof/Machine/Operating.lean ====
section
/-! DEFINITION. The operating state controller: settings (R183, R184), store and load (R185, R186, R140), device states
(R188 to R191) and the one-second event (R192). -/

namespace Sys2Proof.Machine

/-! ### Power-on and RESTART -/

/-- What outlasts a reset (R188, R191): the queue of commands, the nonvolatile copies, the state of the lines outside
(logs 13 and 40) and the count of free values; every block takes its After reset values. The replies of both links are
dropped, the one already formed on the other link too (log 56). -/
def State.coldStart (s : State) : State :=
  { State.reset with
    pending := s.pending
    osc := { Osc.reset with copy1 := s.osc.copy1, copy2 := s.osc.copy2 }
    flt := { Flt.reset with copy1 := s.flt.copy1, copy2 := s.flt.copy2 }
    dio := { Dio.reset with channels := s.dio.channels.map fun c => .reset c.raw, cutRaw := s.dio.cutRaw }
    sup := .reset
    lnk := { Lnk.reset with main := { LinkRec.reset with spaceHeld := s.lnk.main.spaceHeld }
                            service := { LinkRec.reset with spaceHeld := s.lnk.service.spaceHeld } }
    freeCount := s.freeCount }

/-- The copy is valid (R186). -/
def SettingsCopy.valid (c : SettingsCopy) : Bool := tableValid c.values && c.crcOk

/-- The settings load (R186): the working table, or the defaults with SETTINGS_DEFAULTED; then the in-use values. -/
def State.loadTable (s : State) : State :=
  let o := s.osc
  let s := match loadSource o.copy1.valid o.copy2.valid o.copy1.writeCount o.copy2.writeCount with
    | some .first => s.updOsc fun o => { o with working := o.copy1.values }
    | some .second => s.updOsc fun o => { o with working := o.copy2.values }
    | none => (s.updOsc fun o => { o with working := settingDefaults }).setFlag .settingsDefaulted
  s.updOsc fun o => { o with inUse := o.working }

/-- The function of an input by its position (R182). -/
def inputFunction (n : Nat) : InputFunction :=
  match n with
  | 1 => .boost
  | 2 => .hood
  | 3 => .fire
  | 4 => .filterDoor
  | _ => .none

/-- The role of a sensor by its position (R182). -/
def roleOf (n : Nat) : Role :=
  match n with
  | 0 => .wetRoom
  | 2 => .extractDuct
  | 3 => .outdoor
  | _ => .dryRoom

/-- The sense of a channel as loaded: LEVEL for FIRE and FILTER_DOOR (R143). -/
def loadedSense (f : InputFunction) (n : Nat) : Sense :=
  match f with
  | .fire | .filterDoor => .level
  | .none | .boost | .hood => if n = 0 then .edge else .level

/-- Channel `n` takes its configuration (R143). -/
def State.loadChannel (s : State) (n : Nat) : State :=
  let f := inputFunction (s.inUse (66 + n))
  s.updDio fun d => d.updChannel n fun c =>
    { c with function := f, sense := loadedSense f (s.inUse (70 + n)),
             polarity := if s.inUse (74 + n) = 1 then .openActive else .closedActive }

/-- Entry `n` takes its address and role; with an address it becomes PROBING (R103). -/
def State.loadSensor (s : State) (n : Nat) : State :=
  let s := s.updSensor n fun _ => .reset (s.inUse (45 + n)) (roleOf (s.inUse (53 + n)))
  if s.inUse (45 + n) = 0 then s else (s.setSensor n .probing id).offerBus n .probe

/-- A filter entry with the data of a load (R122). -/
def Filter.loaded (d : FilterData) : Filter := { Filter.reset with data := d }

/-- An entry's state derived at the load: no notice, but FILTER_DUE where it is DUE or OVERDUE (R123). -/
def State.deriveLoaded (s : State) (i : PathId) : State :=
  let f := (s.flt.filter i).derive (s.setting 64)
  let s := s.updFlt (·.setFilter i f)
  if f.state.isDue then s.setFlag .filterDue else s

/-- The entries, counters and hours of a loaded block (R140). -/
def Flt.load (t : Flt) (b : FilterBlock) : Flt :=
  { t with supply := .loaded b.supply, extract := .loaded b.extract, runHours := b.runHours
           check := { t.check with hoursSinceCheck := b.hoursSinceCheck } }

/-- The load of the filter block (R140). -/
def State.loadFilters (s : State) : State :=
  let t := s.flt
  let s := match loadSource t.copy1.crcOk t.copy2.crcOk t.copy1.writeCount t.copy2.writeCount with
    | some .first => s.updFlt (·.load t.copy1.block)
    | some .second => s.updFlt (·.load t.copy2.block)
    | none => s.setFlag .settingsDefaulted
  (s.deriveLoaded .supply).deriveLoaded .extract

/-- Power-on, or RESTART once its reply is out (R188, R191): every block reset, the settings and the filter block loaded,
probing started. -/
def State.powerUp (s : State) : State :=
  let s := s.coldStart.loadTable
  let s := [1, 2, 3, 4].foldl State.loadChannel s
  let s := sensorIndexes.foldl State.loadSensor s
  s.loadFilters

/-- POWER_ON (R188). -/
def execPowerOn (s : State) : Answer := .next s.powerUp

/-! ### Entries into RUNNING -/

/-- The posts of DIO, HUM and FRG at an entry into RUNNING (R22, R80, R113, R149; order: log 7); `found` is the phase of the
defrost record as the device entered RUNNING. The targets are resolved after each post (R29). -/
def State.entryPosts (s : State) (found : DefrostPhase) : State :=
  (s.inputPosts.tryHumidity.propagate.tryDryness.propagate).repostDefrost found

/-- The end of an entry into RUNNING: the posts, the check start, the door (R22, R127, R138; log 7). -/
def State.finishEntry (s : State) (found : DefrostPhase) : State :=
  (s.entryPosts found).dueStartTest.propagate.doorTest.propagate

/-- The evaluation at the entry from STARTING or WAKING (R52). -/
def State.entryEvaluation (s : State) : State := (s.updFrg fun g => { g with evalTimer := 0 }).evaluateFrost

/-- The four zero offsets are taken (R25, R120). Which sensor is first decides whose capture an ARMED record takes where
several offsets are out of range; the order is the model's (R160, log 60). -/
def State.zeroAll (s : State) : State :=
  (((s.zeroNozzle .supply).zeroNozzle .extract).zeroFilter .supply).zeroFilter .extract

/-- HUM becomes active and derives the extract humidity (R104). -/
def State.activateHumidity (s : State) : State :=
  (s.updHum fun h => { h with active := true, ringTimer := 0 }).deriveHumidity

/-- The entry into RUNNING from STARTING (R188). No defrost is re-posted here: R80 speaks of STOPPING and WAKING. -/
def State.enterFromStarting (s : State) : State :=
  let s := s.setDevice .running
  let s := (s.applyArb s.arb.reselect).propagate
  let s := s.startLoad.activateHumidity.entryEvaluation
  let s := s.updDio fun d => { d with released := true }
  ((s.updHum fun h => { h with pollTimer := some 0 }).pollRound).finishEntry .idle

/-- The entry into RUNNING from WAKING (R190). -/
def State.enterFromWaking (s : State) : State :=
  let found := s.frg.defrost.phase
  let s := s.setDevice .running
  ((s.applyArb s.arb.reselect).propagate.entryEvaluation).finishEntry found

/-- The eighth zeroing reading has been taken: the offsets, and RUNNING (R188, R190). -/
def execZeroingComplete (s : State) : Answer :=
  if Config.zeroingDelay + Config.zeroingReadings ≤ s.osc.stoppedSecs then
    match s.osc.device with
    | .starting => .next s.zeroAll.enterFromStarting
    | .waking => .next s.zeroAll.enterFromWaking
    | .running | .doorOpen | .servicePrepare | .filterService | .stopping | .standby => .next s
  else .next s

/-! ### STANDBY and WAKE -/

/-- STANDBY accepted (R23, R79, R166, R189). A check in flight ends before the device changes state (R126), so DEMAND_CHANGED
and FILTER_RESULT come before STATE_CHANGED (log 72). -/
def State.acceptStandby (s : State) : State :=
  let straight := s.heaterIdle
  let s := s.updSup fun u => { u with owner := none }
  let s := s.applyArb (s.arb.clearForStandby straight)
  let s := s.updDefrost Defrost.standby
  (s.setDevice (if straight then .standby else .stopping)).propagate

/-- STANDBY (R189). -/
def actStandby (s : State) (o : Origin) (_ : List Byte) : State × Reply :=
  if s.osc.device ≠ .running then (s, .bare .refusedState)
  else requireOrigin .system o s <|
    (s.acceptStandby, ⟨.ok, u8 (if s.heaterIdle then DevState.standby else .stopping).code⟩)

/-- STANDBY on a link (R189). -/
def execStandby (l : Link) (s : State) : Answer := .next (s.request l .standby actStandby)

/-- A path as the zeroing begins: its sum starts over (R25), and its flow reads 0 through WAKING (R26, R45). -/
def FanPath.clearZero (p : FanPath) : FanPath := { p with zeroSum := 0, zeroFault := false, flow := some 0 }
/-- The zeroing sums start over (R120). -/
def Filter.clearZero (f : Filter) : Filter := { f with zeroSum := 0, zeroFault := false }

/-- WAKE taken in STANDBY (R45, R190). -/
def State.startWaking (s : State) : State :=
  let s := (s.setDevice .waking).updOsc fun o => { o with stoppedSecs := 0 }
  let s := s.updAfc fun a => { a with supply := a.supply.clearZero, extract := a.extract.clearZero }
  (s.updFlt fun t => { t with supply := t.supply.clearZero, extract := t.extract.clearZero }).propagate

/-- WAKE taken in STOPPING (R190): RUNNING at once, with the posts of an entry. -/
def State.wakeFromStopping (s : State) : State := (s.setDevice .running).finishEntry s.frg.defrost.phase

/-- WAKE (R190): the state is tested before the origin. The reply carries the state that the WAKE enters, also where FLT
then moves the device to DOOR_OPEN (R138, log 46). -/
def actWake (s : State) (o : Origin) (_ : List Byte) : State × Reply :=
  match s.osc.device with
  | .stopping => requireOrigin .system o s (s.wakeFromStopping, ⟨.ok, u8 DevState.running.code⟩)
  | .standby => requireOrigin .system o s (s.startWaking, ⟨.ok, u8 DevState.waking.code⟩)
  | .starting | .running | .doorOpen | .servicePrepare | .filterService | .waking => (s, .bare .refusedState)

/-- WAKE on a link (R190). -/
def execWake (l : Link) (s : State) : Answer := .next (s.request l .wake actWake)

/-! ### RESTART -/

/-- RESTART (R191): once taken, LNK hands no further frame on. -/
def actRestart (l : Link) (s : State) (o : Origin) (_ : List Byte) : State × Reply :=
  requireOrigin .system o s (s.updLnk fun k => { k with restarting := some l }, .bare .ok)

/-- RESTART on a link (R191). -/
def execRestart (l : Link) (s : State) : Answer := .next (s.request l .restart (actRestart l))

/-- The reset of a RESTART follows once its link has no reply left to send (R191). -/
def State.restartIfSent (s : State) : State :=
  match s.lnk.restarting with
  | some l => if (s.lnk.link l).replies = [] then s.powerUp else s
  | none => s

/-! ### Settings -/

/-- GET_SETTING (R183). -/
def actGetSetting (s : State) (_ : Origin) (fields : List Byte) : State × Reply :=
  match fields with
  | [b] =>
    let id := b.toNat
    match settingRow id with
    | none => (s, .bare .badRequest)
    | some row =>
      let r := settingRange s.osc.working id row
      (s, ⟨.ok, u8 id ++ s32 (settingVal s.osc.working id) ++ s32 r.1 ++ s32 r.2 ++ u8 row.origin.rank
        ++ u8 (match row.cls with | .now => 0 | .start => 1)⟩)
  | _ => (s, .bare .badRequest)

/-- GET_SETTING on a link (R183). -/
def execGetSetting (l : Link) (s : State) : Answer := .next (s.request l .getSetting actGetSetting)

/-- What the blocks do with a changed setting (R182): a lowered imbalance limit lowers the imbalance (R62), changed filter
hours derive the filter states (R123), and targets, duty and stage follow (R29, R57). -/
def State.settingChanged (s : State) (id : Nat) : State :=
  let s := if id = 30 then s.setImbalance (min s.frg.imbalance (s.setting 30)) else s
  let s := if id = 64 then s.deriveFilters else s
  s.propagate

/-- A value enters the working table; the blocks are told where it differs from the value held (R184). -/
def State.takeSetting (s : State) (id : Nat) (table : List Int) : State :=
  if settingVal s.osc.working id = settingVal table id then s
  else (s.updOsc fun o => { o with working := table }).settingChanged id

/-- SET_SETTING (R184). -/
def actSetSetting (s : State) (o : Origin) (fields : List Byte) : State × Reply :=
  match fields with
  | [b, v3, v2, v1, v0] =>
    let id := b.toNat
    let w := writeSetting s.osc.working o id (be32 v3 v2 v1 v0)
    match w.1 with
    | .badRequest => (s, .bare .badRequest)
    | .notPermitted => (s, .bare .notPermitted)
    | .ok => (s.takeSetting id w.2.1, ⟨.ok, u8 id ++ s32 w.2.2⟩)
    | .clamped => (s.takeSetting id w.2.1, ⟨.clamped, u8 id ++ s32 w.2.2⟩)
  | _ => (s, .bare .badRequest)

/-- SET_SETTING on a link (R184). -/
def execSetSetting (l : Link) (s : State) : Answer := .next (s.request l .setSetting actSetSetting)

/-! ### The store -/

/-- A settings store starts (R185, R186): the copy it goes to is not valid while it is written (log 21). A copy whose CRC
matches but whose values fail R186 counts as not valid (log 63). -/
def Osc.startStore (o : Osc) : Osc :=
  let target := writeTarget o.copy1.valid o.copy2.valid o.copy1.writeCount o.copy2.writeCount
  let count := nextCount o.copy1.valid o.copy2.valid o.copy1.writeCount o.copy2.writeCount
  let o := { o with writing := some { snapshot := o.working, target := target, count := count } }
  match target with
  | .first => { o with copy1 := o.copy1.spoiled }
  | .second => { o with copy2 := o.copy2.spoiled }

/-- STORE_SETTINGS (R185). -/
def actStoreSettings (s : State) (o : Origin) (_ : List Byte) : State × Reply :=
  requireOrigin .system o s <|
    if s.osc.writing.isSome then (s, .bare .busy) else (s.updOsc Osc.startStore, .bare .ok)

/-- STORE_SETTINGS on a link (R185). -/
def execStoreSettings (l : Link) (s : State) : Answer := .next (s.request l .storeSettings actStoreSettings)

/-- What a successful store leaves (R185). -/
def Osc.stored (o : Osc) (w : SettingsWrite) : Osc :=
  let c : SettingsCopy := .sealed w.snapshot w.count
  match w.target with
  | .first => { o with copy1 := c }
  | .second => { o with copy2 := c }

/-- A settings store ends (R185). -/
def execStoreComplete (ok : Bool) (s : State) : Answer :=
  match s.osc.writing with
  | none => .next s
  | some w =>
    let s := s.updOsc fun o => { o with writing := none }
    .next (if ok then (s.updOsc (·.stored w)).raise .settingsStored 0 0 else s.setFlag .storeFailed)

/-! ### The second -/

/-- Uptime, and the seconds of STARTING or WAKING (R188, R190, R192). -/
def Osc.second (o : Osc) : Osc :=
  { o with uptime := o.uptime + 1
           stoppedSecs := if o.device.zeroing then bump o.stoppedSecs (Config.zeroingDelay + Config.zeroingReadings + 1)
             else o.stoppedSecs }

/-- Run-on, the evaluation timer and the seconds of the heater window (R52, R58, R60). The evaluation timer counts on past
10 while FROST_EVALUATION has not been taken (log 69). -/
def Frg.second (g : Frg) (d : DevState) : Frg :=
  { g with runOn := g.runOn - 1
           evalTimer := if d.zeroing then g.evalTimer else g.evalTimer + 1
           windowSecs := if 0 < g.applied then bump g.windowSecs 10 else g.windowSecs }

/-- The active demand's run time counts in the posting states and in STOPPING (R14). -/
def DevState.countsRun (d : DevState) : Bool := d.posting || d == .stopping

/-- The countdowns of a second, which come first (log 5). -/
def State.countSecond (s : State) : State :=
  let s := s.updOsc Osc.second
  let s := s.updFrg (·.second s.osc.device)
  let s := if s.osc.device.countsRun then s.updArb Arb.countRun else s
  (s.updFlt Flt.serviceSecond).busSecond

/-- The airflow part of a second: both paths are read, then updated (R24, R26, R27, R33 to R42). The supply nozzle is read
before the extract nozzle (R160 leaves the order of their captures open, log 66). -/
def State.airSecond (s : State) (r : SecondReadings) : State :=
  let oldS := s.afc.supply
  let oldE := s.afc.extract
  let s := s.sensePath .supply r.supplyNozzle r.supplyPulses
  let s := s.sensePath .extract r.extractNozzle r.extractPulses
  ((s.regulatePath .supply oldS).regulatePath .extract oldE).propagate

/-- The temperatures and filter pressures of a second (R46, R119). The targets are resolved after each filter reading (R29).
The rules leave the order of the channels and of the filter sensors open: ODA, SUP, ETA, EHA, then the supply filter before
the extract filter is the model's (R47, R119, R160, log 66). -/
def State.readSecond (s : State) (r : SecondReadings) : State :=
  let s := (((s.readTemp .oda r.oda).readTemp .sup r.sup).readTemp .eta r.eta).readTemp .eha r.eha
  ((s.readFilter .supply r.supplyFilter).propagate.readFilter .extract r.extractFilter).propagate

/-- The records that count by seconds: defrost, check, run hours, boosts, extract humidity (R72, R108, R114, R121,
R128 to R130). -/
def State.recordSecond (s : State) : State :=
  (s.defrostSecond.checkSecond.accumulate.boostSecond.deriveHumidity).propagate

/-- An increment of the uptime counter, the one-second event of every block (R192; order: log 5). At its last value the
counter stops, and with it the event (log 25). -/
def execUptimeTick (r : SecondReadings) (s : State) : Answer :=
  if s.osc.uptime < Config.last32 then .next (((s.countSecond.airSecond r).readSecond r).recordSecond) else .next s

end Sys2Proof.Machine
end

