-- ==== Sys2Proof/Machine/Links.lean ====
section
/-! DEFINITION. The link interface's own rows: bytes and frames (R169, R170), breaks (R173), replies (R172, R191),
QUERY_STATUS (R176) and GET_NOTICES (R180). -/

namespace Sys2Proof.Machine

/-! ### Bytes -/

/-- What a byte does to a link that receives one; a link whose line is held at space receives none (R173). -/
def LinkRec.receive (r : LinkRec) (b : Byte) (stopOk : Bool) : Option Received :=
  if r.spaceHeld then none else some (r.receiver.byte b stopOk)

/-- A byte that neither completes a frame nor is an error (R169). Another byte has its own row (log 11). -/
def execByteReceived (l : Link) (b : Byte) (stopOk : Bool) (s : State) : Answer :=
  match (s.lnk.link l).receive b stopOk with
  | some (.ordinary rx) => .next (s.updLink l fun r => { r with receiver := rx })
  | _ => .next s

/-- The frames of a link that are unanswered (R170). -/
def LinkRec.unanswered (r : LinkRec) : Nat := r.waiting.length + r.replies.length

/-- A frame joins the receive buffer, or is discarded and counted where 2 frames are unanswered (R170). -/
def LinkRec.accept (r : LinkRec) (f : Frame) : LinkRec :=
  if r.unanswered < Config.receiveFrames then { r with receiver := .hunt false, waiting := r.waiting ++ [f] }
  else { r with receiver := .hunt false, overruns := bump r.overruns 65535 }

/-- The byte that completes a frame whose CRC matches (R169, R170). -/
def execFrameArrived (l : Link) (b : Byte) (stopOk : Bool) (s : State) : Answer :=
  match (s.lnk.link l).receive b stopOk with
  | some (.arrived f) => .next ((s.updLink l fun r => r.accept f).answerUnknown l)
  | _ => .next s

/-- A frame error: HUNT, and the count rises (R169). -/
def LinkRec.failFrame (r : LinkRec) : LinkRec :=
  { r with receiver := r.receiver.afterError, frameErrors := bump r.frameErrors 65535 }

/-- The byte of a frame error (R169). -/
def execFrameError (l : Link) (b : Byte) (stopOk : Bool) (s : State) : Answer :=
  match (s.lnk.link l).receive b stopOk with
  | some .error => .next (s.updLink l LinkRec.failFrame)
  | _ => .next s

/-- No byte for 20 ms inside a frame (R169). -/
def execFrameTimeout (l : Link) (s : State) : Answer :=
  if (s.lnk.link l).receiver.inFrame then .next (s.updLink l LinkRec.failFrame) else .next s

/-! ### Breaks and replies -/

/-- A link at a break: reception, buffer and replies are discarded (R173). -/
def LinkRec.break (r : LinkRec) : LinkRec :=
  { r with receiver := .hunt false, waiting := [], replies := [], spaceHeld := true }

/-- A link break is detected (R173): SUP releases the owner of that link (R166), and a RESTART whose reply it stops is
carried out (R191). A break that is still held is not detected again. -/
def execLinkBreak (l : Link) (s : State) : Answer :=
  if (s.lnk.link l).spaceHeld then .next s
  else
    let s := s.updLink l LinkRec.break
    let s := if s.sup.owner = some l then s.releaseOwner else s
    .next s.restartIfSent

/-- The line of a link returns to mark after a break (R173). -/
def execLineReturnsToMark (l : Link) (s : State) : Answer :=
  .next (s.updLink l fun r => { r with spaceHeld := false })

/-- The last byte of the oldest reply of a link has been transmitted (R170); a RESTART follows its own (R191). -/
def execReplyTransmitted (l : Link) (s : State) : Answer :=
  match (s.lnk.link l).replies with
  | [] => .next s
  | _ :: rest => .next (s.updLink l fun r => { r with replies := rest }).restartIfSent

/-! ### GET_NOTICES -/

/-- One item of a GET_NOTICES reply, 11 bytes (R180). -/
def noticeBytes (kind subject : Nat) (value : Int) (uptime repeats : Nat) : List Byte :=
  u8 kind ++ u8 subject ++ s32 value ++ u32 uptime ++ u8 repeats

/-- The list of a GET_NOTICES reply: a LOST marker where notices were lost, then the entries (R180). -/
def noticeList (lost : Nat) (entries : List Notice) (now : Nat) : List Byte :=
  u8 (entries.length + if 0 < lost then 1 else 0)
    ++ (if 0 < lost then noticeBytes 0 0 lost now 1 else [])
    ++ entries.flatMap fun n => noticeBytes n.kind.code n.subject n.value n.uptime n.repeats

/-- The queue of a link (R167). -/
def Lnk.queue (k : Lnk) : Link → NoticeQueue
  | .main => k.mainQueue
  | .service => k.serviceQueue

/-- LNK with the queue of a link replaced. -/
def Lnk.setQueue (k : Lnk) (l : Link) (q : NoticeQueue) : Lnk :=
  match l with
  | .main => { k with mainQueue := q }
  | .service => { k with serviceQueue := q }

/-- GET_NOTICES (R180). -/
def actGetNotices (l : Link) (s : State) (_ : Origin) (_ : List Byte) : State × Reply :=
  let r := (s.lnk.queue l).fetch
  (s.updLnk (·.setQueue l r.1), ⟨.ok, noticeList r.2.1 r.2.2 s.osc.uptime⟩)

/-- GET_NOTICES on a link (R180). -/
def execGetNotices (l : Link) (s : State) : Answer := .next (s.request l .getNotices (actGetNotices l))

/-- ATTN is asserted (R181). -/
def State.attn (s : State) : Bool := !s.lnk.mainQueue.entries.isEmpty

/-! ### QUERY_STATUS -/

/-- The capture state as QUERY_STATUS carries it: ARMED, HELD by FAULT, HELD by WATCH (R176). -/
def captureCode : Option Capture → Nat
  | none => 0
  | some (.fault _ _ _ _) => 1
  | some (.watch _ _ _ _ _ _ _ _) => 2

/-- The counters of a link (R176). -/
def LinkRec.counterBytes (r : LinkRec) : List Byte := u16 r.overruns ++ u16 r.frameErrors

/-- The length and lost count of a queue (R176). -/
def NoticeQueue.bytes (q : NoticeQueue) : List Byte := u8 q.entries.length ++ u8 q.lost

/-- The debounce times as they stand some ms later, each by a free value of its own (R143, logs 17 and 20). -/
def State.elapseInputs (s : State) : State :=
  let s := s.updDio fun d =>
    { d with channels := d.channels.zipIdx.map fun c => c.1.elapse (Config.freeMs (s.freeCount + c.2)) }
  s.useFree.useFree.useFree.useFree

/-- The input functions and channels (R176). -/
def State.inputBytes (s : State) : List Byte :=
  yesNo (s.dio.asserted .boost) ++ yesNo (s.dio.asserted .hood) ++ yesNo (s.dio.asserted .fire)
    ++ yesNo (s.dio.asserted .filterDoor)
    ++ s.dio.channels.flatMap Channel.bytes

/-- The reply fields of QUERY_STATUS (R176). -/
def State.statusBytes (s : State) : List Byte :=
  u8 s.osc.device.code ++ u32 s.osc.uptime ++ listOf (fun f => u8 f.code) s.sup.flags.list
    ++ u8 (captureCode s.sup.capture) ++ u8 (ownerCode s.sup.owner)
    ++ u8 (slotCode s.arb.active) ++ u8 s.arb.activeLevel
    ++ s.lnk.main.counterBytes ++ s.lnk.service.counterBytes ++ s.lnk.mainQueue.bytes ++ s.lnk.serviceQueue.bytes
    ++ s.inputBytes ++ s.relayBytes 1 ++ s.relayBytes 2 ++ yesNo s.osc.writing.isSome

/-- QUERY_STATUS (R176). The debounce times are those of the moment. -/
def actQueryStatus (s : State) (_ : Origin) (_ : List Byte) : State × Reply :=
  (s.elapseInputs, ⟨.ok, s.elapseInputs.statusBytes⟩)

/-- QUERY_STATUS on a link (R176). -/
def execQueryStatus (l : Link) (s : State) : Answer := .next (s.request l .queryStatus actQueryStatus)

end Sys2Proof.Machine
end

