-- ==== Sys2Proof/Machine/Dispatch.lean ====
section
/-! DEFINITION. One arm per command: the meaning of each row of the opcode table. -/

namespace Sys2Proof.Machine

/-- The effect of a command on everything but the queue. -/
def exec (i : Instr) (s : State) : Host.Outcome State Fault Refusal :=
  match i with
  | .powerOn => Sys2Proof.Machine.execPowerOn s
  | .queryStatus l => Sys2Proof.Machine.execQueryStatus l s
  | .readDemands l => Sys2Proof.Machine.execReadDemands l s
  | .postDemand l => Sys2Proof.Machine.execPostDemand l s
  | .cancelDemand l => Sys2Proof.Machine.execCancelDemand l s
  | .readAirflow l => Sys2Proof.Machine.execReadAirflow l s
  | .readFrost l => Sys2Proof.Machine.execReadFrost l s
  | .readSensors l => Sys2Proof.Machine.execReadSensors l s
  | .probeSensor l => Sys2Proof.Machine.execProbeSensor l s
  | .readFilters l => Sys2Proof.Machine.execReadFilters l s
  | .checkFilters l => Sys2Proof.Machine.execCheckFilters l s
  | .filterOpen l => Sys2Proof.Machine.execFilterOpen l s
  | .filterClose l => Sys2Proof.Machine.execFilterClose l s
  | .filterChanged l => Sys2Proof.Machine.execFilterChanged l s
  | .getNotices l => Sys2Proof.Machine.execGetNotices l s
  | .readFlags l => Sys2Proof.Machine.execReadFlags l s
  | .clearFlags l => Sys2Proof.Machine.execClearFlags l s
  | .readCapture l => Sys2Proof.Machine.execReadCapture l s
  | .releaseCapture l => Sys2Proof.Machine.execReleaseCapture l s
  | .setWatch l => Sys2Proof.Machine.execSetWatch l s
  | .claimManual l => Sys2Proof.Machine.execClaimManual l s
  | .releaseManual l => Sys2Proof.Machine.execReleaseManual l s
  | .manualOutputs l => Sys2Proof.Machine.execManualOutputs l s
  | .getSetting l => Sys2Proof.Machine.execGetSetting l s
  | .setSetting l => Sys2Proof.Machine.execSetSetting l s
  | .storeSettings l => Sys2Proof.Machine.execStoreSettings l s
  | .standby l => Sys2Proof.Machine.execStandby l s
  | .wake l => Sys2Proof.Machine.execWake l s
  | .restart l => Sys2Proof.Machine.execRestart l s
  | .frameArrived l b stopOk => Sys2Proof.Machine.execFrameArrived l b stopOk s
  | .frameError l b stopOk => Sys2Proof.Machine.execFrameError l b stopOk s
  | .frameTimeout l => Sys2Proof.Machine.execFrameTimeout l s
  | .linkBreak l => Sys2Proof.Machine.execLinkBreak l s
  | .replyTransmitted l => Sys2Proof.Machine.execReplyTransmitted l s
  | .uptimeTick r => Sys2Proof.Machine.execUptimeTick r s
  | .demandExpiry => Sys2Proof.Machine.execDemandExpiry s
  | .spinupEnd p => Sys2Proof.Machine.execSpinupEnd p s
  | .stallDetected p => Sys2Proof.Machine.execStallDetected p s
  | .retryEnd p => Sys2Proof.Machine.execRetryEnd p s
  | .goodTimeComplete p => Sys2Proof.Machine.execGoodTimeComplete p s
  | .shortfallReported p => Sys2Proof.Machine.execShortfallReported p s
  | .holdExpired c => Sys2Proof.Machine.execHoldExpired c s
  | .frostEvaluation => Sys2Proof.Machine.execFrostEvaluation s
  | .runOnEnd => Sys2Proof.Machine.execRunOnEnd s
  | .heaterWindowEnd => Sys2Proof.Machine.execHeaterWindowEnd s
  | .heaterOnTimeEnd => Sys2Proof.Machine.execHeaterOnTimeEnd s
  | .defrostCleared => Sys2Proof.Machine.execDefrostCleared s
  | .defrostIncomplete => Sys2Proof.Machine.execDefrostIncomplete s
  | .lockoutEnd => Sys2Proof.Machine.execLockoutEnd s
  | .transactionStart => Sys2Proof.Machine.execTransactionStart s
  | .probeComplete ack => Sys2Proof.Machine.execProbeComplete ack s
  | .measureComplete m => Sys2Proof.Machine.execMeasureComplete m s
  | .stretchTimeout => Sys2Proof.Machine.execStretchTimeout s
  | .recoveryEnd => Sys2Proof.Machine.execRecoveryEnd s
  | .pollRound => Sys2Proof.Machine.execPollRound s
  | .probePauseEnd n => Sys2Proof.Machine.execProbePauseEnd n s
  | .lostTimeEnd n => Sys2Proof.Machine.execLostTimeEnd n s
  | .boostLimit n => Sys2Proof.Machine.execBoostLimit n s
  | .holdoffEnd n => Sys2Proof.Machine.execHoldoffEnd n s
  | .ringTick => Sys2Proof.Machine.execRingTick s
  | .runHour => Sys2Proof.Machine.execRunHour s
  | .settleStable => Sys2Proof.Machine.execSettleStable s
  | .settleTimeout => Sys2Proof.Machine.execSettleTimeout s
  | .checkWaitingExpired => Sys2Proof.Machine.execCheckWaitingExpired s
  | .evaluate => Sys2Proof.Machine.execEvaluate s
  | .serviceTimerEnd => Sys2Proof.Machine.execServiceTimerEnd s
  | .filterWriteComplete ok => Sys2Proof.Machine.execFilterWriteComplete ok s
  | .storeComplete ok => Sys2Proof.Machine.execStoreComplete ok s
  | .zeroingComplete => Sys2Proof.Machine.execZeroingComplete s
  | .rawContactChange line c => Sys2Proof.Machine.execRawContactChange line c s
  | .inputDebounced n => Sys2Proof.Machine.execInputDebounced n s
  | .cutoutDebounced => Sys2Proof.Machine.execCutoutDebounced s
  | .byteReceived l b stopOk => Sys2Proof.Machine.execByteReceived l b stopOk s
  | .lineReturnsToMark l => Sys2Proof.Machine.execLineReturnsToMark l s

end Sys2Proof.Machine
end

