-- ==== Sys2Proof/Safety.lean ====
section
/-! DEFINITION. What the statements speak of: the command of a request and the link after its reply, what a change leaves
alone once its consequences have run, the receiver fed with bytes, and the invariants. -/

namespace Sys2Proof.Machine

/-- The part runs: a command leads to a next state, not to a fault or a refusal. -/
def State.runs (s : State) (c : Instr) : Prop := ∃ t, exec c s = .next t

/-! ### Requests -/

/-- The row of a request kind on a link (R175). -/
def RequestKind.command (k : RequestKind) (l : Link) : Instr :=
  match k with
  | .queryStatus => .queryStatus l
  | .readDemands => .readDemands l
  | .postDemand => .postDemand l
  | .cancelDemand => .cancelDemand l
  | .readAirflow => .readAirflow l
  | .readFrost => .readFrost l
  | .readSensors => .readSensors l
  | .probeSensor => .probeSensor l
  | .readFilters => .readFilters l
  | .checkFilters => .checkFilters l
  | .filterOpen => .filterOpen l
  | .filterClose => .filterClose l
  | .filterChanged => .filterChanged l
  | .getNotices => .getNotices l
  | .readFlags => .readFlags l
  | .clearFlags => .clearFlags l
  | .readCapture => .readCapture l
  | .releaseCapture => .releaseCapture l
  | .setWatch => .setWatch l
  | .claimManual => .claimManual l
  | .releaseManual => .releaseManual l
  | .manualOutputs => .manualOutputs l
  | .getSetting => .getSetting l
  | .setSetting => .setSetting l
  | .storeSettings => .storeSettings l
  | .standby => .standby l
  | .wake => .wake l
  | .restart => .restart l

/-- A link whose oldest frame has been handed on and answered with `reply` (R170, R172): the frame has left the buffer,
the reply is the last of the link's replies, and frames of unknown kind whose turn has come follow with theirs (R171
check 1). -/
def LinkRec.answered (r : LinkRec) (reply : Frame) : LinkRec :=
  let rest := r.waiting.drop 1
  { r with
    waiting := rest.dropWhile fun f => !kindKnown f.kind
    replies := r.replies ++ [reply]
      ++ (rest.takeWhile fun f => !kindKnown f.kind).map fun f => replyFrame f .occupant (.bare .badRequest) }

/-- The state with nothing changed but link `l`, whose request `f` at effective origin `o` has been answered with `r`. -/
def State.afterReply (s : State) (l : Link) (f : Frame) (o : Origin) (r : Reply) : State :=
  s.updLink l fun k => k.answered (replyFrame f o r)

/-- The oldest frame of link `l` is `f`, a request of kind `k` with request fields `fields` that passes every check of
R171 at effective origin `o`. -/
def State.hands (s : State) (l : Link) (k : RequestKind) (f : Frame) (o : Origin) (fields : List Byte) : Prop :=
  s.nextFrame l = some f ∧ f.kind.toNat = k.code
    ∧ (∃ st stated, f.payload = st :: fields ∧ statedOrigin st = some stated
        ∧ o = effectiveOrigin stated (linkMode l))
    ∧ k.lengthFits fields = true ∧ k.takenIn s.osc.device = true

/-! ### What follows from a change -/

/-- A demand that is still the same demand: the pushes of R7 may have counted a suspension. -/
def SameDemand : Option Demand → Option Demand → Prop
  | none, none => True
  | some a, some b =>
    b.level = a.level ∧ b.origin = a.origin ∧ b.carry = a.carry ∧ b.run = a.run ∧ b.postedAt = a.postedAt
  | _, _ => False

/-- What the consequences of a change leave alone as they run through the fans, the preheater, the cuts and a check start
(R29, R36, R57, R61, R64, R70, R127). Left open are the fans' states, duties, targets and times, the heater, the stage,
the defrost and check records, the slots FILTER_CHECK and DEFROST with those of `touched`, which slot is active and how
the others wait, new notices, and RUN_ON_CUT and NOTICES_LOST with a capture. -/
structure SettledFrom (touched : List Slot) (s t : State) : Prop where
  pending : t.pending = s.pending
  osc : { t.osc with device := s.osc.device } = s.osc
  device : t.osc.device = s.osc.device ∨ (s.osc.device = .stopping ∧ t.osc.device = .standby)
    ∨ (s.osc.device = .servicePrepare ∧ t.osc.device = .filterService)
  watch : t.arb.watch = s.arb.watch
  slots : ∀ x, x ∉ touched → x ≠ .filterCheck → x ≠ .defrost → SameDemand (s.arb.table.get x) (t.arb.table.get x)
  paths : ∀ i, (t.afc.path i).flow = (s.afc.path i).flow ∧ (t.afc.path i).speed = (s.afc.path i).speed
    ∧ (t.afc.path i).faulted = (s.afc.path i).faulted ∧ (t.afc.path i).zeroOffset = (s.afc.path i).zeroOffset
    ∧ (t.afc.path i).raw = (s.afc.path i).raw ∧ (t.afc.path i).zeroSum = (s.afc.path i).zeroSum
    ∧ (t.afc.path i).zeroFault = (s.afc.path i).zeroFault ∧ (t.afc.path i).retryCount = (s.afc.path i).retryCount
  frost : { t.frg with
    request := s.frg.request, applied := s.frg.applied, outputOn := s.frg.outputOn, windowSecs := s.frg.windowSecs,
    runOn := s.frg.runOn, stage := s.frg.stage, defrost := s.frg.defrost } = s.frg
  hum : t.hum = s.hum
  filters : ∀ i, { t.flt.filter i with lastOutcome := (s.flt.filter i).lastOutcome } = s.flt.filter i
  filterRest : t.flt.runHours = s.flt.runHours ∧ t.flt.accumulator = s.flt.accumulator ∧ t.flt.hoursDue = s.flt.hoursDue
    ∧ t.flt.door = s.flt.door ∧ t.flt.copy1 = s.flt.copy1 ∧ t.flt.copy2 = s.flt.copy2
    ∧ t.flt.writing = s.flt.writing ∧ t.flt.again = s.flt.again
  dio : t.dio = s.dio
  flags : ∀ g, g ≠ .runOnCut → g ≠ .noticesLost → t.sup.flags.get g = s.sup.flags.get g
  flagsStay : ∀ g, s.sup.flags.get g = true → t.sup.flags.get g = true
  capture : s.sup.capture ≠ none → t.sup.capture = s.sup.capture
  owner : t.sup.owner = s.sup.owner
  links : t.lnk.main = s.lnk.main ∧ t.lnk.service = s.lnk.service ∧ t.lnk.restarting = s.lnk.restarting

/-- The preheater is off with its run-on done and no check start is due: a change has no sequel but the fans'. -/
def State.atRest (s : State) : Prop :=
  s.frg.request = 0 ∧ s.frg.applied = 0 ∧ s.frg.runOn = 0 ∧ s.flt.startTestDue = false

/-- An occurrence of fault `g` has reached SUP (R155, R160): the flag is set, and the capture is taken by an ARMED record
or counted as missed by a HELD one. NOTICES_LOST may have followed. -/
structure FaultTaken (u v : Sup) (g : Flag) (subject : Nat) (value : Int) (now : Nat) : Prop where
  flags : ∀ h, h ≠ .noticesLost → v.flags.get h = (h == g || u.flags.get h)
  armed : u.capture = none → v.capture = some (.fault g subject value now) ∧ v.missed = 0
  held : u.capture ≠ none → v.capture = u.capture ∧ v.missed = min (u.missed + 1) 255
  owner : v.owner = u.owner

/-! ### Bytes -/

/-- A receiver fed with bytes whose stop bits are there; none as soon as a byte completes a frame or is an error
(R169). -/
def Receiver.feed (r : Receiver) : List Byte → Option Receiver
  | [] => some r
  | b :: rest => match r.byte b true with
    | .ordinary q => q.feed rest
    | .error => none
    | .arrived _ => none

/-! ### Invariants -/

/-- A notice queue holds at most its capacity and no two entries of the same kind and subject (R179). -/
def NoticeQueue.ok (q : NoticeQueue) (cap : Nat) : Prop :=
  q.entries.length ≤ cap ∧ (q.entries.map fun n => (n.kind, n.subject)).Nodup

/-- Both notice queues are as R179 says. -/
def State.queuesOk (s : State) : Prop := s.lnk.mainQueue.ok 32 ∧ s.lnk.serviceQueue.ok 8

/-- The working table and the in-use values lie in their ranges with the ties of R184 and the address and role rules of
R95. -/
def State.tablesOk (s : State) : Prop := tableValid s.osc.working = true ∧ tableValid s.osc.inUse = true

/-- The collections of R7, the selection of R10 and the BASE record of R1 and R2. -/
structure ArbOk (a : Arb) : Prop where
  placed : ∀ x, a.table.get x ≠ none ↔ a.active = some x ∨ x ∈ a.stack ∨ x ∈ a.queue
  apart : (a.active.toList ++ a.stack ++ a.queue).Nodup
  top : ∀ x w, a.active = some x → w ∈ a.stack ++ a.queue → a.level w ≤ a.level x
  base : ∃ d, a.table.base = some d ∧ d.level = 1 ∧ d.origin = .internal ∧ d.carry = .baseFlow ∧ d.run = none

/-- Every run time lies in its range (R2), and the mark of a last second stands only beside an active demand at 1 (R14,
log 3). -/
def Arb.runsOk (a : Arb) : Prop :=
  (∀ x d n, a.table.get x = some d → d.run = some n → 1 ≤ n ∧ n ≤ 14400)
    ∧ (a.expiring = true → ∃ d, a.activeDemand = some d ∧ d.run = some 1)

/-- The demand table in each device state (R7, R10, R23). -/
def State.demandsOk (s : State) : Prop :=
  ArbOk s.arb ∧ match s.osc.device with
    | .starting | .waking | .standby => s.arb.active = none ∧ s.arb.stack = [] ∧ s.arb.queue = [.base]
    | .stopping => s.arb.active = some .base ∧ s.arb.stack = [] ∧ s.arb.queue = []
    | .running | .doorOpen | .servicePrepare | .filterService => s.arb.active ≠ none

/-- The preheater's duty is the request while every condition of R57 holds and 0 otherwise, the request is 0 under a
forcing condition of R56, and no run-on counts while the heater is on (R60). -/
def State.heaterOk (s : State) : Prop :=
  s.frg.applied = (if s.heaterAllowed then s.frg.request else 0) ∧ (s.requestForced = true → s.frg.request = 0)
    ∧ (0 < s.frg.applied → s.frg.runOn = 0)

/-- MANUAL is held only by an owner (R163, R166). -/
def State.manualOwned (s : State) : Prop := s.arb.table.manual ≠ none → s.sup.owner ≠ none

/-- DEFROST is not FREE only in the phases that post it (R68, R70, R76). -/
def State.defrostPosted (s : State) : Prop :=
  s.arb.table.defrost ≠ none →
    s.frg.defrost.phase = .posted ∨ s.frg.defrost.phase = .running ∨ s.frg.defrost.phase = .confirm
      ∨ s.frg.defrost.phase = .suspended

/-- No check is in flight in SERVICE_PREPARE and FILTER_SERVICE (R134, R135), and no run-on counts in FILTER_SERVICE (R61,
R135). -/
def State.serviceOk (s : State) : Prop :=
  (s.osc.device = .servicePrepare ∨ s.osc.device = .filterService → s.flt.check.phase = .idle)
    ∧ (s.osc.device = .filterService → s.frg.runOn = 0)

/-- The end of a defrost is marked only in RUNNING and CONFIRM (R72, log 4). -/
def State.endMarked (s : State) : Prop :=
  s.frg.defrost.endDue ≠ none → s.frg.defrost.phase = .running ∨ s.frg.defrost.phase = .confirm

/-- DIO's posted marks say which of its slots it holds (R146). -/
def State.marksOk (s : State) : Prop :=
  (s.dio.boostMark = true ↔ s.arb.table.inputBoost ≠ none) ∧ (s.dio.hoodMark = true ↔ s.arb.table.inputHood ≠ none)
    ∧ (s.dio.fireMark = true ↔ s.arb.table.fire ≠ none)

/-- A history as R125 says, none of its entries later than the run-hours counter. -/
def historyOk (h : List (Nat × Nat)) (runHours : Nat) : Prop :=
  h.length ≤ 8 ∧ h.Pairwise (fun a b => a.1 ≤ b.1) ∧ ∀ e ∈ h, e.1 ≤ runHours

/-- Both histories of a filter block are as R125 says, and its run hours lie in their range (R121). -/
def FilterBlock.ok (b : FilterBlock) : Prop :=
  b.runHours ≤ Config.last32 ∧ historyOk b.supply.history b.runHours ∧ historyOk b.extract.history b.runHours

/-- The histories are as R125 says, in the table, in both copies of the store and in a write in flight. -/
def State.historiesOk (s : State) : Prop :=
  s.flt.block.ok ∧ s.flt.copy1.block.ok ∧ s.flt.copy2.block.ok ∧ ∀ w, s.flt.writing = some w → w.snapshot.ok

/-- The zero offsets of the four pressure sensors lie within ±20 Pa (R25, R120). -/
def State.zerosOk (s : State) : Prop :=
  (∀ i, -20 ≤ (s.afc.path i).zeroOffset ∧ (s.afc.path i).zeroOffset ≤ 20)
    ∧ ∀ i, -20 ≤ (s.flt.filter i).zeroOffset ∧ (s.flt.filter i).zeroOffset ≤ 20

/-- A transaction in flight holds one line test (R84): that the test stands there until the transaction completes, and that
the repeated start of R86 goes untested, is the model's choice (log 65). -/
def State.flightOk (s : State) : Prop :=
  s.hum.bus.state = .busy →
    ∃ lead tail : List BusItem, .lineTest ∉ lead ∧ .lineTest ∉ tail ∧ s.hum.bus.flight = lead ++ .lineTest :: tail

/-- The frost load and the imbalance lie in their ranges (R51, R54, R62). -/
def State.frostOk (s : State) : Prop := s.frg.load ≤ 65535 ∧ s.frg.imbalance ≤ s.setting 30

end Sys2Proof.Machine
end

