-- ==== Sys2Proof/Certificates/Slice0/Obligations.lean ====
section
/-! DEFINITION. The statements for the provers. -/

open Sys2Proof Sys2Proof.Machine

/-! ### The step, reset and power-on -/

/-- A step takes the command at the front of the queue and runs it with the queue's rest; on an empty queue nothing
changes, which is the model's choice (log 8). -/
def Obligations.StepRunsFrontCommand : Prop :=
  ∀ (c : Instr) (rest : List Instr) (s : State),
    step { s with pending := c :: rest } = exec c { s with pending := rest }
      ∧ step { s with pending := [] } = .next { s with pending := [] }

/-- Every command, in every state, leads to a next state and leaves the queue of waiting commands alone. That a row whose
event is not due, or a request row without its frame, answers a next state at all is the model's reading (logs 1 and 9),
and the queue is the model's own (log 8). -/
def Obligations.EveryCommandCompletes : Prop :=
  ∀ (c : Instr) (s : State), ∃ t : State, exec c s = .next t ∧ t.pending = s.pending

/-- The state right after reset holds the After reset values of the chapters, and meets every invariant of the model. The
contents of the nonvolatile store and of the lines outside are the model's choice (logs 12 and 13) and are not stated. -/
def Obligations.ResetState : Prop :=
  (State.reset.osc.device = .starting ∧ State.reset.osc.uptime = 0 ∧ State.reset.osc.writing = none
    ∧ (∀ x, x ≠ .base → State.reset.arb.slotState x = .free) ∧ State.reset.arb.slotState .base = .pending
    ∧ State.reset.arb.active = none ∧ State.reset.arb.queue = [.base] ∧ State.reset.arb.stack = []
    ∧ State.reset.arb.watch.enabled = false
    ∧ (∀ i, (State.reset.afc.path i).state = .off ∧ (State.reset.afc.path i).duty = 0
        ∧ (State.reset.afc.path i).target = some 0 ∧ (State.reset.afc.path i).retryCount = 0
        ∧ (State.reset.afc.path i).faulted = false ∧ (State.reset.afc.path i).zeroOffset = 0)
    ∧ (∀ i, (State.reset.frg.channel i).status = .invalid ∧ (State.reset.frg.channel i).lastGood = none)
    ∧ State.reset.frg.load = 0 ∧ State.reset.frg.request = 0 ∧ State.reset.frg.applied = 0
    ∧ State.reset.frg.outputOn = false ∧ State.reset.frg.runOn = 0 ∧ State.reset.frg.imbalance = 0
    ∧ State.reset.frg.stage = .none ∧ State.reset.frg.defrost.phase = .idle ∧ State.reset.frg.defrost.count = 0
    ∧ State.reset.hum.bus.state = .idle ∧ State.reset.hum.bus.queue = [] ∧ State.reset.hum.active = false
    ∧ State.reset.hum.extract = none ∧ State.reset.flt.check.phase = .idle ∧ State.reset.flt.check.outcome = none
    ∧ (∀ c ∈ State.reset.dio.channels, c.contact = none ∧ c.debounce = 0 ∧ c.active = false)
    ∧ State.reset.dio.released = false ∧ State.reset.relay 1 = false ∧ State.reset.relay 2 = false
    ∧ State.reset.sup.capture = none ∧ State.reset.sup.missed = 0 ∧ State.reset.sup.owner = none
    ∧ State.reset.lnk.mainQueue = ⟨[], 0⟩ ∧ State.reset.lnk.serviceQueue = ⟨[], 0⟩ ∧ State.reset.attn = false
    ∧ State.reset.pending = [])
  ∧ (State.reset.queuesOk ∧ State.reset.tablesOk ∧ State.reset.demandsOk ∧ State.reset.heaterOk
    ∧ State.reset.manualOwned ∧ State.reset.defrostPosted ∧ State.reset.marksOk ∧ State.reset.historiesOk
    ∧ State.reset.frostOk ∧ State.reset.zerosOk ∧ State.reset.arb.runsOk ∧ State.reset.serviceOk
    ∧ State.reset.endMarked ∧ State.reset.flightOk ∧ State.reset.dio.channels.length = 4
    ∧ State.reset.flt.accumulator < 3600)

/-- POWER_ON, in whatever state it finds the part: the After reset values of the blocks, the settings of the valid copy
with the higher write count (of equal counts the first, log 24), else the defaults with SETTINGS_DEFAULTED, and the
filter data, run hours and hours since check of the filter block likewise; the entries take address and role and those
with an address probe, the four input channels take function, sense and polarity (every step keeps their number), and both
links are empty. The store itself is untouched. That the cutout field is CLOSED (log 14), that the raw readings are 0
(log 15), that the hold times are 0 (log 73) and that a name's code is its place in its first list (log 32) are the model's
choices. -/
def Obligations.PowerOnLoadsAndResets : Prop :=
  ∀ s : State, ∃ t : State, exec .powerOn s = .next t ∧ t.pending = s.pending
    ∧ t.osc.device = .starting ∧ t.osc.uptime = 0 ∧ t.osc.writing = none
    ∧ t.osc.copy1 = s.osc.copy1 ∧ t.osc.copy2 = s.osc.copy2 ∧ t.osc.inUse = t.osc.working
    ∧ (s.osc.copy1.valid = true → (s.osc.copy2.valid = true → s.osc.copy2.writeCount ≤ s.osc.copy1.writeCount) →
        t.osc.working = s.osc.copy1.values)
    ∧ (s.osc.copy2.valid = true → (s.osc.copy1.valid = true → s.osc.copy1.writeCount < s.osc.copy2.writeCount) →
        t.osc.working = s.osc.copy2.values)
    ∧ (s.osc.copy1.valid = false → s.osc.copy2.valid = false →
        t.osc.working = settingDefaults ∧ t.sup.flags.get .settingsDefaulted = true)
    ∧ t.arb = .reset ∧ t.afc = .reset ∧ t.frg = .reset
    ∧ t.flt.copy1 = s.flt.copy1 ∧ t.flt.copy2 = s.flt.copy2 ∧ t.flt.writing = none ∧ t.flt.door = .closed
    ∧ t.flt.check.phase = .idle ∧ t.flt.check.outcome = none ∧ t.flt.accumulator = 0
    ∧ (∀ b : FilterBlock,
        (s.flt.copy1.crcOk = true ∧ (s.flt.copy2.crcOk = true → s.flt.copy2.writeCount ≤ s.flt.copy1.writeCount)
            ∧ b = s.flt.copy1.block
          ∨ s.flt.copy2.crcOk = true ∧ (s.flt.copy1.crcOk = true → s.flt.copy1.writeCount < s.flt.copy2.writeCount)
            ∧ b = s.flt.copy2.block
          ∨ s.flt.copy1.crcOk = false ∧ s.flt.copy2.crcOk = false
            ∧ b = { supply := .reset, extract := .reset, runHours := 0, hoursSinceCheck := 0 }) →
        t.flt.runHours = b.runHours ∧ t.flt.check.hoursSinceCheck = b.hoursSinceCheck
          ∧ ∀ (i : PathId) (d : FilterData), d = (match i with | .supply => b.supply | .extract => b.extract) →
            { (t.flt.filter i).data with hoursSinceDue := d.hoursSinceDue } = d
              ∧ (t.flt.filter i).data.hoursSinceDue
                = (if (t.flt.filter i).state = .clean ∨ (t.flt.filter i).state = .loading then 0 else d.hoursSinceDue)
              ∧ ((t.flt.filter i).state = .baselineDue ↔ d.baseline = none))
    ∧ (s.flt.copy1.crcOk = false → s.flt.copy2.crcOk = false → t.sup.flags.get .settingsDefaulted = true)
    ∧ t.hum.active = false ∧ t.hum.extract = none ∧ t.hum.pollTimer = none ∧ t.hum.bus.state = .idle
    ∧ (∀ n, 1 ≤ n → n ≤ 8 → ∃ e, t.hum.sensor n = some e ∧ e.address = t.inUse (45 + n)
        ∧ e.role = (match t.inUse (53 + n) with | 0 => .wetRoom | 2 => .extractDuct | 3 => .outdoor | _ => .dryRoom)
        ∧ e.state = if t.inUse (45 + n) = 0 then .unused else .probing)
    ∧ (s.dio.channels.length = 4 → ∀ n, 1 ≤ n → n ≤ 4 → ∃ c, t.dio.channel n = some c
        ∧ c.function = (match t.inUse (66 + n) with
          | 1 => .boost | 2 => .hood | 3 => .fire | 4 => .filterDoor | _ => .none)
        ∧ c.sense = (if c.function = .fire ∨ c.function = .filterDoor ∨ t.inUse (70 + n) ≠ 0 then .level else .edge)
        ∧ c.polarity = if t.inUse (74 + n) = 1 then .openActive else .closedActive)
    ∧ (∀ c ∈ t.dio.channels, c.contact = none ∧ c.debounce = 0)
    ∧ t.dio.boostMark = false ∧ t.dio.hoodMark = false ∧ t.dio.fireMark = false ∧ t.dio.released = false
    ∧ t.sup.capture = none ∧ t.sup.missed = 0 ∧ t.sup.owner = none
    ∧ (∀ g, g ≠ .settingsDefaulted → g ≠ .filterDue → g ≠ .noticesLost → t.sup.flags.get g = false)
    ∧ (∀ l, (t.lnk.link l).receiver = .hunt false ∧ (t.lnk.link l).waiting = [] ∧ (t.lnk.link l).replies = []
        ∧ (t.lnk.link l).overruns = 0 ∧ (t.lnk.link l).frameErrors = 0)
    ∧ t.lnk.restarting = none

/-- An event whose condition does not hold does not arise: its row changes nothing. That the rows may be commanded at
such a moment at all is the model's reading (logs 1, 9 and 11); that at the uptime counter's last value UPTIME_TICK changes
nothing is the model's choice (log 25), and how a recovery time, the ends of a run time, of a boost, of a defrost, of the
service timer and of a settling, and a completed run hour are marked is too (logs 2, 3, 4, 18, 38, 67 and 71). -/
def Obligations.EventsNotDueChangeNothing : Prop :=
  ∀ s : State,
    (∀ k l, (∀ f, s.nextFrame l = some f → f.kind.toNat ≠ k.code) → exec (RequestKind.command k l) s = .next s)
    ∧ (∀ r, s.osc.uptime = 4294967295 → exec (.uptimeTick r) s = .next s)
    ∧ ((s.arb.expiring = false ∨ s.arb.active = none) → exec .demandExpiry s = .next s)
    ∧ (∀ i, ((s.afc.path i).state ≠ .spinup ∨ (s.afc.path i).spinupTime < 15) → exec (.spinupEnd i) s = .next s)
    ∧ (∀ i, ((s.afc.path i).state.stallChecked = false ∨ (s.afc.path i).stallTime < 10) →
        exec (.stallDetected i) s = .next s)
    ∧ (∀ i, ((s.afc.path i).state ≠ .stalled ∨ 0 < (s.afc.path i).retryTime) → exec (.retryEnd i) s = .next s)
    ∧ (∀ i, ((s.afc.path i).goodTiming = false ∨ (s.afc.path i).goodTime < 10) →
        exec (.goodTimeComplete i) s = .next s)
    ∧ (∀ i, ((s.afc.path i).shortfallTime < 60 ∨ (s.afc.path i).shortfallStanding = true
        ∨ (s.afc.path i).shortCond = false) → exec (.shortfallReported i) s = .next s)
    ∧ (∀ i, ((s.frg.channel i).status ≠ .holding ∨ (s.frg.channel i).holdTime < 60) →
        exec (.holdExpired i) s = .next s)
    ∧ ((s.osc.device = .starting ∨ s.osc.device = .waking ∨ s.frg.evalTimer < 10) →
        exec .frostEvaluation s = .next s)
    ∧ (0 < s.frg.runOn → exec .runOnEnd s = .next s)
    ∧ (s.frg.applied = 0 → exec .heaterWindowEnd s = .next s ∧ exec .heaterOnTimeEnd s = .next s)
    ∧ (s.frg.defrost.endDue = none → exec .defrostCleared s = .next s ∧ exec .defrostIncomplete s = .next s)
    ∧ ((s.frg.defrost.phase ≠ .lockout ∨ 0 < s.frg.defrost.lockout) → exec .lockoutEnd s = .next s)
    ∧ ((s.hum.bus.state ≠ .idle ∨ s.hum.bus.queue = []) → exec .transactionStart s = .next s)
    ∧ (s.hum.bus.state ≠ .busy → (∀ a, exec (.probeComplete a) s = .next s)
        ∧ (∀ m, exec (.measureComplete m) s = .next s) ∧ exec .stretchTimeout s = .next s)
    ∧ ((s.hum.bus.state ≠ .recovery ∨ 1000 < s.hum.bus.recovery) → exec .recoveryEnd s = .next s)
    ∧ ((∀ n, s.hum.pollTimer = some n → n < 10) → exec .pollRound s = .next s)
    ∧ (∀ n, (∀ e, s.hum.sensor n = some e → e.state ≠ .probing ∨ e.pause ≠ some 0) →
        exec (.probePauseEnd n) s = .next s)
    ∧ (∀ n, (∀ e, s.hum.sensor n = some e → e.state ≠ .lost ∨ 0 < e.lostTime) → exec (.lostTimeEnd n) s = .next s)
    ∧ (∀ n, (∀ e b, s.hum.sensor n = some e → e.boost = some b → b.state ≠ .boost ∨ b.limitDue = false) →
        exec (.boostLimit n) s = .next s)
    ∧ (∀ n, (∀ e b, s.hum.sensor n = some e → e.boost = some b → b.state ≠ .holdoff ∨ 0 < b.holdoff) →
        exec (.holdoffEnd n) s = .next s)
    ∧ ((s.hum.active = false ∨ s.hum.ringTimer < 60) → exec .ringTick s = .next s)
    ∧ (s.flt.hoursDue = 0 → exec .runHour s = .next s)
    ∧ ((s.flt.check.phase ≠ .settle ∨ s.flt.check.stable < 30) → exec .settleStable s = .next s)
    ∧ ((s.flt.check.phase ≠ .settle ∨ s.flt.check.timeoutDue = false) → exec .settleTimeout s = .next s)
    ∧ ((s.flt.check.phase ≠ .waiting ∨ s.flt.check.waiting < 21600) → exec .checkWaitingExpired s = .next s)
    ∧ ((s.flt.check.phase ≠ .sample ∨ s.flt.check.samples < 16) → exec .evaluate s = .next s)
    ∧ ((s.osc.device ≠ .filterService ∨ s.flt.serviceEndDue = false) → exec .serviceTimerEnd s = .next s)
    ∧ (s.flt.writing = none → ∀ ok, exec (.filterWriteComplete ok) s = .next s)
    ∧ (s.osc.writing = none → ∀ ok, exec (.storeComplete ok) s = .next s)
    ∧ ((s.osc.stoppedSecs < 18 ∨ (s.osc.device ≠ .starting ∧ s.osc.device ≠ .waking)) →
        exec .zeroingComplete s = .next s)
    ∧ (∀ n, (∀ c, s.dio.channel n = some c → c.contact = some c.raw) → exec (.inputDebounced n) s = .next s)
    ∧ (s.dio.cutContact = some s.dio.cutRaw → exec .cutoutDebounced s = .next s)
    ∧ (∀ l, (s.lnk.link l).replies = [] → exec (.replyTransmitted l) s = .next s)
    ∧ (∀ l, (s.lnk.link l).spaceHeld = true → exec (.linkBreak l) s = .next s
        ∧ ∀ b ok, exec (.byteReceived l b ok) s = .next s ∧ exec (.frameArrived l b ok) s = .next s
          ∧ exec (.frameError l b ok) s = .next s)

/-! ### Bytes and frames -/

/-- Decode and encode agree for frames: the bytes of a frame as the spec lays them out, fed to a receiver in HUNT, arrive
as that frame with the last byte and not before, and no bytes arrive as a frame but its own. -/
def Obligations.FramesArriveWhole : Prop :=
  (∀ (f : Frame) (counted : Bool), f.payload.length ≤ 120 →
    ∃ first last r, f.bytes = first ++ [last] ∧ (Receiver.hunt counted).feed first = some r
      ∧ r.byte last true = .arrived f)
  ∧ (∀ (r : Receiver) (b : Byte) (stopOk : Bool) (f : Frame), r.byte b stopOk = .arrived f →
    ∃ got, r = .body got ∧ stopOk = true ∧ f.bytes = 0x7E :: (got ++ [b]))

/-- A byte that neither completes a frame nor is an error, and the byte that completes a frame: the receiver goes on as its
event table says, a frame joins the buffer while fewer than 2 are unanswered and counts as an overrun otherwise, and a
frame of unknown kind whose turn it is gets BAD_REQUEST, at once in the model (log 10). A frame error and a frame timeout:
the receiver is in HUNT and the error count one higher, up to 65535; a stray byte in HUNT counts once until the next
frame. Nothing else changes. -/
def Obligations.BytesReachReceiver : Prop :=
  ∀ (l : Link) (s : State) (b : Byte), (s.lnk.link l).spaceHeld = false →
    (∀ c, (s.lnk.link l).receiver = .hunt c →
      exec (.byteReceived l 0x7E true) s = .next (s.updLink l fun r => { r with receiver := .header [] }))
    ∧ (∀ ok, (s.lnk.link l).receiver = .hunt true → (ok = false ∨ b ≠ 0x7E) → exec (.byteReceived l b ok) s = .next s)
    ∧ (∀ got, (s.lnk.link l).receiver = .header got → (got ≠ [] ∨ b.toNat ≤ 120) →
      exec (.byteReceived l b true) s = .next (s.updLink l fun r =>
        { r with receiver := if got.length < 2 then .header (got ++ [b]) else .body (got ++ [b]) }))
    ∧ (∀ got, (s.lnk.link l).receiver = .body got → got.length + 1 < frameLength (got ++ [b]) →
      exec (.byteReceived l b true) s = .next (s.updLink l fun r => { r with receiver := .body (got ++ [b]) }))
    ∧ (∀ got f, (s.lnk.link l).receiver = .body got → f.bytes = 0x7E :: (got ++ [b]) → f.payload.length ≤ 120 →
      kindKnown f.kind = true → (∀ g, (s.lnk.link l).waiting.head? = some g → kindKnown g.kind = true) →
      exec (.frameArrived l b true) s = .next (s.updLink l fun r =>
        if r.waiting.length + r.replies.length < 2 then
          { r with receiver := .hunt false, waiting := r.waiting ++ [f] }
        else { r with receiver := .hunt false, overruns := min (r.overruns + 1) 65535 }))
    ∧ (∀ got f, (s.lnk.link l).receiver = .body got → f.bytes = 0x7E :: (got ++ [b]) → f.payload.length ≤ 120 →
      kindKnown f.kind = false → (s.lnk.link l).waiting = [] → (s.lnk.link l).replies.length < 2 →
      s.lnk.restarting = none →
      exec (.frameArrived l b true) s = .next (s.updLink l fun r =>
        { r with receiver := .hunt false, replies := r.replies ++ [replyFrame f .occupant (.bare .badRequest)] }))
    ∧ (∀ ok, (s.lnk.link l).receiver = .hunt false → (ok = false ∨ b ≠ 0x7E) →
      exec (.frameError l b ok) s = .next (s.updLink l fun r =>
        { r with receiver := .hunt true, frameErrors := min (r.frameErrors + 1) 65535 }))
    ∧ ((s.lnk.link l).receiver.inFrame = true →
      exec (.frameError l b false) s = .next (s.updLink l fun r =>
          { r with receiver := .hunt false, frameErrors := min (r.frameErrors + 1) 65535 })
        ∧ exec (.frameTimeout l) s = .next (s.updLink l fun r =>
          { r with receiver := .hunt false, frameErrors := min (r.frameErrors + 1) 65535 }))
    ∧ ((s.lnk.link l).receiver = .header [] → 120 < b.toNat →
      exec (.frameError l b true) s = .next (s.updLink l fun r =>
        { r with receiver := .hunt false, frameErrors := min (r.frameErrors + 1) 65535 }))
    ∧ (∀ got, (s.lnk.link l).receiver = .body got → frameLength (got ++ [b]) ≤ got.length + 1 →
      (∀ f : Frame, f.bytes ≠ 0x7E :: (got ++ [b])) →
      exec (.frameError l b true) s = .next (s.updLink l fun r =>
        { r with receiver := .hunt false, frameErrors := min (r.frameErrors + 1) 65535 }))

/-- A link break discards what the link holds, releases its manual ownership with MANUAL's slot, and carries out a RESTART
whose reply it stops, while a RESTART of the other link waits on for its own; the line's return to mark ends the break and
changes nothing else. A transmitted reply leaves its link, whose frame is then answered. RESTART, at SYSTEM origin, is
answered OK and stops every later frame; the reset follows the last reply of its link, and drops what the other link still
holds. That it drops a reply formed there too (log 56), and that a frame of unknown kind behind a RESTART is not answered
(log 57), are the model's choices. -/
def Obligations.BreaksRepliesRestart : Prop :=
  ∀ (l : Link) (s : State),
    (exec (.lineReturnsToMark l) s = .next (s.updLink l fun r => { r with spaceHeld := false }))
    ∧ ((s.lnk.link l).spaceHeld = false →
      ((s.lnk.restarting = none ∨ ∃ m, m ≠ l ∧ s.lnk.restarting = some m ∧ (s.lnk.link m).replies ≠ []) →
        s.sup.owner ≠ some l →
        exec (.linkBreak l) s = .next (s.updLink l fun r =>
          { r with receiver := .hunt false, waiting := [], replies := [], spaceHeld := true }))
      ∧ ((s.lnk.restarting = none ∨ ∃ m, m ≠ l ∧ s.lnk.restarting = some m ∧ (s.lnk.link m).replies ≠ []) →
        s.sup.owner = some l →
        ∃ t : State, exec (.linkBreak l) s = .next t ∧ t.sup.owner = none ∧ t.arb.table.manual = none
          ∧ SettledFrom [.manual]
            { (s.updLink l fun r => { r with receiver := .hunt false, waiting := [], replies := [], spaceHeld := true })
              with sup := { s.sup with owner := none } } t)
      ∧ (s.lnk.restarting = some l →
        ∃ t : State, exec (.linkBreak l) s = .next t ∧ t.osc.device = .starting ∧ t.osc.uptime = 0 ∧ t.lnk.restarting = none))
    ∧ (∀ f rest, (s.lnk.link l).replies = f :: rest → (s.lnk.restarting = none ∨ (s.lnk.restarting = some l ∧ rest ≠ [])
        ∨ ∃ m, m ≠ l ∧ s.lnk.restarting = some m ∧ (s.lnk.link m).replies ≠ []) →
      exec (.replyTransmitted l) s = .next (s.updLink l fun r => { r with replies := rest }))
    ∧ (∀ f, (s.lnk.link l).replies = [f] → s.lnk.restarting = some l →
      ∃ t : State, exec (.replyTransmitted l) s = .next t ∧ t.osc.device = .starting ∧ t.osc.uptime = 0 ∧ t.arb = .reset
        ∧ t.lnk.restarting = none ∧ ∀ m, (t.lnk.link m).waiting = [] ∧ (t.lnk.link m).replies = [])
    ∧ (∀ f o, s.hands l .restart f o [] →
      (o = .occupant → exec (.restart l) s = .next (s.afterReply l f o (.bare .notPermitted)))
      ∧ (o ≠ .occupant →
        exec (.restart l) s = .next ({ s with lnk := { s.lnk with restarting := some l } }.updLink l fun r =>
          { r with waiting := r.waiting.drop 1, replies := r.replies ++ [replyFrame f o (.bare .ok)] })))

/-! ### Requests -/

/-- LNK's checks before a request is handed on: a stated origin byte that is missing or unknown and a length that does not
fit get BAD_REQUEST, a device state that does not hand the kind on gets REFUSED_STATE, the first that fails decides, and
nothing but the link changes. -/
def Obligations.RequestsCheckedInOrder : Prop :=
  ∀ (k : RequestKind) (l : Link) (s : State) (f : Frame), s.nextFrame l = some f → f.kind.toNat = k.code →
    (f.payload = [] → exec (RequestKind.command k l) s = .next (s.afterReply l f .occupant (.bare .badRequest)))
    ∧ (∀ b fields, f.payload = b :: fields → 2 < b.toNat →
      exec (RequestKind.command k l) s = .next (s.afterReply l f .occupant (.bare .badRequest)))
    ∧ (∀ b fields o, f.payload = b :: fields → statedOrigin b = some o → k.lengthFits fields = false →
      exec (RequestKind.command k l) s
        = .next (s.afterReply l f (effectiveOrigin o (linkMode l)) (.bare .badRequest)))
    ∧ (∀ b fields o, f.payload = b :: fields → statedOrigin b = some o → k.lengthFits fields = true →
      k.takenIn s.osc.device = false →
      exec (RequestKind.command k l) s
        = .next (s.afterReply l f (effectiveOrigin o (linkMode l)) (.bare .refusedState)))

/-- QUERY_STATUS, READ_AIRFLOW, READ_FROST, READ_FLAGS and READ_CAPTURE are answered OK at any origin with the fields their
rules list; READ_DEMANDS, READ_SENSORS, READ_FILTERS and GET_SETTING with the part or record that their field names, or
BAD_REQUEST for one that does not exist. Nothing changes but the link, and at QUERY_STATUS the debounce times, which have
run on by a free number of ms up to 50 (log 17). How the fields are laid out where the chapters leave it open is the
model's choice (logs 23, 31 and 32). -/
def Obligations.ReadsAnswerFields : Prop :=
  ∀ (l : Link) (s : State) (f : Frame) (o : Origin) (p : Byte),
    (s.hands l .queryStatus f o [] →
      ∃ u : State, exec (.queryStatus l) s = .next (u.afterReply l f o ⟨.ok,
        u8 s.osc.device.code ++ u32 s.osc.uptime ++ listOf (fun g : Flag => u8 g.code) (allFlags.filter s.sup.flags.get)
          ++ u8 (captureCode s.sup.capture) ++ u8 (ownerCode s.sup.owner)
          ++ u8 (slotCode s.arb.active) ++ u8 s.arb.activeLevel
          ++ u16 s.lnk.main.overruns ++ u16 s.lnk.main.frameErrors
          ++ u16 s.lnk.service.overruns ++ u16 s.lnk.service.frameErrors
          ++ u8 s.lnk.mainQueue.entries.length ++ u8 s.lnk.mainQueue.lost
          ++ u8 s.lnk.serviceQueue.entries.length ++ u8 s.lnk.serviceQueue.lost
          ++ u.inputBytes ++ s.relayBytes 1 ++ s.relayBytes 2 ++ yesNo s.osc.writing.isSome⟩)
        ∧ { u with dio := s.dio, freeCount := s.freeCount } = s ∧ u.freeCount = s.freeCount + 4
        ∧ { u.dio with channels := s.dio.channels } = s.dio
        ∧ ∀ n ch, s.dio.channel n = some ch → ∃ ms, u.dio.channel n = some { ch with debounce := ms }
          ∧ (ch.contact = some ch.raw → ms = 0)
          ∧ (ch.contact ≠ some ch.raw → ch.debounce ≤ 50 → ch.debounce ≤ ms ∧ ms ≤ 50))
    ∧ (s.hands l .readAirflow f o [] →
      exec (.readAirflow l) s = .next (s.afterReply l f o ⟨.ok,
        u8 (slotCode s.arb.active) ++ yesNo (s.afc.extract.state == .stalled || s.afc.extract.state == .failed)
          ++ s.afc.supply.bytes ++ s.afc.extract.bytes⟩))
    ∧ (s.hands l .readFrost f o [] →
      exec (.readFrost l) s = .next (s.afterReply l f o ⟨.ok,
        s.frg.channelBytes .oda ++ s.frg.channelBytes .sup ++ s.frg.channelBytes .eta ++ s.frg.channelBytes .eha
          ++ u8 s.frg.regime.code ++ s.frostBytes ++ s32 (if s.heaterFitted then 1 else 0)
          ++ s32 (settingVal s.osc.working 32) ++ s.frg.defrost.bytes⟩))
    ∧ (s.hands l .readFlags f o [] →
      exec (.readFlags l) s = .next (s.afterReply l f o ⟨.ok,
        allFlags.flatMap fun g => yesNo (s.sup.flags.get g) ++ yesNo (s.standing g)⟩))
    ∧ (s.hands l .readCapture f o [] →
      exec (.readCapture l) s = .next (s.afterReply l f o ⟨.ok, s.sup.captureBytes⟩))
    ∧ (s.hands l .readDemands f o [] →
      exec (.readDemands l) s = .next (s.afterReply l f o ⟨.ok, s.tableBytes⟩))
    ∧ (s.hands l .readDemands f o [p] →
      exec (.readDemands l) s = .next (s.afterReply l f o (match slotOfCode p.toNat with
        | some x => ⟨.ok, s.tableBytes ++ s.demandBytes x⟩
        | none => .bare .badRequest)))
    ∧ (s.hands l .readSensors f o [] →
      exec (.readSensors l) s = .next (s.afterReply l f o ⟨.ok, s.hum.bytes⟩))
    ∧ (s.hands l .readSensors f o [p] →
      exec (.readSensors l) s = .next (s.afterReply l f o (if p = 0 then ⟨.ok, s.hum.bytes⟩
        else match s.hum.sensor p.toNat with
          | some e => ⟨.ok, u8 p.toNat ++ e.bytes s.osc.uptime⟩
          | none => .bare .badRequest)))
    ∧ (s.hands l .readFilters f o [] →
      exec (.readFilters l) s = .next (s.afterReply l f o ⟨.ok, s.flt.bytes⟩))
    ∧ (s.hands l .readFilters f o [p] →
      exec (.readFilters l) s = .next (s.afterReply l f o (if p = 0 then ⟨.ok, s.flt.bytes⟩
        else if p = 1 then ⟨.ok, s.filterBytes .supply⟩ else if p = 2 then ⟨.ok, s.filterBytes .extract⟩
        else .bare .badRequest)))
    ∧ (s.hands l .getSetting f o [p] →
      ((p = 0 ∨ 84 < p.toNat) →
        exec (.getSetting l) s = .next (s.afterReply l f o (.bare .badRequest)))
      ∧ (∀ row, settingRow p.toNat = some row →
        exec (.getSetting l) s = .next (s.afterReply l f o ⟨.ok,
          u8 p.toNat ++ s32 (settingVal s.osc.working p.toNat)
            ++ s32 (settingRange s.osc.working p.toNat row).1 ++ s32 (settingRange s.osc.working p.toNat row).2
            ++ u8 row.origin.rank ++ u8 (match row.cls with | .now => 0 | .start => 1)⟩)))

/-- GET_NOTICES hands over the lost count, as a marker, and up to 8 of the oldest entries of the queue of its link, 11
bytes each, and removes them; nothing else changes. ATTN is asserted while the main queue holds an entry: a notice of a kind
that the main queue takes asserts it, and of the rows only GET_NOTICES on the main link, where it leaves no entry, and a
reset release it. -/
def Obligations.NoticesFetched : Prop :=
  (∀ (l : Link) (s : State) (f : Frame) (o : Origin), s.hands l .getNotices f o [] →
    exec (.getNotices l) s
        = .next ((s.updLnk fun k => k.setQueue l ⟨(s.lnk.queue l).entries.drop 8, 0⟩).afterReply l f o
          ⟨.ok, noticeList (s.lnk.queue l).lost ((s.lnk.queue l).entries.take 8) s.osc.uptime⟩)
      ∧ (noticeList (s.lnk.queue l).lost ((s.lnk.queue l).entries.take 8) s.osc.uptime).length
        = 1 + 11 * (min 8 (s.lnk.queue l).entries.length + if 0 < (s.lnk.queue l).lost then 1 else 0)
      ∧ ∀ t : State, exec (.getNotices l) s = .next t →
        (l = .main → (t.attn = true ↔ 8 < s.lnk.mainQueue.entries.length)) ∧ (l = .service → t.attn = s.attn))
  ∧ (∀ (s : State) (k : NoticeKind) (x : Nat) (v : Int),
    (s.attn = true ↔ s.lnk.mainQueue.entries ≠ [])
    ∧ ((s.raise k x v).attn = true ↔ s.attn = true ∨ inMask (settingVal s.osc.working 83) k.code = true))
  ∧ (∀ (c : Instr) (s t : State), s.lnk.restarting = none → c ≠ .powerOn → c ≠ .getNotices .main →
    exec c s = .next t → s.attn = true → t.attn = true)

/-! ### The demand table -/

/-- A link post that passes the checks and that the watch does not match takes effect: its slot holds the values of the
post, each clamped to the range of its origin, and the reply carries them with OK, or CLAMPED where one was changed. What
follows reaches only the fans, the heater, a check start and the records that take reports; with the heater at rest the
table is exactly what the post makes of it. -/
def Obligations.PostDemandTaken : Prop :=
  ∀ (l : Link) (s : State) (f : Frame) (o : Origin) (c v s1 s0 e1 e0 m r1 r0 : Byte) (x : Slot),
    s.hands l .postDemand f o [c, v, s1, s0, e1, e0, m, r1, r0] → s.osc.device.posting = true →
    slotOfCode c.toNat = some x → o.mayWrite x = true →
    ∀ (level supply extract : Nat) (run : Option Nat),
    level = max 1 (min v.toNat (if o = .occupant then 8 else if o = .system then 10 else 12)) →
    s.setting 2 ≤ s.setting 3 → supply = max (s.setting 2) (min (be16 s1 s0) (s.setting 3)) →
    extract = max (s.setting 2) (min (be16 e1 e0) (s.setting 3)) →
    run = (if o = .service ∧ m ≠ 0 then none
      else some (if m ≠ 0 then (if o = .occupant then 3600 else 14400)
        else max 1 (min (be16 r1 r0) (if o = .occupant then 3600 else 14400)))) →
    s.arb.watch.hits x (s.arb.isFree x) level = false →
    ∃ u : State, exec (.postDemand l) s = .next (u.afterReply l f o
        ⟨if level = v.toNat ∧ supply = be16 s1 s0 ∧ extract = be16 e1 e0
            ∧ run = (if m = 0 then some (be16 r1 r0) else none) then .ok else .clamped,
          u8 x.code ++ u8 level ++ u16 supply ++ u16 extract ++ opt 2 u16 run ++ u8 (u.arb.slotState x).code⟩)
      ∧ SettledFrom [x] s u
      ∧ (∃ d, u.arb.table.get x = some d ∧ d.level = level ∧ d.origin = o ∧ d.carry = .flows supply extract
          ∧ d.run = run
          ∧ d.postedAt = match s.arb.table.get x with | some old => old.postedAt | none => s.osc.uptime)
      ∧ (s.atRest → s.arb.active ≠ some .filterCheck →
          u.arb = (s.arb.post x { level := level, origin := o, carry := .flows supply extract, run := run }
            s.osc.uptime).1)

/-- A post that the watch matches: an ARMED record takes the WATCH capture, a HELD one counts the match, also where a FAULT
capture makes the watch dormant. With action BLOCK the post is answered BLOCKED and leaves the table as it was (that a
BLOCKED reply carries the slot's state as it stands is log 55); with action CAPTURE it takes effect, and so does every post
on FIRE and DEFROST, and every post while a FAULT capture is held. The part's own posts are tested alike. -/
def Obligations.WatchBlocksAndCaptures : Prop :=
  (∀ (l : Link) (s : State) (f : Frame) (o : Origin) (c v s1 s0 e1 e0 m r1 r0 : Byte) (x : Slot) (t : LinkPost),
    s.hands l .postDemand f o [c, v, s1, s0, e1, e0, m, r1, r0] → s.osc.device.posting = true →
    slotOfCode c.toNat = some x → o.mayWrite x = true →
    t = s.clampPost o { level := v.toNat, supply := be16 s1 s0, extract := be16 e1 e0, run := runTimeField m r1 r0 } →
    s.arb.watch.hits x (s.arb.isFree x) t.level = true → s.arb.watch.action = .block →
    (∀ k, s.sup.capture = some k → k.isFault = false) →
    ∃ u : State, exec (.postDemand l) s = .next (u.afterReply l f o ⟨.blocked,
        u8 x.code ++ u8 t.level ++ u16 t.supply ++ u16 t.extract ++ opt 2 u16 t.run ++ u8 (s.arb.slotState x).code⟩)
      ∧ { u with sup := s.sup, lnk := s.lnk } = s ∧ (∀ n, u.lnk.link n = s.lnk.link n)
      ∧ u.lnk.restarting = s.lnk.restarting
      ∧ (s.sup.capture = none →
          u.sup.capture = some (.watch x o v.toNat t.level t.supply t.extract (some l) s.osc.uptime) ∧ u.sup.missed = 0)
      ∧ (s.sup.capture ≠ none → u.sup = { s.sup with missed := min (s.sup.missed + 1) 255 }))
  ∧ (∀ (l : Link) (s : State) (f : Frame) (o : Origin) (c v s1 s0 e1 e0 m r1 r0 : Byte) (x : Slot) (p t : LinkPost),
    s.hands l .postDemand f o [c, v, s1, s0, e1, e0, m, r1, r0] → s.osc.device.posting = true →
    slotOfCode c.toNat = some x → o.mayWrite x = true →
    p = { level := v.toNat, supply := be16 s1 s0, extract := be16 e1 e0, run := runTimeField m r1 r0 } →
    t = s.clampPost o p → s.arb.watch.hits x (s.arb.isFree x) t.level = true →
    (s.arb.watch.action = .capture ∨ ∃ k, s.sup.capture = some k ∧ k.isFault = true) →
    ∃ u : State, exec (.postDemand l) s = .next (u.afterReply l f o ⟨if t = p then .ok else .clamped,
        u8 x.code ++ u8 t.level ++ u16 t.supply ++ u16 t.extract ++ opt 2 u16 t.run ++ u8 (u.arb.slotState x).code⟩)
      ∧ SettledFrom [x] { s with sup := u.sup } u
      ∧ (∃ d, u.arb.table.get x = some d ∧ d.level = t.level ∧ d.origin = o ∧ d.carry = .flows t.supply t.extract
        ∧ d.run = t.run)
      ∧ (s.sup.capture = none →
        u.sup.capture = some (.watch x o v.toNat t.level t.supply t.extract (some l) s.osc.uptime))
      ∧ (s.sup.capture ≠ none → u.sup.capture = s.sup.capture)
      ∧ (s.atRest → s.arb.active ≠ some .filterCheck →
        u.sup.missed = if s.sup.capture = none then 0 else min (s.sup.missed + 1) 255))
  ∧ (∀ (s : State) (x : Slot) (n : Nat) (carry : Carry) (run : Option Nat), s.osc.device.posting = true →
    ((x = .fire ∨ x = .defrost ∨ (∃ k, s.sup.capture = some k ∧ k.isFault = true)) →
      (s.internalPost x n carry run).2 = .ok)
    ∧ (s.arb.watch.hits x (s.arb.isFree x) n = true →
      (∀ k, s.sup.capture = some k → k.isFault = true →
        s.internalPost x n carry run
          = ({ s with sup := { s.sup with missed := min (s.sup.missed + 1) 255 } }.applyArb
              (s.arb.post x { level := n, origin := .internal, carry := carry, run := run } s.osc.uptime), .ok))
      ∧ ((∀ k, s.sup.capture = some k → k.isFault = false) →
        ∃ u : State, { u with sup := s.sup, lnk := s.lnk } = s
          ∧ (s.sup.capture = none → u.sup.capture = some (.watch x .internal n n carry.figures.1 carry.figures.2 none
            s.osc.uptime) ∧ u.sup.missed = 0)
          ∧ (s.sup.capture ≠ none → u = { s with sup := { s.sup with missed := min (s.sup.missed + 1) 255 } })
          ∧ (s.arb.watch.action = .block → x ≠ .fire → x ≠ .defrost → s.internalPost x n carry run = (u, .blocked))
          ∧ ((s.arb.watch.action = .capture ∨ x = .fire ∨ x = .defrost) →
            s.internalPost x n carry run
              = (u.applyArb (s.arb.post x { level := n, origin := .internal, carry := carry, run := run } s.osc.uptime),
                .ok)))))

/-- POST_DEMAND and CANCEL_DEMAND: a device state that takes no posts is answered REFUSED_STATE, a slot code outside 1 to 12
BAD_REQUEST and a slot the origin may not write NOT_PERMITTED, BASE among them, in that order; nothing but the link
changes. -/
def Obligations.DemandRequestsRefused : Prop :=
  ∀ (l : Link) (s : State) (f : Frame) (o : Origin) (c v s1 s0 e1 e0 m r1 r0 : Byte),
    (s.hands l .postDemand f o [c, v, s1, s0, e1, e0, m, r1, r0] →
      (s.osc.device.posting = false → exec (.postDemand l) s = .next (s.afterReply l f o (.bare .refusedState)))
      ∧ (s.osc.device.posting = true → (c = 0 ∨ 12 < c.toNat) →
        exec (.postDemand l) s = .next (s.afterReply l f o (.bare .badRequest)))
      ∧ (∀ x, s.osc.device.posting = true → slotOfCode c.toNat = some x →
        (x ∉ (match o with
          | .occupant => [Slot.panel]
          | .system => [.schedule, .panel]
          | .service => [.service, .schedule, .panel]
          | .internal => [])) →
        exec (.postDemand l) s = .next (s.afterReply l f o (.bare .notPermitted))))
    ∧ (s.hands l .cancelDemand f o [c] →
      (s.osc.device.posting = false → exec (.cancelDemand l) s = .next (s.afterReply l f o (.bare .refusedState)))
      ∧ (s.osc.device.posting = true → (c = 0 ∨ 12 < c.toNat) →
        exec (.cancelDemand l) s = .next (s.afterReply l f o (.bare .badRequest)))
      ∧ (∀ x, s.osc.device.posting = true → slotOfCode c.toNat = some x →
        (x ∉ (match o with
          | .occupant => [Slot.panel]
          | .system => [.schedule, .panel]
          | .service => [.service, .schedule, .panel]
          | .internal => [])) →
        exec (.cancelDemand l) s = .next (s.afterReply l f o (.bare .notPermitted))))

/-- CANCEL_DEMAND that passes the checks frees its slot and answers OK with the state the slot had; the watch is not asked.
With the heater at rest the table is exactly what the freeing makes of it. -/
def Obligations.CancelDemandFrees : Prop :=
  ∀ (l : Link) (s : State) (f : Frame) (o : Origin) (c : Byte) (x : Slot),
    s.hands l .cancelDemand f o [c] → s.osc.device.posting = true → slotOfCode c.toNat = some x → o.mayWrite x = true →
    ∃ u : State, exec (.cancelDemand l) s
        = .next (u.afterReply l f o ⟨.ok, u8 x.code ++ u8 (s.arb.slotState x).code⟩)
      ∧ SettledFrom [x] s u ∧ u.arb.table.get x = none
      ∧ (s.atRest → u.arb = (s.arb.free x).1)

/-- A post on a FREE slot fills the record and preempts exactly where its level is strictly above the active one; a
renewal replaces level, origin, flows or duties and run time, keeps posted-at, suspensions and its place, and acts by
the state of the slot. An expiry that is still to be taken falls with a preemption and with its own slot's renewal, which is
the model's reading (log 3). -/
def Obligations.PostPlacesDemand : Prop :=
  ∀ (a : Arb) (x act : Slot) (p : PostArgs) (now : Nat), ArbOk a → a.active = some act →
    (a.table.get x = none →
      (a.post x p now).1.table.get x = some
          { level := p.level, origin := p.origin, carry := p.carry, run := p.run, postedAt := now, suspensions := 0 }
        ∧ (a.level act < p.level →
          (a.post x p now).1.active = some x ∧ (a.post x p now).1.stack = act :: a.stack
            ∧ (a.post x p now).1.queue = a.queue
            ∧ (a.post x p now).1.expiring = false
            ∧ (a.post x p now).1.table.get act = (a.table.get act).map (fun d =>
              { d with suspensions := min (d.suspensions + 1) 255 })
            ∧ ∀ y, y ≠ x → y ≠ act → (a.post x p now).1.table.get y = a.table.get y)
        ∧ (p.level ≤ a.level act →
          (a.post x p now).1.active = some act ∧ (a.post x p now).1.stack = a.stack
            ∧ (a.post x p now).1.queue = a.queue ++ [x] ∧ (a.post x p now).1.expiring = a.expiring
            ∧ ∀ y, y ≠ x → (a.post x p now).1.table.get y = a.table.get y))
    ∧ (∀ d, a.table.get x = some d →
      (∃ e, (a.post x p now).1.table.get x = some e ∧ e.level = p.level ∧ e.origin = p.origin ∧ e.carry = p.carry
          ∧ e.run = p.run ∧ e.postedAt = d.postedAt
          ∧ e.suspensions
            = if x = act ∧ (a.post x p now).1.active ≠ some x then min (d.suspensions + 1) 255 else d.suspensions)
        ∧ (∀ y, y ≠ x → y ≠ act → (a.post x p now).1.table.get y = a.table.get y)
        ∧ (a.post x p now).1.expiring = (if x = act ∨ a.level act < p.level then false else a.expiring)
        ∧ (x = act → (∀ w ∈ a.stack ++ a.queue, a.level w ≤ p.level) →
          (a.post x p now).1.active = some x ∧ (a.post x p now).1.stack = a.stack
            ∧ (a.post x p now).1.queue = a.queue)
        ∧ (x = act → (∃ w ∈ a.stack ++ a.queue, p.level < a.level w) →
          ∃ w ∈ a.stack ++ a.queue, (∀ v ∈ a.stack ++ a.queue, a.level v ≤ a.level w)
            ∧ (a.post x p now).1.active = some w ∧ (a.post x p now).1.stack = x :: a.stack.filter (· != w)
            ∧ (a.post x p now).1.queue = a.queue.filter (· != w))
        ∧ (x ≠ act → a.level act < p.level →
          (a.post x p now).1.active = some x ∧ (a.post x p now).1.stack = act :: a.stack.filter (· != x)
            ∧ (a.post x p now).1.queue = a.queue.filter (· != x))
        ∧ (x ≠ act → p.level ≤ a.level act →
          (a.post x p now).1.active = some act ∧ (a.post x p now).1.stack = a.stack
            ∧ (a.post x p now).1.queue = a.queue))

/-- The end of the active demand: the slot is FREE and the winner is the highest level among those that wait, the stack
before the queue and each from its top or head; it leaves its collection. A waiting slot that is freed leaves its
collection and the active demand goes on. -/
def Obligations.ReselectionPicksWinner : Prop :=
  ∀ (a : Arb) (x : Slot), ArbOk a →
    (a.active = some x → a.stack ++ a.queue ≠ [] →
      (a.free x).1.table.get x = none ∧ (∀ y, y ≠ x → (a.free x).1.table.get y = a.table.get y)
        ∧ ∃ (i : Nat) (w : Slot), (a.stack ++ a.queue)[i]? = some w ∧ (a.free x).1.active = some w
          ∧ (∀ v ∈ a.stack ++ a.queue, a.level v ≤ a.level w)
          ∧ (∀ (j : Nat) (v : Slot), j < i → (a.stack ++ a.queue)[j]? = some v → a.level v < a.level w)
          ∧ (a.free x).1.stack = a.stack.filter (· != w) ∧ (a.free x).1.queue = a.queue.filter (· != w)
          ∧ (a.free x).1.expiring = false)
    ∧ (x ∈ a.stack ++ a.queue →
      (a.free x).1.table.get x = none ∧ (∀ y, y ≠ x → (a.free x).1.table.get y = a.table.get y)
        ∧ (a.free x).1.active = a.active ∧ (a.free x).1.expiring = a.expiring
        ∧ (a.free x).1.stack = a.stack.filter (· != x)
        ∧ (a.free x).1.queue = a.queue.filter (· != x))
    ∧ (a.table.get x = none → (a.free x).1 = a)

/-- SET_WATCH needs SERVICE origin and replaces the whole configuration; a field without a meaning, a level outside 1 to 15
or a minimum above the maximum gets BAD_REQUEST and leaves it as it was. That a yes/no byte above 1 has no meaning is
the model's reading (log 33), and the order of the slots, which is left open here, is its choice (log 70). -/
def Obligations.SetWatchReplaces : Prop :=
  ∀ (l : Link) (s : State) (f : Frame) (o : Origin) (en m a lo hi n : Byte) (codes : List Byte),
    s.hands l .setWatch f o (en :: m :: a :: lo :: hi :: n :: codes) →
    (o ≠ .service → exec (.setWatch l) s = .next (s.afterReply l f o (.bare .notPermitted)))
    ∧ (o = .service →
      (2 ≤ en.toNat ∨ 2 ≤ m.toNat ∨ 2 ≤ a.toNat ∨ lo = 0 ∨ 15 < hi.toNat ∨ hi.toNat < lo.toNat
          ∨ (∃ c ∈ codes, c = 0 ∨ 12 < c.toNat)) →
      exec (.setWatch l) s = .next (s.afterReply l f o (.bare .badRequest)))
    ∧ (o = .service → en.toNat < 2 → m.toNat < 2 → a.toNat < 2 → lo ≠ 0 → hi.toNat ≤ 15 → lo.toNat ≤ hi.toNat →
      (∀ c ∈ codes, c ≠ 0 ∧ c.toNat ≤ 12) →
      ∃ w : Watch, exec (.setWatch l) s
          = .next ({ s with arb := { s.arb with watch := w } }.afterReply l f o ⟨.ok, w.bytes⟩)
        ∧ w.enabled = (en == 1) ∧ (w.mode = .all ↔ m = 1) ∧ (w.action = .block ↔ a = 1)
        ∧ w.levelMin = lo.toNat ∧ w.levelMax = hi.toNat
        ∧ ∀ x : Slot, x ∈ w.slots ↔ ∃ c ∈ codes, c.toNat = x.code)

/-! ### Manual control -/

/-- CLAIM_MANUAL and RELEASE_MANUAL: the checks in order, ownership granted to one link at a time, and its release with
MANUAL's slot. -/
def Obligations.ManualOwnership : Prop :=
  ∀ (l : Link) (s : State) (f : Frame) (o : Origin),
    (s.hands l .claimManual f o [] →
      (s.osc.device ≠ .running → exec (.claimManual l) s = .next (s.afterReply l f o (.bare .refusedState)))
      ∧ (s.osc.device = .running → o = .occupant →
        exec (.claimManual l) s = .next (s.afterReply l f o (.bare .notPermitted)))
      ∧ (s.osc.device = .running → o ≠ .occupant → s.frg.defrost.phase ≠ .idle → s.frg.defrost.phase ≠ .lockout →
        exec (.claimManual l) s = .next (s.afterReply l f o (.bare .busy)))
      ∧ (s.osc.device = .running → o ≠ .occupant → (s.frg.defrost.phase = .idle ∨ s.frg.defrost.phase = .lockout) →
        (∀ m, s.sup.owner = some m → m ≠ l →
          exec (.claimManual l) s = .next (s.afterReply l f o ⟨.held, u8 (linkCode m)⟩))
        ∧ ((s.sup.owner = none ∨ s.sup.owner = some l) →
          exec (.claimManual l) s = .next ({ s with sup := { s.sup with owner := some l } }.afterReply l f o
            ⟨.ok, u8 (ownerCode (some l))⟩))))
    ∧ (s.hands l .releaseManual f o [] →
      (o = .occupant → exec (.releaseManual l) s = .next (s.afterReply l f o (.bare .notPermitted)))
      ∧ (o ≠ .occupant → s.sup.owner ≠ some l →
        exec (.releaseManual l) s = .next (s.afterReply l f o (.bare .notOwner)))
      ∧ (o ≠ .occupant → s.sup.owner = some l →
        ∃ u : State, exec (.releaseManual l) s = .next (u.afterReply l f o ⟨.ok, u8 0⟩) ∧ u.sup.owner = none
          ∧ u.arb.table.manual = none ∧ SettledFrom [.manual] { s with sup := { s.sup with owner := none } } u))

/-- MANUAL_OUTPUTS: the checks in order, and for the owner with the heater off and its run-on done the post of MANUAL at
level 14 with the duties and the run time as clamped. A post that the watch matches offers a WATCH capture with the owner's
link; action BLOCK leaves MANUAL as it was and answers BLOCKED (with the slot's state as it stands: log 55), unless a FAULT
capture is held; action CAPTURE takes effect. -/
def Obligations.ManualOutputsPost : Prop :=
  ∀ (l : Link) (s : State) (f : Frame) (o : Origin) (a1 a0 b1 b0 m r1 r0 : Byte),
    s.hands l .manualOutputs f o [a1, a0, b1, b0, m, r1, r0] →
    (s.osc.device.posting = false → exec (.manualOutputs l) s = .next (s.afterReply l f o (.bare .refusedState)))
    ∧ (s.osc.device.posting = true →
      (o = .occupant → exec (.manualOutputs l) s = .next (s.afterReply l f o (.bare .notPermitted)))
      ∧ (o ≠ .occupant → s.sup.owner ≠ some l →
        exec (.manualOutputs l) s = .next (s.afterReply l f o (.bare .notOwner)))
      ∧ (o ≠ .occupant → s.sup.owner = some l → (0 < s.frg.applied ∨ 0 < s.frg.runOn) →
        exec (.manualOutputs l) s = .next (s.afterReply l f o (.bare .busy)))
      ∧ (o ≠ .occupant → s.sup.owner = some l → s.frg.applied = 0 → s.frg.runOn = 0 →
        s.arb.watch.hits .manual (s.arb.isFree .manual) 14 = false →
        ∀ supply extract run, supply = min (be16 a1 a0) 1000 → extract = min (be16 b1 b0) 1000 →
          run = (if m = 0 then max 1 (min (be16 r1 r0) 1800) else 1800) →
          ∃ u : State, exec (.manualOutputs l) s = .next (u.afterReply l f o
              ⟨if supply = be16 a1 a0 ∧ extract = be16 b1 b0 ∧ m = 0 ∧ run = be16 r1 r0 then .ok else .clamped,
                u16 supply ++ u16 extract ++ opt 2 u16 (some run) ++ u8 (u.arb.slotState .manual).code⟩)
            ∧ SettledFrom [.manual] s u
            ∧ ∃ d, u.arb.table.manual = some d ∧ d.level = 14 ∧ d.origin = .internal
              ∧ d.carry = .duties supply extract ∧ d.run = some run)
      ∧ (o ≠ .occupant → s.sup.owner = some l → s.frg.applied = 0 → s.frg.runOn = 0 →
        s.arb.watch.hits .manual (s.arb.isFree .manual) 14 = true →
        ∀ supply extract run, supply = min (be16 a1 a0) 1000 → extract = min (be16 b1 b0) 1000 →
          run = (if m = 0 then max 1 (min (be16 r1 r0) 1800) else 1800) →
          (s.arb.watch.action = .block → (∀ k, s.sup.capture = some k → k.isFault = false) →
            ∃ u : State, exec (.manualOutputs l) s = .next (u.afterReply l f o ⟨.blocked,
                u16 supply ++ u16 extract ++ opt 2 u16 (some run) ++ u8 (s.arb.slotState .manual).code⟩)
              ∧ { u with sup := s.sup, lnk := s.lnk } = s ∧ (∀ n, u.lnk.link n = s.lnk.link n)
              ∧ u.lnk.restarting = s.lnk.restarting
              ∧ (s.sup.capture = none → u.sup.capture
                = some (.watch .manual .internal 14 14 supply extract (some l) s.osc.uptime) ∧ u.sup.missed = 0)
              ∧ (s.sup.capture ≠ none → u.sup = { s.sup with missed := min (s.sup.missed + 1) 255 }))
          ∧ ((s.arb.watch.action = .capture ∨ ∃ k, s.sup.capture = some k ∧ k.isFault = true) →
            ∃ u : State, exec (.manualOutputs l) s = .next (u.afterReply l f o
                ⟨if supply = be16 a1 a0 ∧ extract = be16 b1 b0 ∧ m = 0 ∧ run = be16 r1 r0 then .ok else .clamped,
                  u16 supply ++ u16 extract ++ opt 2 u16 (some run) ++ u8 (u.arb.slotState .manual).code⟩)
              ∧ SettledFrom [.manual] { s with sup := u.sup } u
              ∧ (∃ d, u.arb.table.manual = some d ∧ d.level = 14 ∧ d.origin = .internal
                ∧ d.carry = .duties supply extract ∧ d.run = some run)
              ∧ (s.sup.capture = none → u.sup.capture
                = some (.watch .manual .internal 14 14 supply extract (some l) s.osc.uptime))
              ∧ (s.sup.capture ≠ none → u.sup.capture = s.sup.capture)
              ∧ (s.atRest → s.arb.active ≠ some .filterCheck →
                u.sup.missed = if s.sup.capture = none then 0 else min (s.sup.missed + 1) 255))))

/-! ### Filters -/

/-- CHECK_FILTERS: the checks in order; a check that starts posts FILTER_CHECK and waits or settles, one that finds a
FAULTED filter sensor ends SENSOR_FAULT at once (its other counts: log 36), and either way the scheduled check is no
longer due. The start is stated with a watch that does not match it; one that the watch blocks is undone, answered BLOCKED
(with the phase and outcome as they stand: log 34) and offers its WATCH capture. -/
def Obligations.CheckFiltersStarts : Prop :=
  ∀ (l : Link) (s : State) (f : Frame) (o : Origin), s.hands l .checkFilters f o [] →
    (s.osc.device ≠ .running → exec (.checkFilters l) s = .next (s.afterReply l f o (.bare .refusedState)))
    ∧ (s.osc.device = .running → o = .occupant →
      exec (.checkFilters l) s = .next (s.afterReply l f o (.bare .notPermitted)))
    ∧ (s.osc.device = .running → o ≠ .occupant → s.flt.check.phase ≠ .idle →
      exec (.checkFilters l) s = .next (s.afterReply l f o (.bare .busy)))
    ∧ (s.osc.device = .running → o ≠ .occupant → s.flt.check.phase = .idle →
      (s.flt.supply.sensor = .faulted ∨ s.flt.extract.sensor = .faulted
        ∨ s.arb.watch.hits .filterCheck (s.arb.isFree .filterCheck) 6 = false) →
      ∃ u : State, exec (.checkFilters l) s = .next (u.afterReply l f o
          ⟨.ok, u8 u.flt.check.phase.code ++ u8 (outcomeCode u.flt.check.outcome)⟩)
        ∧ SettledFrom [] s u ∧ u.flt.check.trigger = some .requested ∧ u.flt.check.scheduledDue = false
        ∧ u.flt.check.hoursSinceCheck = 0
        ∧ ((s.flt.supply.sensor = .faulted ∨ s.flt.extract.sensor = .faulted) →
          u.flt.check.phase = .idle ∧ u.flt.check.outcome = some .sensorFault
            ∧ u.flt.supply.lastOutcome = some .sensorFault ∧ u.flt.extract.lastOutcome = some .sensorFault)
        ∧ (s.flt.supply.sensor ≠ .faulted → s.flt.extract.sensor ≠ .faulted →
          (u.flt.check.phase = .waiting ∨ u.flt.check.phase = .settle)
            ∧ ∃ d, u.arb.table.filterCheck = some d ∧ d.level = 6 ∧ d.origin = .internal
              ∧ d.carry = .flows (s.setting 10) (s.setting 10) ∧ d.run = none))
    ∧ (s.osc.device = .running → o ≠ .occupant → s.flt.check.phase = .idle → s.flt.startTestDue = false →
      s.flt.supply.sensor ≠ .faulted → s.flt.extract.sensor ≠ .faulted →
      s.arb.watch.hits .filterCheck (s.arb.isFree .filterCheck) 6 = true → s.arb.watch.action = .block →
      (∀ k, s.sup.capture = some k → k.isFault = false) →
      ∃ u : State, exec (.checkFilters l) s = .next (u.afterReply l f o
          ⟨.blocked, u8 0 ++ u8 (outcomeCode s.flt.check.outcome)⟩)
        ∧ SettledFrom [] { s with sup := u.sup } u ∧ u.flt.check = s.flt.check
        ∧ (s.sup.capture = none → u.sup.capture
          = some (.watch .filterCheck .internal 6 6 (s.setting 10) (s.setting 10) none s.osc.uptime))
        ∧ (s.sup.capture ≠ none → u.sup.capture = s.sup.capture)
        ∧ (s.atRest → u.arb = s.arb ∧ u.flt = s.flt
          ∧ u.sup.missed = if s.sup.capture = none then 0 else min (s.sup.missed + 1) 255))

/-- FILTER_OPEN and FILTER_CLOSE: the checks in order; a waiting check is abandoned with DEFERRED; FILTER_SERVICE at once with
the heater idle, SERVICE_PREPARE with the heater to cool, which passes to FILTER_SERVICE in the same step where a cut
condition cuts the run-on (the reply carries the state that the request enters: log 46); and the return to RUNNING with the
door closed. FILTER_CHANGED in FILTER_SERVICE empties the data of the filters it names, makes a scheduled check due and
persists the block; the other filter keeps its data, and the check its phase wherever none is in flight in FILTER_SERVICE,
which every step keeps. -/
def Obligations.FilterServiceRequests : Prop :=
  ∀ (l : Link) (s : State) (f : Frame) (o : Origin) (b : Byte),
    (s.hands l .filterOpen f o [] →
      (s.osc.device ≠ .running → exec (.filterOpen l) s = .next (s.afterReply l f o (.bare .refusedState)))
      ∧ (s.osc.device = .running → o = .occupant →
        exec (.filterOpen l) s = .next (s.afterReply l f o (.bare .notPermitted)))
      ∧ (s.osc.device = .running → o ≠ .occupant →
        (s.flt.check.phase = .settle ∨ s.flt.check.phase = .sample
          ∨ (s.frg.defrost.phase ≠ .idle ∧ s.frg.defrost.phase ≠ .lockout)) →
        exec (.filterOpen l) s = .next (s.afterReply l f o (.bare .busy)))
      ∧ (s.osc.device = .running → o ≠ .occupant → (s.flt.check.phase = .idle ∨ s.flt.check.phase = .waiting) →
        (s.frg.defrost.phase = .idle ∨ s.frg.defrost.phase = .lockout) →
        (s.frg.applied = 0 → s.frg.runOn = 0 →
          ∃ u : State, exec (.filterOpen l) s = .next (u.afterReply l f o ⟨.ok, u8 4⟩)
            ∧ SettledFrom [] { s with osc := { s.osc with device := .filterService } } u
            ∧ u.osc.device = .filterService ∧ u.flt.serviceTimer = s.setting 66
            ∧ (s.flt.check.phase = .waiting →
              u.flt.check.phase = .idle ∧ u.flt.check.outcome = some .deferred ∧ u.arb.table.filterCheck = none))
        ∧ ((0 < s.frg.applied ∨ 0 < s.frg.runOn) →
          ∃ u : State, exec (.filterOpen l) s = .next (u.afterReply l f o ⟨.ok, u8 3⟩)
            ∧ SettledFrom [] { s with osc := { s.osc with device := .servicePrepare } } u ∧ u.frg.applied = 0
            ∧ (s.flt.check.phase = .waiting →
              u.flt.check.phase = .idle ∧ u.flt.check.outcome = some .deferred ∧ u.arb.table.filterCheck = none)
            ∧ (s.cutCondition = none → (s.flt.check.phase = .idle ∨ s.arb.table.fire = none) →
              u.osc.device = .servicePrepare
                ∧ u.frg.runOn = if 0 < s.frg.applied then s.setting 29 else s.frg.runOn)
            ∧ (0 < s.frg.runOn → (s.arb.active = some .fire ∨ ∃ i, (s.afc.path i).state = .failed) →
              u.osc.device = .filterService ∧ u.frg.runOn = 0 ∧ u.flt.serviceTimer = s.setting 66
                ∧ u.sup.flags.get .runOnCut = true))))
    ∧ (s.hands l .filterClose f o [] →
      (s.osc.device ≠ .filterService → exec (.filterClose l) s = .next (s.afterReply l f o (.bare .refusedState)))
      ∧ (s.osc.device = .filterService → o = .occupant →
        exec (.filterClose l) s = .next (s.afterReply l f o (.bare .notPermitted)))
      ∧ (s.osc.device = .filterService → o ≠ .occupant → s.flt.door = .opened →
        exec (.filterClose l) s = .next (s.afterReply l f o (.bare .busy)))
      ∧ (s.osc.device = .filterService → o ≠ .occupant → s.flt.door = .closed →
        ∃ u : State, exec (.filterClose l) s = .next (u.afterReply l f o ⟨.ok, u8 1⟩) ∧ u.osc.device = .running
          ∧ u.flt.serviceTimer = 0 ∧ u.flt.door = .closed
          ∧ SettledFrom [.humidity, .dryness]
            { s with osc := { s.osc with device := .running }, hum := u.hum } u))
    ∧ (s.hands l .filterChanged f o [b] →
    (s.osc.device ≠ .filterService → exec (.filterChanged l) s = .next (s.afterReply l f o (.bare .refusedState)))
    ∧ (s.osc.device = .filterService → o = .occupant →
      exec (.filterChanged l) s = .next (s.afterReply l f o (.bare .notPermitted)))
    ∧ (s.osc.device = .filterService → o ≠ .occupant → 2 < b.toNat →
      exec (.filterChanged l) s = .next (s.afterReply l f o (.bare .badRequest)))
    ∧ (s.osc.device = .filterService → o ≠ .occupant → b.toNat ≤ 2 →
      ∃ u : State, exec (.filterChanged l) s = .next (u.afterReply l f o
          ⟨.ok, u8 u.flt.supply.state.code ++ u8 u.flt.extract.state.code⟩)
        ∧ (∀ i, (b = 2 ∨ b.toNat = pathCode i) →
          (u.flt.filter i).state = .baselineDue ∧ (u.flt.filter i).data = .reset)
        ∧ (∀ i, b ≠ 2 → b.toNat ≠ pathCode i → (u.flt.filter i).state = (s.flt.filter i).state
          ∧ (u.flt.filter i).data = (s.flt.filter i).data)
        ∧ u.flt.check.scheduledDue = true ∧ (s.serviceOk → u.flt.check.phase = s.flt.check.phase)
        ∧ u.flt.writing.isSome = true
        ∧ (s.flt.writing.isSome = true → u.flt.writing = s.flt.writing ∧ u.flt.again = true)
        ∧ u.osc = s.osc ∧ u.flt.runHours = s.flt.runHours ∧ SettledFrom [] { s with flt := u.flt } u))

/-! ### Flags and capture -/

/-- CLEAR_FLAGS needs SYSTEM origin and a list that is not empty and names flags. Each named flag is cleared but where its
standing condition holds, a FAILED path whose stall flag was set and named is released, and the flags not named stay. The
reply lists the flags set after it and the named ones that their standing condition set again, both in the order of the
codes, which is the model's choice (log 62). RUN_ON_CUT and NOTICES_LOST may be set by what the release sets off. -/
def Obligations.ClearFlagsClears : Prop :=
  ∀ (l : Link) (s : State) (f : Frame) (o : Origin) (c : Byte) (codes : List Byte),
    s.hands l .clearFlags f o (c :: codes) →
    (o = .occupant → exec (.clearFlags l) s = .next (s.afterReply l f o (.bare .notPermitted)))
    ∧ (o ≠ .occupant → (c = 0 ∨ (∃ b ∈ codes, b = 0 ∨ 19 < b.toNat)) →
      exec (.clearFlags l) s = .next (s.afterReply l f o (.bare .badRequest)))
    ∧ (o ≠ .occupant → c ≠ 0 → (∀ b ∈ codes, b ≠ 0 ∧ b.toNat ≤ 19) →
      ∀ named : Flag → Bool, (∀ g : Flag, named g = true ↔ c = 255 ∨ ∃ b ∈ codes, b.toNat = g.code) →
      ∃ u : State, exec (.clearFlags l) s = .next (u.afterReply l f o ⟨.ok,
          listOf (fun g : Flag => u8 g.code) (allFlags.filter u.sup.flags.get)
            ++ listOf (fun g : Flag => u8 g.code) (allFlags.filter fun g => named g && s.standing g
              && !(s.sup.flags.get g && (g == .stallSupply || g == .stallExtract)))⟩)
        ∧ (∀ g, g ≠ .runOnCut → g ≠ .noticesLost → named g = false → u.sup.flags.get g = s.sup.flags.get g)
        ∧ (∀ g, g = .heaterCutout ∨ g = .frostDegraded ∨ g = .filterDue ∨ g = .fireInput → named g = true →
          u.sup.flags.get g = s.standing g)
        ∧ (∀ g, g ≠ .runOnCut → g ≠ .noticesLost → g ≠ .stallSupply → g ≠ .stallExtract → s.standing g = false →
          named g = true → u.sup.flags.get g = false)
        ∧ (∀ i, named (stallFlag i) = true → s.sup.flags.get (stallFlag i) = true →
          u.sup.flags.get (stallFlag i) = false ∧ ((s.afc.path i).state = .failed →
            (u.afc.path i).state ≠ .failed ∧ (u.afc.path i).retryCount = 0))
        ∧ u.sup.capture.isSome = (s.sup.capture.isSome || u.sup.capture.isSome) ∧ u.sup.owner = s.sup.owner
        ∧ SettledFrom [] { s with afc := u.afc, sup := u.sup } u)

/-- RELEASE_CAPTURE needs SYSTEM origin, answers with the record as it stood and leaves it ARMED with no missed offers;
an ARMED record is left as it is. -/
def Obligations.CaptureReleased : Prop :=
  ∀ (l : Link) (s : State) (f : Frame) (o : Origin), s.hands l .releaseCapture f o [] →
    (o = .occupant → exec (.releaseCapture l) s = .next (s.afterReply l f o (.bare .notPermitted)))
    ∧ (o ≠ .occupant → s.sup.capture ≠ none →
      exec (.releaseCapture l) s = .next ({ s with sup := { s.sup with capture := none, missed := 0 } }.afterReply l f o
        ⟨.ok, s.sup.captureBytes⟩))
    ∧ (o ≠ .occupant → s.sup.capture = none →
      exec (.releaseCapture l) s = .next (s.afterReply l f o ⟨.ok, s.sup.captureBytes⟩))

/-! ### Settings, store, device states -/

/-- SET_SETTING: the checks in order; a number is clamped to its range as the ties narrow it, the value as taken becomes
the working value, and no other value of the table changes. Where the working table's own value matters it is taken as
whole, with its 84 values, which every step keeps. -/
def Obligations.SetSettingWrites : Prop :=
  ∀ (l : Link) (s : State) (f : Frame) (o : Origin) (b v3 v2 v1 v0 : Byte),
    s.hands l .setSetting f o [b, v3, v2, v1, v0] →
    ((b = 0 ∨ 84 < b.toNat) → exec (.setSetting l) s = .next (s.afterReply l f o (.bare .badRequest)))
    ∧ (∀ row, settingRow b.toNat = some row →
      (o.rank < row.origin.rank → exec (.setSetting l) s = .next (s.afterReply l f o (.bare .notPermitted)))
      ∧ (row.origin.rank ≤ o.rank → (row.kind = .enumeration ∨ row.kind = .set) →
        (be32 v3 v2 v1 v0 < row.lo ∨ row.hi < be32 v3 v2 v1 v0) →
        exec (.setSetting l) s = .next (s.afterReply l f o (.bare .badRequest)))
      ∧ (∀ w, row.origin.rank ≤ o.rank → settingTaken s.osc.working b.toNat row (be32 v3 v2 v1 v0) = some w →
        (sensorClash s.osc.working b.toNat w = true →
          exec (.setSetting l) s = .next (s.afterReply l f o (.bare .badRequest)))
        ∧ (sensorClash s.osc.working b.toNat w = false →
          ∃ u : State, exec (.setSetting l) s = .next (u.afterReply l f o
              ⟨if w = be32 v3 v2 v1 v0 then .ok else .clamped, u8 b.toNat ++ s32 w⟩)
            ∧ (s.osc.working.length = 84 → settingVal u.osc.working b.toNat = w)
            ∧ (∀ id, id ≠ b.toNat → settingVal u.osc.working id = settingVal s.osc.working id)
            ∧ (settingVal s.osc.working b.toNat = w → s.osc.working.length = 84 → u = s)
            ∧ (b ≠ 30 → b ≠ 64 → SettledFrom [] { s with osc := { s.osc with working := u.osc.working } } u)
            ∧ (b = 30 → SettledFrom [] { s with
              osc := { s.osc with working := u.osc.working }, frg := { s.frg with imbalance := u.frg.imbalance } } u)
            ∧ (b = 64 → SettledFrom [] { s with
                osc := { s.osc with working := u.osc.working }, flt := u.flt, sup := u.sup } u
              ∧ ∀ g, g ≠ .filterDue → g ≠ .runOnCut → g ≠ .noticesLost → u.sup.flags.get g = s.sup.flags.get g)
            ∧ (b = 30 → s.osc.working.length = 84 → u.frg.imbalance = min s.frg.imbalance (u.setting 30)
              ∨ (settingVal s.osc.working 30 = w ∧ u.frg.imbalance = s.frg.imbalance))))
      ∧ (row.kind = .number → settingTaken s.osc.working b.toNat row (be32 v3 v2 v1 v0)
          = some (clampI (be32 v3 v2 v1 v0) (settingRange s.osc.working b.toNat row).1
            (settingRange s.osc.working b.toNat row).2)))

/-- STORE_SETTINGS starts a store of the working table as it stands, unless one is in progress; the store's end leaves the
copy written and valid with the snapshot, or STORE_FAILED; a filter write ends alike, and a further write that waits
follows it. That the target's CRC does not match from the start of the write on, and which bytes a CRC covers (log 21),
and that a settings copy whose CRC matches but whose values fail R186 counts as not valid for target and count (log 63),
are the model's choices. -/
def Obligations.StoresWriteAndEnd : Prop :=
  ∀ (l : Link) (s : State) (f : Frame) (o : Origin),
    (s.hands l .storeSettings f o [] →
      (o = .occupant → exec (.storeSettings l) s = .next (s.afterReply l f o (.bare .notPermitted)))
      ∧ (o ≠ .occupant → s.osc.writing ≠ none →
        exec (.storeSettings l) s = .next (s.afterReply l f o (.bare .busy)))
      ∧ (o ≠ .occupant → s.osc.writing = none →
        ∃ (w : CopyId × Nat) (c1 c2 : SettingsCopy), exec (.storeSettings l) s = .next ({ s with osc := { s.osc with
            writing := some { snapshot := s.osc.working, target := w.1, count := w.2 }, copy1 := c1, copy2 := c2 } }.afterReply
              l f o (.bare .ok))
          ∧ (w.1 = .first → c1.crcOk = false ∧ c1.values = s.osc.copy1.values ∧ c1.writeCount = s.osc.copy1.writeCount
            ∧ c2 = s.osc.copy2)
          ∧ (w.1 = .second → c2.crcOk = false ∧ c2.values = s.osc.copy2.values ∧ c2.writeCount = s.osc.copy2.writeCount
            ∧ c1 = s.osc.copy1)
          ∧ (s.osc.copy1.valid = false → w.1 = .first)
          ∧ (s.osc.copy1.valid = true → s.osc.copy2.valid = false →
            w.1 = .second ∧ (s.osc.copy1.writeCount < 4294967295 → w.2 = s.osc.copy1.writeCount + 1))
          ∧ (s.osc.copy1.valid = true → s.osc.copy2.valid = true →
            (s.osc.copy1.writeCount < s.osc.copy2.writeCount → w.1 = .first)
            ∧ (s.osc.copy2.writeCount < s.osc.copy1.writeCount → w.1 = .second)
            ∧ (max s.osc.copy1.writeCount s.osc.copy2.writeCount < 4294967295 →
              w.2 = max s.osc.copy1.writeCount s.osc.copy2.writeCount + 1))
          ∧ (s.osc.copy1.valid = false → s.osc.copy2.valid = false → w.2 = 1)))
    ∧ (∀ w, s.osc.writing = some w →
      (∃ t : State, exec (.storeComplete true) s = .next t ∧ t.osc.writing = none
        ∧ (∀ c, (w.target = .first ∧ c = t.osc.copy1 ∨ w.target = .second ∧ c = t.osc.copy2) →
          c.values = w.snapshot ∧ c.writeCount = w.count ∧ c.crc = crc16 (w.snapshot.flatMap s32 ++ u32 w.count)
            ∧ (tableValid w.snapshot = true → c.valid = true))
        ∧ (w.target = .first → t.osc.copy2 = s.osc.copy2) ∧ (w.target = .second → t.osc.copy1 = s.osc.copy1)
        ∧ SettledFrom [] { s with osc := { s.osc with writing := none, copy1 := t.osc.copy1, copy2 := t.osc.copy2 } } t)
      ∧ exec (.storeComplete false) s = .next { s with
          osc := { s.osc with writing := none }, sup := { s.sup with flags := s.sup.flags.put .storeFailed true } })
    ∧ (∀ w, s.flt.writing = some w → s.flt.again = false →
      (∃ c : FilterCopy, exec (.filterWriteComplete true) s = .next { s with flt := { s.flt with
            writing := none
            copy1 := if w.target = .first then c else s.flt.copy1
            copy2 := if w.target = .second then c else s.flt.copy2 } }
          ∧ c.block = w.snapshot ∧ c.writeCount = w.count ∧ c.crcOk = true)
      ∧ exec (.filterWriteComplete false) s = .next { s with
          flt := { s.flt with writing := none }
          sup := { s.sup with flags := s.sup.flags.put .storeFailed true } })
    ∧ (∀ w ok, s.flt.writing = some w → s.flt.again = true →
      ∃ (t : State) (v : FilterWrite), exec (.filterWriteComplete ok) s = .next t ∧ t.flt.writing = some v ∧ v.snapshot = s.flt.block
        ∧ t.flt.again = false ∧ t.flt.block = s.flt.block ∧ t.flt.check = s.flt.check ∧ t.osc = s.osc ∧ t.arb = s.arb)

/-- STANDBY: the checks in order; every slot but BASE is freed, ownership ends, a check in flight ends DEFERRED, the defrost
record waits, and the device is in STANDBY with no active slot, or, while the heater cools and neither fan stands in the
way, in STOPPING on BASE. The reply carries the state that the request enters (log 46). -/
def Obligations.StandbyAccepted : Prop :=
  ∀ (l : Link) (s : State) (f : Frame) (o : Origin), s.hands l .standby f o [] →
    (s.osc.device ≠ .running → exec (.standby l) s = .next (s.afterReply l f o (.bare .refusedState)))
    ∧ (s.osc.device = .running → o = .occupant →
      exec (.standby l) s = .next (s.afterReply l f o (.bare .notPermitted)))
    ∧ (s.osc.device = .running → o ≠ .occupant →
      ∃ (u : State) (r : List Byte), exec (.standby l) s = .next (u.afterReply l f o ⟨.ok, r⟩)
        ∧ u.sup.owner = none ∧ (∀ x, x ≠ .base → u.arb.table.get x = none)
        ∧ SameDemand s.arb.table.base u.arb.table.base ∧ u.arb.stack = []
        ∧ (s.frg.applied = 0 → s.frg.runOn = 0 →
          r = u8 6 ∧ u.osc.device = .standby ∧ u.arb.active = none ∧ u.arb.queue = [.base])
        ∧ ((0 < s.frg.applied ∨ 0 < s.frg.runOn) → s.extractLoss = false → s.afc.supply.state ≠ .stalled →
          s.afc.supply.state ≠ .failed →
          r = u8 5 ∧ u.osc.device = .stopping ∧ u.arb.active = some .base ∧ u.arb.queue = [])
        ∧ (s.flt.check.phase ≠ .idle → s.arb.table.filterCheck ≠ none →
          u.flt.check.phase = .idle ∧ u.flt.check.outcome = some .deferred)
        ∧ u.frg.defrost.phase = (match s.frg.defrost.phase with
          | .prepare => .idle
          | .posted | .running | .confirm => .suspended
          | .suspended => .suspended
          | .idle => .idle
          | .lockout => .lockout)
        ∧ u.frg.request = 0 ∧ u.frg.load = s.frg.load ∧ u.osc.working = s.osc.working ∧ u.osc.uptime = s.osc.uptime)

/-- WAKE: the state before the origin; STANDBY goes to WAKING with targets and flows 0 and new zeroing sums, STOPPING returns
to RUNNING, or to DOOR_OPEN where the door is reported open, and a SUSPENDED defrost posts DEFROST again. The reply carries
the state that the request enters (log 46). -/
def Obligations.WakeAccepted : Prop :=
  ∀ (l : Link) (s : State) (f : Frame) (o : Origin), s.hands l .wake f o [] →
    (s.osc.device ≠ .standby → s.osc.device ≠ .stopping →
      exec (.wake l) s = .next (s.afterReply l f o (.bare .refusedState)))
    ∧ ((s.osc.device = .standby ∨ s.osc.device = .stopping) → o = .occupant →
      exec (.wake l) s = .next (s.afterReply l f o (.bare .notPermitted)))
    ∧ (s.osc.device = .standby → o ≠ .occupant →
      ∃ u : State, exec (.wake l) s = .next (u.afterReply l f o ⟨.ok, u8 7⟩) ∧ u.osc.device = .waking ∧ u.osc.stoppedSecs = 0
        ∧ (∀ i, (u.afc.path i).zeroSum = 0 ∧ (u.afc.path i).zeroFault = false ∧ (u.flt.filter i).zeroSum = 0
          ∧ (u.flt.filter i).zeroFault = false ∧ (u.afc.path i).target = some 0 ∧ (u.afc.path i).flow = some 0)
        ∧ u.osc.uptime = s.osc.uptime ∧ u.osc.working = s.osc.working ∧ u.hum = s.hum ∧ u.dio = s.dio
        ∧ u.frg.load = s.frg.load ∧ u.sup.owner = s.sup.owner
        ∧ (∀ x, x ≠ .filterCheck → x ≠ .defrost → SameDemand (s.arb.table.get x) (u.arb.table.get x)))
    ∧ (s.osc.device = .stopping → o ≠ .occupant →
      ∃ u : State, exec (.wake l) s = .next (u.afterReply l f o ⟨.ok, u8 1⟩)
        ∧ u.osc.device = (if s.flt.door = .opened then .doorOpen else .running)
        ∧ (s.flt.door = .opened → u.sup.flags.get .doorUnplanned = true)
        ∧ u.osc.uptime = s.osc.uptime ∧ u.osc.working = s.osc.working ∧ u.sup.owner = s.sup.owner
        ∧ u.frg.load = s.frg.load ∧ u.frg.imbalance = s.frg.imbalance
        ∧ (s.frg.defrost.phase = .suspended → ∃ d, u.arb.table.defrost = some d ∧ d.level = 13 ∧ d.origin = .internal
          ∧ d.carry = .flows 0 (s.setting 11) ∧ d.run = none)
        ∧ ((s.frg.defrost.phase = .idle ∨ s.frg.defrost.phase = .lockout) → s.arb.table.defrost = none →
          u.arb.table.defrost = none)
        ∧ (s.dio.asserted .fire = true → ∃ d, u.arb.table.fire = some d ∧ d.level = 15 ∧ u.dio.fireMark = true))

/-! ### Sensors, on request -/

/-- PROBE_SENSOR needs SERVICE origin: an ABSENT or LOST entry goes to PROBING with a PROBE offered, a PROBING one starts its
attempts over, an ONLINE one is left, and an UNUSED entry or no entry gets BAD_REQUEST. -/
def Obligations.ProbeSensorRestarts : Prop :=
  ∀ (l : Link) (s : State) (f : Frame) (o : Origin) (p : Byte), s.hands l .probeSensor f o [p] →
    (o ≠ .service → exec (.probeSensor l) s = .next (s.afterReply l f o (.bare .notPermitted)))
    ∧ (o = .service → (s.hum.sensor p.toNat = none ∨ ∃ e, s.hum.sensor p.toNat = some e ∧ e.state = .unused) →
      exec (.probeSensor l) s = .next (s.afterReply l f o (.bare .badRequest)))
    ∧ (∀ e, o = .service → s.hum.sensor p.toNat = some e →
      (e.state = .online →
        exec (.probeSensor l) s = .next (s.afterReply l f o ⟨.ok, u8 p.toNat ++ u8 2⟩))
      ∧ (e.state = .probing →
        exec (.probeSensor l) s = .next ((s.updHum fun h =>
          h.updSensor p.toNat fun e => { e with attempts := 0 }).afterReply l f o ⟨.ok, u8 p.toNat ++ u8 1⟩))
      ∧ ((e.state = .absent ∨ e.state = .lost) →
        ∃ u : State, exec (.probeSensor l) s = .next (u.afterReply l f o ⟨.ok, u8 p.toNat ++ u8 1⟩)
          ∧ u.hum.sensor p.toNat = some { e with state := .probing, attempts := 0, pause := none, lostTime := 0 }
          ∧ (∀ n, n ≠ p.toNat → u.hum.sensor n = s.hum.sensor n)
          ∧ u.hum.bus = { s.hum.bus with queue :=
              if (p.toNat, BusKind.probe) ∈ s.hum.bus.queue then s.hum.bus.queue
              else s.hum.bus.queue ++ [(p.toNat, .probe)] }
          ∧ SettledFrom [] { s with hum := u.hum, sup := u.sup } u))


/-! ### The second -/

/-- The airflow part of a second (R24 to R27, R33, R34, R38, R39, R42): the reading and the pulse count become fault or
recovery, flow and speed, a reading of the zeroing joins its sum, and a path that regulates through the second takes one
step of the fan loop. Where both paths serve what they are asked to, are driven, and nothing else is about to happen, the
spin-up, retry, good, stall and shortfall times count. That the flow reads 0 through the whole of STARTING and WAKING is
the model's reading (log 30); that a condition counts from the second after the one in which it began (log 28), that
the supply nozzle's capture is the one an ARMED record takes in a second with several faults (logs 5 and 66), that a raw
reading beyond 16 bits is captured as the nearest value that fits (log 68), that SPINUP, STALLED and a stall condition stand at the end of their times until their own rows take them (log 2), and that SPINUP keeps the duty
it began with (log 50), are its choices. -/
def Obligations.TickDrivesPaths : Prop :=
  ∀ (s : State) (r : SecondReadings) (i : PathId) (n : Reading) (p : Nat),
    s.osc.uptime < 4294967295 →
    n = (match i with | .supply => r.supplyNozzle | .extract => r.extractNozzle) →
    p = (match i with | .supply => r.supplyPulses | .extract => r.extractPulses) →
    -20 ≤ (s.afc.path i).zeroOffset → (s.afc.path i).zeroOffset ≤ 20 →
    ∃ t : State, exec (.uptimeTick r) s = .next t
      ∧ (t.afc.path i).raw = n ∧ (t.afc.path i).speed = min 9999 (p * 60 / s.inUse 24)
      ∧ (t.afc.path i).zeroOffset = (s.afc.path i).zeroOffset ∧ (t.afc.path i).retryCount = (s.afc.path i).retryCount
      ∧ (s.osc.device.zeroing = true → (t.afc.path i).flow = some 0)
      ∧ (∀ v, n = .value v → -50 ≤ v → v ≤ 550 →
        (t.afc.path i).faulted = false
          ∧ (∀ root, s.osc.device.zeroing = false →
            root * root ≤ 100 * (v - (s.afc.path i).zeroOffset).toNat →
            100 * (v - (s.afc.path i).zeroOffset).toNat < (root + 1) * (root + 1) →
            (t.afc.path i).flow = some (min 999 ((s.setting (18 + pathCode i) * root + 500) / 1000)))
          ∧ (∀ q target, s.osc.device.zeroing = false → s.arb.table.manual = none →
            (s.afc.path i).state.regulates = true → (s.afc.path i).target = some target → (t.afc.path i).flow = some q →
            (t.afc.path i).state.regulates = true →
            ((t.afc.path i).duty : Int) = (clampI ((s.afc.path i).duty
                + clampI ((((target : Int) - q) * s.setting 20).tdiv 100) (-50) 50) (s.setting 21) 1000)
              ∧ ((t.afc.path i).state = .saturated ↔ (t.afc.path i).duty = 1000 ∧ q < target))
          ∧ (t.afc.path i).zeroFault = (s.afc.path i).zeroFault
          ∧ (t.afc.path i).zeroSum = (s.afc.path i).zeroSum
            + if s.osc.device.zeroing = true ∧ 10 ≤ s.osc.stoppedSecs ∧ s.osc.stoppedSecs < 18 then v else 0)
      ∧ ((n = .incomplete ∨ ∃ v, n = .value v ∧ (v < -50 ∨ 550 < v)) →
        (t.afc.path i).faulted = true
          ∧ (s.osc.device.zeroing = false → (t.afc.path i).flow = none)
          ∧ (t.afc.path i).zeroSum = (s.afc.path i).zeroSum
          ∧ (t.afc.path i).zeroFault = ((s.afc.path i).zeroFault
            || decide (s.osc.device.zeroing = true ∧ 10 ≤ s.osc.stoppedSecs ∧ s.osc.stoppedSecs < 18))
          ∧ ((s.afc.path i).faulted = false → t.sup.flags.get .pressureFault = true
            ∧ (t.afc.path i).state.regulates = false
            ∧ (i = .supply → s.sup.capture = none → t.sup.capture = some (.fault .pressureFault 0
              (clampI (match n with | .value v => v | .incomplete => -9999) (-32768) 32767) (s.osc.uptime + 1)))))
      ∧ (s.atRest → (∀ j, (s.afc.path j).serve (s.serveArgs j) = s.afc.path j ∧ 0 < s.driveRequest j) →
        readingValid (-50) 1050 r.supplyFilter = true → readingValid (-50) 1050 r.extractFilter = true →
        s.flt.supply.sensor ≠ .faulted → s.flt.extract.sensor ≠ .faulted →
        ((s.afc.path i).state = .spinup → (t.afc.path i).state = .spinup ∧ (t.afc.path i).duty = (s.afc.path i).duty
          ∧ (t.afc.path i).spinupTime = min ((s.afc.path i).spinupTime + 1) 15)
        ∧ ((s.afc.path i).state = .stalled → (t.afc.path i).state = .stalled
          ∧ (t.afc.path i).retryTime = (s.afc.path i).retryTime - 1)
        ∧ (t.afc.path i).goodTiming = (s.afc.path i).goodTiming
        ∧ ((s.afc.path i).goodTiming = true → (s.afc.path i).state.stallChecked = true →
          (t.afc.path i).goodTime = if s.setting 23 ≤ (t.afc.path i).speed
            then min ((s.afc.path i).goodTime + 1) 10 else 0)
        ∧ (∀ was now : Bool,
          (was = true ↔ (s.afc.path i).state.stallChecked = true ∧ 200 ≤ (s.afc.path i).duty
            ∧ (s.afc.path i).speed < s.setting 23) →
          (now = true ↔ (t.afc.path i).state.stallChecked = true ∧ 200 ≤ (t.afc.path i).duty
            ∧ (t.afc.path i).speed < s.setting 23) →
          (was = true → now = true → (t.afc.path i).stallTime = min ((s.afc.path i).stallTime + 1) 10)
            ∧ ((was = false ∨ now = false) → (t.afc.path i).stallTime = 0))
        ∧ (((s.afc.path i).shortCond = false ∨ (t.afc.path i).shortCond = false) →
          (t.afc.path i).shortfallTime = 0 ∧ (t.afc.path i).shortfallStanding = false)
        ∧ ((s.afc.path i).shortCond = true → (t.afc.path i).shortCond = true →
          (t.afc.path i).shortfallStanding = (s.afc.path i).shortfallStanding
            ∧ (t.afc.path i).shortfallTime = if (s.afc.path i).shortfallStanding = true
              then (s.afc.path i).shortfallTime else min ((s.afc.path i).shortfallTime + 1) 60)
        ∧ (∀ p : FanPath, p.shortCond = true ↔ p.state = .saturated ∧ ∃ q goal, p.flow = some q ∧ p.target = some goal
          ∧ q * 100 < goal * 90))

/-- The temperature and filter pressure readings of a second: the channel by its table, the filter sensor by its reading, and
a reading of the zeroing joins its sum. A HOLDING channel whose hold time reaches 60 in the second stays HOLDING until
HOLD_EXPIRED takes it, which is the model's reading (log 2). -/
def Obligations.TickReadsInputs : Prop :=
  ∀ (s : State) (r : SecondReadings), s.osc.uptime < 4294967295 →
    ∃ t : State, exec (.uptimeTick r) s = .next t
      ∧ (∀ (i : TempId) (n : TempReading),
        n = (match i with | .oda => r.oda | .sup => r.sup | .eta => r.eta | .eha => r.eha) →
        (∀ v, n = .value v → -400 ≤ v → v ≤ 800 →
          t.frg.channel i = { status := .good, holdTime := 0, raw := v, lastGood := some v, everRead := true })
        ∧ (∀ raw, (n = .openCircuit ∧ raw = -9998 ∨ n = .shortCircuit ∧ raw = -9999
            ∨ n = .value raw ∧ (raw < -400 ∨ 800 < raw)) →
          (t.frg.channel i).raw = raw ∧ (t.frg.channel i).lastGood = (s.frg.channel i).lastGood
            ∧ ((s.frg.channel i).status = .good → (t.frg.channel i).status = .holding ∧ (t.frg.channel i).holdTime = 0
              ∧ t.sup.flags.get .tempFault = true)
            ∧ ((s.frg.channel i).status = .holding → (t.frg.channel i).status = .holding
              ∧ (t.frg.channel i).holdTime = min ((s.frg.channel i).holdTime + 1) 60)
            ∧ ((s.frg.channel i).status = .invalid → (t.frg.channel i).status = .invalid
              ∧ ((s.frg.channel i).everRead = false → t.sup.flags.get .tempFault = true))))
      ∧ (∀ (i : PathId) (n : Reading),
        n = (match i with | .supply => r.supplyFilter | .extract => r.extractFilter) →
        (t.flt.filter i).raw = n ∧ (t.flt.filter i).zeroOffset = (s.flt.filter i).zeroOffset
        ∧ (t.flt.filter i).data.history = (s.flt.filter i).data.history
        ∧ (∀ v, n = .value v → -50 ≤ v → v ≤ 1050 →
          (t.flt.filter i).sensor
              = (if (s.flt.filter i).sensor = .faulted then .unverified else (s.flt.filter i).sensor)
            ∧ (t.flt.filter i).zeroFault = (s.flt.filter i).zeroFault
            ∧ (t.flt.filter i).zeroSum = (s.flt.filter i).zeroSum
              + if s.osc.device.zeroing = true ∧ 10 ≤ s.osc.stoppedSecs ∧ s.osc.stoppedSecs < 18 then v else 0)
        ∧ ((n = .incomplete ∨ ∃ v, n = .value v ∧ (v < -50 ∨ 1050 < v)) →
          (t.flt.filter i).sensor = .faulted
            ∧ (t.flt.filter i).zeroSum = (s.flt.filter i).zeroSum
            ∧ (t.flt.filter i).zeroFault = ((s.flt.filter i).zeroFault
              || decide (s.osc.device.zeroing = true ∧ 10 ≤ s.osc.stoppedSecs ∧ s.osc.stoppedSecs < 18))
            ∧ ((s.flt.filter i).sensor ≠ .faulted → t.sup.flags.get .pressureFault = true ∧ t.flt.check.phase = .idle)))

/-- What a second counts: uptime, the active demand's run time, the run-on, the service timer, the pauses and times of the
sensors and boosts, the poll, ring and evaluation timers, the lockout and the recovery time. Stored data, links and contacts
stay. The run-on counts where the heater stays off through the second: the request is 0, the cutout OPEN, the device not in
RUNNING, the supply path OFF or in SPINUP, its flow below the heater's minimum, or the active demand one that drives the
fans and nothing about to replace it. The run-hours accumulator returns to 0 at the second that makes it 3600. That LOCKOUT,
BOOST and HOLDOFF stand until their own rows take them (log 2), that the evaluation, poll and ring timers count on (log 69),
that a completed run hour is counted until RUN_HOUR takes it (log 67), that the last second of a run time is marked (log 3),
how far a recovery falls at its first tick (log 18), and that within a second the run-on counts before the heater can begin
one, and the accumulator goes by the paths as the second leaves them (log 5), are the model's. -/
def Obligations.TickCounts : Prop :=
  ∀ (s : State) (r : SecondReadings), s.osc.uptime < 4294967295 →
    ∃ t : State, exec (.uptimeTick r) s = .next t ∧ t.pending = s.pending
      ∧ { t.osc with device := s.osc.device, stoppedSecs := s.osc.stoppedSecs }
        = { s.osc with uptime := s.osc.uptime + 1 }
      ∧ (t.osc.device = s.osc.device ∨ (s.osc.device = .stopping ∧ t.osc.device = .standby)
        ∨ (s.osc.device = .servicePrepare ∧ t.osc.device = .filterService))
      ∧ t.osc.stoppedSecs
        = (if s.osc.device.zeroing = true then min (s.osc.stoppedSecs + 1) 19 else s.osc.stoppedSecs)
      ∧ (∀ x, x ≠ .filterCheck → x ≠ .defrost → SameDemand
        (if s.arb.active = some x ∧ (s.osc.device.posting = true ∨ s.osc.device = .stopping)
          then (s.arb.table.get x).map (fun d => { d with run := d.run.map fun n => if n ≤ 1 then n else n - 1 })
          else s.arb.table.get x)
        (t.arb.table.get x))
      ∧ (s.atRest → readingValid (-50) 1050 r.supplyFilter = true → readingValid (-50) 1050 r.extractFilter = true →
        s.flt.supply.sensor ≠ .faulted → s.flt.extract.sensor ≠ .faulted →
        t.arb.active = s.arb.active
          ∧ (t.arb.expiring = true ↔ s.arb.expiring = true
            ∨ (s.osc.device.posting = true ∨ s.osc.device = .stopping)
              ∧ ∃ d n, s.arb.activeDemand = some d ∧ d.run = some n ∧ n ≤ 1))
      ∧ (t.frg.runOn = s.frg.runOn - 1 ∨ t.frg.runOn = 0 ∨ t.frg.runOn = s.setting 29)
      ∧ (t.cutCondition ≠ none → t.frg.runOn = 0)
      ∧ (s.cutCondition = none → t.cutCondition = none →
        (0 < s.frg.applied → t.frg.applied = 0 → t.frg.runOn = s.setting 29)
          ∧ (s.frg.applied = 0 → 0 < t.frg.applied → t.frg.runOn = 0)
          ∧ (0 < s.frg.applied → 0 < t.frg.applied → t.frg.runOn = s.frg.runOn - 1)
          ∧ (s.frg.applied = 0 → t.frg.applied = 0 →
            (s.frg.request = 0 ∨ s.frg.cutout = .opened ∨ s.osc.device ≠ .running
              ∨ s.afc.supply.state = .off ∨ s.afc.supply.state = .spinup
              ∨ (∀ q, t.afc.supply.flow = some q → q < s.setting 5)
              ∨ (s.tablesOk ∧ s.flt.startTestDue = false ∧ s.flt.supply.sensor ≠ .faulted
                ∧ s.flt.extract.sensor ≠ .faulted ∧ readingValid (-50) 1050 r.supplyFilter = true
                ∧ readingValid (-50) 1050 r.extractFilter = true
                ∧ ∃ x d f, s.arb.active = some x ∧ x ≠ .manual ∧ s.arb.table.get x = some d
                  ∧ d.flows (s.setting 1) = some f ∧ 0 < f.1 ∧ 0 < f.2)) →
            t.frg.runOn = s.frg.runOn - 1))
      ∧ t.frg.evalTimer = (if s.osc.device.zeroing = true then s.frg.evalTimer else s.frg.evalTimer + 1)
      ∧ (s.frg.defrost.phase = .lockout → t.frg.defrost.phase = .lockout
        ∧ t.frg.defrost.lockout = s.frg.defrost.lockout - 1)
      ∧ (s.osc.device ≠ .servicePrepare → t.flt.serviceTimer = s.flt.serviceTimer - 1)
      ∧ t.hum.pollTimer = s.hum.pollTimer.map (· + 1)
      ∧ t.hum.ringTimer = (if s.hum.active = true then s.hum.ringTimer + 1 else s.hum.ringTimer)
      ∧ { t.hum.bus with recovery := s.hum.bus.recovery } = s.hum.bus
      ∧ (s.hum.bus.state = .recovery →
        (s.hum.bus.recovery = 5000 → 4000 ≤ t.hum.bus.recovery ∧ t.hum.bus.recovery ≤ 4999)
          ∧ (s.hum.bus.recovery ≠ 5000 → t.hum.bus.recovery = s.hum.bus.recovery - 1000))
      ∧ (s.hum.bus.state ≠ .recovery → t.hum.bus.recovery = s.hum.bus.recovery)
      ∧ (∀ n e, s.hum.sensor n = some e → ∃ e', t.hum.sensor n = some e'
        ∧ { e' with pause := e.pause, lostTime := e.lostTime, boost := e.boost } = e
        ∧ e'.pause = e.pause.map (· - 1)
        ∧ e'.lostTime = (if e.state = .lost then e.lostTime - 1 else e.lostTime)
        ∧ (e.boost = none → e'.boost = none)
        ∧ (∀ b, e.boost = some b → ∃ b', e'.boost = some b'
          ∧ { b' with time := b.time, holdoff := b.holdoff, limitDue := b.limitDue } = b
          ∧ (b.state = .idle → b' = b)
          ∧ (b.state = .holdoff → b'.holdoff = b.holdoff - 1 ∧ b'.time = b.time ∧ b'.limitDue = b.limitDue)
          ∧ (b.state = .boost → b.limitDue = true → b' = b)
          ∧ (∀ u, b.state = .boost → b.limitDue = false → b.startTime = some u →
            b'.time = min 14400 (s.osc.uptime + 1 - u) ∧ b'.holdoff = b.holdoff
              ∧ (b'.limitDue = true ↔ s.setting 42 ≤ b'.time))))
      ∧ t.dio = s.dio ∧ t.sup.owner = s.sup.owner
      ∧ t.lnk.main = s.lnk.main ∧ t.lnk.service = s.lnk.service ∧ t.lnk.restarting = s.lnk.restarting
      ∧ t.flt.runHours = s.flt.runHours ∧ t.flt.door = s.flt.door ∧ t.flt.copy1 = s.flt.copy1
      ∧ t.flt.copy2 = s.flt.copy2 ∧ t.flt.writing = s.flt.writing ∧ t.flt.again = s.flt.again
      ∧ ((t.afc.supply.running = true ∨ t.afc.extract.running = true) →
        (s.flt.accumulator < 3599 → t.flt.accumulator = s.flt.accumulator + 1 ∧ t.flt.hoursDue = s.flt.hoursDue)
          ∧ (3599 ≤ s.flt.accumulator → t.flt.accumulator = 0 ∧ t.flt.hoursDue = s.flt.hoursDue + 1))
      ∧ (t.afc.supply.running = false → t.afc.extract.running = false →
        t.flt.accumulator = s.flt.accumulator ∧ t.flt.hoursDue = s.flt.hoursDue)

/-! ### Ends of times: demands and fans -/

/-- The active demand whose last second has passed, as the model marks it (log 3), expires: its slot is FREE, reselection
runs, and DIO's mark of the slot falls. The slots FILTER_CHECK and DEFROST are posted UNTIMED, so they are not among those
that expire. -/
def Obligations.DemandExpires : Prop :=
  ∀ (s : State) (x : Slot) (d : Demand), s.arb.active = some x → s.arb.table.get x = some d → s.arb.expiring = true →
    x ≠ .filterCheck → x ≠ .defrost →
    ∃ t : State, exec .demandExpiry s = .next t ∧ t.arb.table.get x = none
      ∧ t.dio = (match x with
        | .inputBoost => { s.dio with boostMark := false }
        | .inputHood => { s.dio with hoodMark := false }
        | .fire => { s.dio with fireMark := false }
        | _ => s.dio)
      ∧ SettledFrom [x] { s with dio := t.dio } t
      ∧ (s.atRest → t.arb = (s.arb.free x).1)

/-- The end of a spin-up, a stall and the end of a retry time. A successful spin-up serves the target, or the manual duty;
a failed one and a stall set the flag, offer a capture and stop the path, the third failure for good; a retry is a
spin-up at start duty. Where the path is then asked to stop is left to its own rules, so the exact state is stated for a
heater at rest and a path that is driven. That a stall under good timing offers one capture (log 26) and that the spin-up
time is 0 after a successful spin-up (log 35) are the model's readings. -/
def Obligations.FanTimersEnd : Prop :=
  ∀ (s : State) (i : PathId) (p : FanPath), p = s.afc.path i →
    (p.state = .spinup → 15 ≤ p.spinupTime → s.setting 23 ≤ p.speed →
      ∃ t : State, exec (.spinupEnd i) s = .next t ∧ SettledFrom [] s t
        ∧ (s.atRest → 0 < s.driveRequest i → (t.afc.path i).goodTiming = true ∧ (t.afc.path i).goodTime = 0
          ∧ (t.afc.path i).spinupTime = 0
          ∧ (s.manualDuties = none →
            ((p.faulted = false ∨ p.target = (s.serveArgs i).target) → (t.afc.path i).duty = p.duty)
            ∧ (t.afc.path i).state = if p.faulted then .hold else .regulating)
          ∧ (s.manualDuties ≠ none → (t.afc.path i).state = .manual ∧ (t.afc.path i).duty = s.driveRequest i)))
    ∧ (p.state = .spinup → 15 ≤ p.spinupTime → p.speed < s.setting 23 →
      ∃ (t : State) (v : Sup), exec (.spinupEnd i) s = .next t
        ∧ FaultTaken s.sup v (stallFlag i) (pathCode i) (min p.speed 32767 : Nat) s.osc.uptime
        ∧ SettledFrom [] { s with afc := s.afc.setPath i { p with retryCount := min (p.retryCount + 1) 3 }, sup := v } t
        ∧ (2 ≤ p.retryCount → (t.afc.path i).state = .failed)
        ∧ (p.retryCount < 2 → s.atRest → 0 < s.driveRequest i →
          (t.afc.path i).state = .stalled ∧ (t.afc.path i).retryTime = 60 ∧ (t.afc.path i).duty = 0))
    ∧ (p.state.stallChecked = true → 10 ≤ p.stallTime →
      ∃ (t : State) (v : Sup), exec (.stallDetected i) s = .next t
        ∧ FaultTaken s.sup v (stallFlag i) (pathCode i) (min p.speed 32767 : Nat) s.osc.uptime
        ∧ SettledFrom [] { s with
            afc := s.afc.setPath i { p with
              retryCount := if p.goodTiming then min (p.retryCount + 1) 3 else p.retryCount }
            sup := v } t
        ∧ (p.goodTiming = true → 2 ≤ p.retryCount → (t.afc.path i).state = .failed)
        ∧ ((p.goodTiming = false ∨ p.retryCount < 2) → s.atRest → 0 < s.driveRequest i →
          (t.afc.path i).state = .stalled ∧ (t.afc.path i).retryTime = 60 ∧ (t.afc.path i).duty = 0))
    ∧ (p.state = .stalled → p.retryTime = 0 →
      ∃ t : State, exec (.retryEnd i) s = .next t ∧ SettledFrom [] s t
        ∧ (s.atRest → 0 < s.driveRequest i → (t.afc.path i).state = .spinup
          ∧ (t.afc.path i).duty = s.setting 22 ∧ (t.afc.path i).spinupTime = 0))

/-- Good running clears the retry count; a shortfall of 60 s sets its flag and prompts a filter check, in RUNNING with no
check in flight, unless the last completed one is less than 3600 s old. -/
def Obligations.GoodTimeAndShortfall : Prop :=
  ∀ (s : State) (i : PathId),
    ((s.afc.path i).goodTiming = true → 10 ≤ (s.afc.path i).goodTime →
      exec (.goodTimeComplete i) s = .next { s with
        afc := s.afc.setPath i { s.afc.path i with retryCount := 0, goodTiming := false } })
    ∧ (∀ q target, 60 ≤ (s.afc.path i).shortfallTime → (s.afc.path i).shortfallStanding = false →
      (s.afc.path i).state = .saturated → (s.afc.path i).flow = some q → (s.afc.path i).target = some target →
      q * 100 < target * 90 →
      ∃ t : State, exec (.shortfallReported i) s = .next t
        ∧ SettledFrom [] { s with sup := { s.sup with flags := s.sup.flags.put (shortfallFlag i) true } } t
        ∧ ((s.osc.device ≠ .running ∨ s.flt.check.phase ≠ .idle
            ∨ ∃ u, s.flt.check.lastCompleted = some u ∧ s.osc.uptime - u < 3600) → s.atRest →
          t.flt = s.flt ∧ t.arb = s.arb)
        ∧ (s.osc.device = .running → s.flt.check.phase = .idle →
          (∀ u, s.flt.check.lastCompleted = some u → 3600 ≤ s.osc.uptime - u) →
          s.flt.supply.sensor ≠ .faulted → s.flt.extract.sensor ≠ .faulted → s.arb.watch.enabled = false →
          t.flt.check.trigger = some .shortfall ∧ (t.flt.check.phase = .waiting ∨ t.flt.check.phase = .settle)
            ∧ ∃ d, t.arb.table.filterCheck = some d ∧ d.level = 6 ∧ d.origin = .internal
              ∧ d.carry = .flows (s.setting 10) (s.setting 10) ∧ d.run = none))

/-! ### Frost guard, preheater, defrost -/

/-- A channel held for 60 s becomes INVALID and the regime follows; a regime that becomes SUBSTITUTE computes its
substitute, which is the model's reading of when it first stands (log 29). That Td and M keep their values where the regime
becomes FIXED is its choice (log 52). -/
def Obligations.HoldExpires : Prop :=
  ∀ (s : State) (i : TempId) (g : Frg), (s.frg.channel i).status = .holding → 60 ≤ (s.frg.channel i).holdTime →
    g = s.frg.setChannel i { s.frg.channel i with status := .invalid } →
    ∃ t : State, exec (.holdExpired i) s = .next t
      ∧ SettledFrom [] { s with frg := { g with substitute := t.frg.substitute } } t
      ∧ t.frg.regime = g.regime
      ∧ (g.eha.status = .invalid → (g.oda.status = .invalid ∨ g.eta.status = .invalid) → t.frg.regime = .fixed)
      ∧ (g.eha.status = .invalid → g.oda.status ≠ .invalid → g.eta.status ≠ .invalid → t.frg.regime = .substitute)
      ∧ ((g.regime = s.frg.regime ∨ g.regime ≠ .substitute) → t.frg.substitute = s.frg.substitute)
      ∧ (g.regime ≠ s.frg.regime → g.regime = .substitute →
        t.frg.substitute = some (g.odaInUse
          + ((g.etaInUse - g.odaInUse) * (100 - settingVal s.osc.working 31)).tdiv 100))

/-- Steps 1 to 3 of the frost evaluation: the exhaust substitute, the dew-point estimate, the margin and the load. -/
def Obligations.FrostEvaluationMeasures : Prop :=
  ∀ (s : State), s.osc.device.zeroing = false → 10 ≤ s.frg.evalTimer →
    ∃ t : State, exec .frostEvaluation s = .next t ∧ SettledFrom [] { s with frg := t.frg } t
      ∧ (s.frg.evalTimer = 10 → t.frg.evalTimer = 0) ∧ (∀ i, t.frg.channel i = s.frg.channel i)
      ∧ t.frg.cutout = s.frg.cutout
      ∧ t.frg.rhEta = s.hum.extract.map (fun v => min v.1 1000) ∧ t.frg.tier = s.hum.extract.map (·.2)
      ∧ (∀ oda eta : Int, oda = s.frg.odaInUse → eta = s.frg.etaInUse →
        (s.frg.regime = .substitute →
          t.frg.substitute = some (oda + ((eta - oda) * (100 - settingVal s.osc.working 31)).tdiv 100))
        ∧ (∀ eha rh q m, s.frg.regime ≠ .fixed → t.frg.ehaInUse = some eha → t.frg.rhEta = some rh →
          q = (match s.afc.extract.flow with | some q => q | none => s.afc.extract.target.getD 0) →
          m = clampI (eha - min (eta - ((1000 - rh) / 5 : Nat)) 0 - settingVal s.osc.working 25) (-999) 999 →
          t.frg.td = some (eta - ((1000 - rh) / 5 : Nat)) ∧ t.frg.margin = some m
            ∧ (m < 0 → t.frg.load = min 65535 (s.frg.load + ((-m).toNat * q + 50) / 100))
            ∧ (0 ≤ m → 0 < eha → t.frg.load = s.frg.load - (eha.toNat * q + 100) / 200)
            ∧ (0 ≤ m → eha ≤ 0 → t.frg.load = s.frg.load))
        ∧ (∀ q, s.frg.regime = .fixed →
          q = (match s.afc.extract.flow with | some q => q | none => s.afc.extract.target.getD 0) →
          t.frg.td = none ∧ t.frg.margin = none
            ∧ (0 < q → t.frg.load = min 65535 (s.frg.load + 40)) ∧ (q = 0 → t.frg.load = s.frg.load)))

/-- Steps 3 to 5 of the frost evaluation: the defrost trigger, the heater request and the imbalance. That an evaluation
taken late takes 10 s off its timer is the model's choice (log 69). -/
def Obligations.FrostEvaluationActs : Prop :=
  ∀ (s : State), s.osc.device.zeroing = false → 10 ≤ s.frg.evalTimer →
    ∃ t : State, exec .frostEvaluation s = .next t ∧ t.frg.evalTimer = s.frg.evalTimer - 10
      ∧ ((s.osc.device ≠ .running ∨ s.arb.table.manual ≠ none ∨ s.inUse 28 ≠ 1
          ∨ (s.frg.defrost.phase ≠ .idle ∧ s.frg.defrost.phase ≠ .lockout)) →
        t.frg.request = 0 ∧ t.frg.applied = 0)
      ∧ (s.osc.device = .running → s.arb.table.manual = none → s.inUse 28 = 1 →
        (s.frg.defrost.phase = .lockout ∨ s.frg.defrost.phase = .idle ∧ t.frg.load < s.setting 32) →
        (s.frg.regime = .fixed → t.frg.request = 500)
          ∧ (∀ m, s.frg.regime ≠ .fixed → t.frg.margin = some m → (t.frg.request : Int)
            = clampI ((settingVal s.osc.working 26 - m) * settingVal s.osc.working 27) 0 1000))
      ∧ (s.osc.device = .running → s.frg.defrost.phase = .idle → s.setting 32 ≤ t.frg.load →
        t.frg.request = 0 ∧ t.frg.defrost.phase ≠ .idle ∧ t.frg.defrost.phase ≠ .lockout
          ∧ (∀ act, s.atRest → 0 < s.setting 32 → s.arb.table.defrost = none → s.arb.active = some act →
            s.arb.level act < 13 →
            t.frg.defrost.phase = .running ∧ t.frg.defrost.started = true ∧ t.frg.defrost.elapsed = 0
              ∧ t.frg.defrost.count = min (s.frg.defrost.count + 1) 65535 ∧ t.arb.active = some .defrost
              ∧ ∃ d, t.arb.table.defrost = some d ∧ d.level = 13 ∧ d.origin = .internal
                ∧ d.carry = .flows 0 (s.setting 11) ∧ d.run = none))
      ∧ ((s.osc.device = .running
          ∨ (s.osc.device = .stopping ∨ s.osc.device = .servicePrepare) ∧ t.osc.device = s.osc.device) →
        (s.frg.regime = .fixed → t.frg.imbalance = s.setting 30 ∧ t.frg.exhausted = 0)
          ∧ (∀ m, s.frg.regime ≠ .fixed → t.frg.margin = some m →
            (0 < s.frg.imbalance → t.frg.exhausted = s.frg.exhausted
              ∧ (m < 0 → t.frg.imbalance = min (s.frg.imbalance + 5) (s.setting 30))
              ∧ (0 ≤ m → settingVal s.osc.working 26 ≤ m → t.frg.imbalance = s.frg.imbalance - 5)
              ∧ (0 ≤ m → m < settingVal s.osc.working 26 → t.frg.imbalance = s.frg.imbalance))
            ∧ (s.frg.imbalance = 0 →
              (0 ≤ m → t.frg.exhausted = 0 ∧ t.frg.imbalance = 0)
              ∧ (m < 0 → (s.inUse 28 ≠ 1 ∨ s.frg.cutout = .opened ∨ t.frg.request = 1000) →
                (2 ≤ s.frg.exhausted → t.frg.exhausted = 0 ∧ t.frg.imbalance = min 5 (s.setting 30))
                ∧ (s.frg.exhausted < 2 → t.frg.exhausted = s.frg.exhausted + 1 ∧ t.frg.imbalance = 0))
              ∧ (m < 0 → s.inUse 28 = 1 → s.frg.cutout = .closed → t.frg.request = 0 →
                t.frg.exhausted = 0 ∧ t.frg.imbalance = 0))))
      ∧ ((s.osc.device = .doorOpen ∨ s.osc.device = .filterService ∨ s.osc.device = .standby) →
        t.frg.imbalance = s.frg.imbalance ∧ t.frg.exhausted = s.frg.exhausted)

/-- The applied duty as it changes: a fall to 0 starts the run-on unless a cut condition holds, a rise from 0 ends it, and a
duty of 1000 keeps the output ON. A cut condition cuts a run-on with RUN_ON_CUT and its capture; the frost stage is the
highest that applies, with FROST_STAGE at a change. Then the ends of the run-on, of a heater window, of its ON time and of
the lockout: STOPPING goes to STANDBY, SERVICE_PREPARE to FILTER_SERVICE, a defrost in PREPARE to its post. A
post that makes DEFROST active leaves the phase RUNNING in the same step, but POSTED where the next command is a STANDBY
that OSC accepts: that the two then come together is the model's reading (log 58). -/
def Obligations.RunOnAndHeaterRows : Prop :=
  ∀ (s : State),
    (∀ n, { s.applyDuty n with frg := s.frg, freeCount := s.freeCount } = s ∧ (s.applyDuty n).frg.applied = n
      ∧ (0 < s.frg.applied → n = 0 → (s.applyDuty n).frg.outputOn = false
        ∧ (s.cutCondition = none → (s.applyDuty n).frg.runOn = s.setting 29)
        ∧ (s.cutCondition ≠ none → (s.applyDuty n).frg.runOn = s.frg.runOn))
      ∧ (s.frg.applied = 0 → 0 < n → (s.applyDuty n).frg.outputOn = true ∧ (s.applyDuty n).frg.runOn = 0
        ∧ (s.applyDuty n).frg.windowSecs = 0)
      ∧ (0 < s.frg.applied → 0 < n → (s.applyDuty n).frg.runOn = s.frg.runOn
        ∧ (s.applyDuty n).frg.windowSecs = s.frg.windowSecs
        ∧ (s.frg.outputOn = true → s.frg.applied ≤ n → (s.applyDuty n).frg.outputOn = true)
        ∧ (s.frg.outputOn = false → n ≤ s.frg.applied → (s.applyDuty n).frg.outputOn = false)
        ∧ (s.frg.applied < 1000 → n = 1000 → (s.applyDuty n).frg.outputOn = true)))
    ∧ (s.cutCondition = none ↔ s.osc.device ≠ .doorOpen ∧ s.osc.device ≠ .filterService ∧ s.arb.active ≠ some .fire
      ∧ ∀ i, (s.afc.path i).state ≠ .stalled ∧ (s.afc.path i).state ≠ .failed)
    ∧ ((s.cutCondition = none ∨ s.frg.runOn = 0) → s.cutRunOn = s)
    ∧ (∀ c, s.cutCondition = some c → 0 < s.frg.runOn →
      ∃ v : Sup, FaultTaken s.sup v .runOnCut c.code (min s.frg.runOn 32767 : Nat) s.osc.uptime
        ∧ s.cutRunOn.frg.runOn = 0 ∧ SettledFrom [] { s with sup := v } s.cutRunOn
        ∧ (s.osc.device = .stopping → s.cutRunOn.osc.device = .standby)
        ∧ (s.osc.device = .servicePrepare → s.cutRunOn.osc.device = .filterService)
        ∧ s.cutRunOn.frg.defrost.phase ≠ .prepare)
    ∧ (∀ g : Stage, g = (if s.frg.defrost.phase ≠ .idle ∧ s.frg.defrost.phase ≠ .lockout then .defrost
        else if 0 < s.frg.imbalance then .imbalance else if 0 < s.frg.applied then .preheat else .none) →
      (g = s.frg.stage → s.deriveStage = s)
      ∧ (g ≠ s.frg.stage → s.deriveStage
        = { s with frg := { s.frg with stage := g } }.raise .frostStage 0
          (match g with | .none => 0 | .preheat => 1 | .imbalance => 2 | .defrost => 3)))
    ∧ (s.frg.runOn = 0 → s.osc.device = .stopping →
      ∃ t : State, exec .runOnEnd s = .next t ∧ t.osc.device = .standby
        ∧ t.arb = { s.arb with active := none, stack := s.arb.stack.filter (· != .base)
                               queue := .base :: s.arb.queue.filter (· != .base), expiring := false }
        ∧ SettledFrom [] { s with osc := { s.osc with device := .standby } } t)
    ∧ (s.frg.runOn = 0 → s.osc.device = .servicePrepare →
      ∃ t : State, exec .runOnEnd s = .next t ∧ t.osc.device = .filterService ∧ t.flt.serviceTimer = s.setting 66
        ∧ SettledFrom [] { s with osc := { s.osc with device := .filterService } } t)
    ∧ (s.frg.runOn = 0 → s.osc.device = .running → s.frg.defrost.phase = .prepare →
      ∃ t : State, exec .runOnEnd s = .next t ∧ t.frg.defrost.phase ≠ .prepare ∧ SettledFrom [] s t
        ∧ (∃ d, t.arb.table.defrost = some d ∧ d.level = 13 ∧ d.origin = .internal
          ∧ d.carry = .flows 0 (s.setting 11) ∧ d.run = none)
        ∧ (s.atRest → s.standbyNext = true → t.frg.defrost = { s.frg.defrost with phase := .posted })
        ∧ (∀ act, s.atRest → s.standbyNext = false → s.arb.table.defrost = none → s.arb.active = some act →
          s.arb.level act < 13 → t.frg.defrost.phase = .running ∧ t.frg.defrost.started = true
            ∧ t.frg.defrost.count = min (s.frg.defrost.count + 1) 65535))
    ∧ (0 < s.frg.applied →
      exec .heaterWindowEnd s = .next { s with frg := { s.frg with outputOn := true, windowSecs := 0 } })
    ∧ (0 < s.frg.applied → s.frg.applied < 1000 → s.frg.outputOn = true →
      exec .heaterOnTimeEnd s = .next { s with frg := { s.frg with outputOn := false } })
    ∧ (s.frg.applied = 1000 → exec .heaterOnTimeEnd s = .next s)
    ∧ (s.frg.defrost.phase = .lockout → s.frg.defrost.lockout = 0 →
      exec .lockoutEnd s = .next { s with frg := { s.frg with defrost := { s.frg.defrost with phase := .idle } } })

/-- A defrost that clears and one that runs out of time: the slot is FREE, the phase LOCKOUT with its own time, and an
incomplete one sets its flag, offers a capture and leaves half a trip of load. The whole record is given where the demand
table is in order and the end is marked in RUNNING or CONFIRM, which every step keeps. An update of the record that reaches
neither end counts elapsed and confirm while DEFROST is the active slot and the extract path regulates, but not in the
second in which its phase was entered. An update that has reached an end keeps it until its row takes it, and an incomplete
one keeps it over a passage between RUNNING and CONFIRM: how an update hands its end to these rows is the model's choice
(log 4). -/
def Obligations.DefrostEnds : Prop :=
  ∀ (s : State),
    (∀ elapsed confirm, s.frg.defrost.endDue = some (.cleared, elapsed, confirm) →
      ∃ t : State, exec .defrostCleared s = .next t
        ∧ t.frg.defrost.phase = .lockout ∧ t.frg.defrost.lockout = s.setting 35
        ∧ t.frg.defrost.lastResult = some .cleared ∧ t.frg.defrost.elapsed = elapsed
        ∧ (ArbOk s.arb → s.endMarked → t.frg.defrost
          = { s.frg.defrost with phase := .lockout, lockout := s.setting 35, lastResult := some .cleared
                                 elapsed := elapsed, confirm := confirm, endDue := none })
        ∧ t.arb.table.defrost = none ∧ SettledFrom [] s t ∧ (s.atRest → t.arb = (s.arb.free .defrost).1))
    ∧ (∀ elapsed confirm, s.frg.defrost.endDue = some (.incomplete, elapsed, confirm) →
      ∃ (t : State) (v : Sup), exec .defrostIncomplete s = .next t
        ∧ t.frg.defrost.phase = .lockout ∧ t.frg.defrost.lockout = s.setting 36
        ∧ t.frg.defrost.lastResult = some .incomplete ∧ t.frg.defrost.elapsed = elapsed
        ∧ (ArbOk s.arb → s.endMarked → t.frg.defrost
          = { s.frg.defrost with phase := .lockout, lockout := s.setting 36, lastResult := some .incomplete
                                 elapsed := elapsed, confirm := confirm, endDue := none })
        ∧ t.frg.load = s.setting 32 / 2
        ∧ FaultTaken s.sup v .defrostIncomplete 0 (min s.frg.load 32767 : Nat) s.osc.uptime
        ∧ t.arb.table.defrost = none ∧ (s.atRest → t.arb = (s.arb.free .defrost).1)
        ∧ SettledFrom [] { s with frg := { s.frg with load := s.setting 32 / 2 }, sup := v } t)
    ∧ (s.frg.defrost.endDue ≠ none → (s.frg.defrost.phase = .running ∨ s.frg.defrost.phase = .confirm) →
      s.defrostSecond = s)
    ∧ (∀ elapsed confirm t, s.frg.defrost.endDue = some (.incomplete, elapsed, confirm) →
      (t = s.confirmEntry ∨ t = s.confirmExit) → ∃ c, t.frg.defrost.endDue = some (.incomplete, elapsed, c))
    ∧ (∀ elapsed confirm, (s.frg.defrost.phase = .running ∨ s.frg.defrost.phase = .confirm) →
      s.frg.defrost.endDue = none →
      elapsed = s.frg.defrost.elapsed + (if s.arb.active = some .defrost ∧ s.afc.extract.state.regulates = true
        ∧ s.frg.defrost.runSince < s.osc.uptime then 1 else 0) →
      confirm = s.frg.defrost.confirm + (if s.arb.active = some .defrost ∧ s.afc.extract.state.regulates = true
        ∧ s.frg.defrost.phase = .confirm ∧ s.frg.defrost.confirmSince < s.osc.uptime then 1 else 0) →
      (60 ≤ confirm → s.defrostSecond.frg.defrost.endDue = some (.cleared, elapsed, confirm))
        ∧ (confirm < 60 → s.setting 34 ≤ elapsed → s.frg.defrost.elapsed < elapsed →
          s.defrostSecond.frg.defrost.endDue = some (.incomplete, elapsed, confirm))
        ∧ (confirm < 60 → elapsed < s.setting 34 → s.defrostSecond.frg.defrost.endDue = none
          ∧ s.defrostSecond.frg.defrost.elapsed = elapsed
          ∧ (s.frg.defrost.phase = .confirm → s.defrostSecond.frg.defrost.confirm = confirm)
          ∧ (s.frg.defrost.phase = .running → (s.defrostSecond.frg.defrost.phase = .confirm
            ↔ s.frg.load = 0 ∧ s.arb.active = some .defrost ∧ s.afc.extract.state.regulates = true
              ∧ ∃ x, s.frg.ehaInUse = some x ∧ settingVal s.osc.working 33 ≤ x))))

/-! ### Sensor bus and humidity -/

/-- The start and the end of a transaction and of a recovery: the line test, the head of the queue as its bytes and
conditions, its outcome at its entry, what has passed by its end, the timeouts in a row, and the third, which faults the bus
and sends the release sequence; so does the first transaction after a reset. That the direction bit is the lowest of the
address byte (log 59), that a sensor may stretch at any moment of a transaction (log 16), that a recovery can end from
1000 ms remaining on (log 18), and that what the line test found shows as the transaction ends (log 65), are the model's
readings. -/
def Obligations.BusTransactions : Prop :=
  ∀ (s : State),
    (s.hum.bus.state = .idle → s.hum.bus.queue ≠ [] → ∃ lead l : List BusItem, exec .transactionStart s
        = .next { s with hum := { s.hum with bus := { s.hum.bus with
            state := .busy, releaseDue := false, flight := lead ++ .lineTest :: l } } }
      ∧ lead = (if s.hum.bus.releaseDue then .release :: List.replicate 9 .clock ++ [.stop] else [])
      ∧ (∀ n rest e, s.hum.bus.queue = (n, .probe) :: rest → s.hum.sensor n = some e →
        l = [.start, .send (BitVec.ofNat 8 (2 * e.address)), .stop])
      ∧ (∀ n rest e, s.hum.bus.queue = (n, .measure) :: rest → s.hum.sensor n = some e →
        l = [.start, .send (BitVec.ofNat 8 (2 * e.address)), .send 0x4D, .start,
          .send (BitVec.ofNat 8 (2 * e.address + 1)), .read true, .read true, .read true, .read true, .read true,
          .read false, .stop]))
    ∧ (s.hum.bus.state = .recovery → s.hum.bus.recovery ≤ 1000 → exec .recoveryEnd s
      = .next { s with hum := { s.hum with bus := { s.hum.bus with state := .idle, recovery := 0, flight := [] } } })
    ∧ (∀ n rest e, s.hum.bus.state = .busy → s.hum.bus.queue = (n, .probe) :: rest → s.hum.sensor n = some e →
      (∀ k : Fin 10, ∃ (t : State) (gone : List BusItem), exec (.probeComplete (.answered k true)) s = .next t
        ∧ (∀ lead tail : List BusItem, .lineTest ∉ lead → s.hum.bus.flight = lead ++ .lineTest :: tail →
          gone = lead ++ List.replicate k.val .clock ++ tail)
        ∧ SettledFrom [] { s with hum := t.hum, sup := t.sup } t
        ∧ (∀ m, m ≠ n → t.hum.sensor m = s.hum.sensor m)
        ∧ (e.state = .probing →
          t.hum.sensor n = some { e with state := .online, failures := 0, pause := none, lastOutcome := some (.probe, .good) }
            ∧ t.hum.bus = { s.hum.bus with state := .idle, timeouts := 0, flight := [], sent := gone, queue :=
              if (n, BusKind.measure) ∈ rest then rest else rest ++ [(n, .measure)] })
        ∧ (e.state ≠ .probing → t.hum.sensor n = some { e with lastOutcome := some (.probe, .good) }
          ∧ t.hum.bus = { s.hum.bus with
              state := .idle, timeouts := 0, queue := rest, flight := [], sent := gone }))
      ∧ (∀ c o, ((∃ k, c = .probeComplete (.answered k false)) ∧ o = BusOutcome.noAck
          ∨ c = .probeComplete .dataLow ∧ o = .noAck ∨ c = .stretchTimeout ∧ o = .stretchTimeout) →
        ∃ t : State, exec c s = .next t
          ∧ SettledFrom [] { s with hum := t.hum, sup := t.sup } t
          ∧ (∀ m, m ≠ n → t.hum.sensor m = s.hum.sensor m)
          ∧ (e.state = .probing → min (e.attempts + 1) 50 < s.setting 38 → t.hum.sensor n
            = some { e with attempts := min (e.attempts + 1) 50, pause := some (s.setting 37)
                            lastOutcome := some (.probe, o) })
          ∧ (e.state = .probing → s.setting 38 ≤ min (e.attempts + 1) 50 → t.hum.sensor n
            = some { e with state := .absent, attempts := min (e.attempts + 1) 50, pause := none
                            lastOutcome := some (.probe, o) })
          ∧ (e.state ≠ .probing → t.hum.sensor n = some { e with lastOutcome := some (.probe, o) })
          ∧ t.hum.bus.queue = rest
          ∧ (o = .noAck → t.hum.bus.state = .idle ∧ t.hum.bus.timeouts = 0)
          ∧ (∀ lead tail : List BusItem, .lineTest ∉ lead → s.hum.bus.flight = lead ++ .lineTest :: tail →
            (∀ k, c = .probeComplete (.answered k false) →
              t.hum.bus.sent = lead ++ List.replicate k.val .clock ++ tail)
            ∧ (c = .probeComplete .dataLow → t.hum.bus.sent = lead ++ List.replicate 9 .clock))))
    ∧ (∀ n k rest, s.hum.bus.state = .busy → s.hum.bus.queue = (n, k) :: rest →
      ∃ (t : State) (gone : List BusItem), exec .stretchTimeout s = .next t ∧ t.hum.bus.queue = rest
        ∧ (∀ lead tail : List BusItem, .lineTest ∉ lead → s.hum.bus.flight = lead ++ .lineTest :: tail →
          ∃ pulses passed, pulses ≤ 9
            ∧ gone = lead ++ (List.replicate pulses BusItem.clock ++ tail.dropLast).take passed ++ [.release])
        ∧ (s.hum.bus.timeouts < 2 → t.hum.bus = { s.hum.bus with
          state := .idle, timeouts := s.hum.bus.timeouts + 1, queue := rest, flight := [], sent := gone })
        ∧ (2 ≤ s.hum.bus.timeouts → t.hum.bus = { s.hum.bus with
            state := .recovery, timeouts := 0, recovery := 5000, faults := min (s.hum.bus.faults + 1) 255, queue := rest
            flight := .release :: List.replicate 9 .clock ++ [.stop], sent := gone }
          ∧ t.sup.flags.get .sensorBusFault = true
          ∧ (s.sup.capture = none → t.sup.capture
            = some (.fault .sensorBusFault 0 (min n 32767 : Nat) s.osc.uptime))))

/-- The outcome of a MEASURE by the first test that applies, for an ONLINE entry: a GOOD reply leaves its values and clears
the failures, another outcome, a stretch timeout or a failed line test among them, is a failure, and the third in a row makes
the entry LOST. A high acknowledge bit ends the transaction after its byte, with a stop condition; that what the line test
found shows as the transaction ends is the model's reading (log 65). An entry in another state records the outcome alone. -/
def Obligations.MeasureReachesEntry : Prop :=
  ∀ (s : State) (n : Nat) (rest : List (Nat × BusKind)) (e : Sensor) (m : MeasureReply),
    s.hum.bus.state = .busy → s.hum.bus.queue = (n, .measure) :: rest → s.hum.sensor n = some e →
    (e.state = .online → ∃ t : State, exec (.measureComplete m) s = .next t
      ∧ SettledFrom [.humidity] { s with hum := t.hum, sup := t.sup } t
      ∧ (∀ g, g ≠ .sensorLost → g ≠ .frostDegraded → g ≠ .runOnCut → g ≠ .noticesLost →
        t.sup.flags.get g = s.sup.flags.get g)
      ∧ (∃ gone : List BusItem, t.hum.bus
          = { s.hum.bus with state := .idle, timeouts := 0, queue := rest, flight := [], sent := gone }
        ∧ ∀ lead tail : List BusItem, .lineTest ∉ lead → s.hum.bus.flight = lead ++ .lineTest :: tail →
          (m = .dataLow → gone = lead ++ List.replicate 9 .clock)
          ∧ (∀ (k : Fin 10) (b0 b1 b2 b3 b4 b5 : Byte), m = .bytes k b0 b1 b2 b3 b4 b5 →
            gone = lead ++ List.replicate k.val .clock ++ tail)
          ∧ (∀ (k : Fin 10) (p : AckPoint) (w c r : Byte) (after : List BusItem), m = .noAck k p →
            tail = [.start, .send w, .send c, .start, .send r] ++ after →
            gone = lead ++ List.replicate k.val .clock ++ (match p with
              | .writeAddress => [.start, .send w]
              | .command => [.start, .send w, .send c]
              | .readAddress => [.start, .send w, .send c, .start, .send r]) ++ [.stop]))
      ∧ (∀ k, k ≠ n → t.hum.sensor k = s.hum.sensor k)
      ∧ (∀ (k : Fin 10) (b0 b1 b2 b3 b4 b5 : Byte) (x : Int), m = .bytes k b0 b1 b2 b3 b4 b5 →
        crc8 [b0, b1, b2, b3, b4] = b5 → x = (b0 ++ b1 : BitVec 16).toInt → -400 ≤ x → x ≤ 800 → be16 b2 b3 ≤ 1050 →
        (b4 = 0 → ∃ e', t.hum.sensor n = some e'
          ∧ { e' with boost := e.boost } = { e with
              lastTemp := some x, lastHum := some (min (be16 b2 b3) 1000), lastStatus := some .ok, failures := 0
              lastGood := some s.osc.uptime, lastOutcome := some (.measure, .good) })
        ∧ (b4 = 1 → t.hum.sensor n = some { e with
              lastTemp := some x, lastHum := some (min (be16 b2 b3) 1000), lastStatus := some .warming, failures := 0
              lastOutcome := some (.measure, .good) }))
      ∧ (∀ o : BusOutcome, (((∃ k p, m = .noAck k p) ∨ m = .dataLow) ∧ o = .noAck
          ∨ ∃ (k : Fin 10) (b0 b1 b2 b3 b4 b5 : Byte), m = .bytes k b0 b1 b2 b3 b4 b5
            ∧ (crc8 [b0, b1, b2, b3, b4] ≠ b5 ∧ o = .crcBad
              ∨ crc8 [b0, b1, b2, b3, b4] = b5 ∧ (b4 = 2 ∧ o = .sensorError
                ∨ b4 ≠ 2 ∧ (2 < b4.toNat ∨ (b0 ++ b1 : BitVec 16).toInt < -400 ∨ 800 < (b0 ++ b1 : BitVec 16).toInt
                  ∨ 1050 < be16 b2 b3) ∧ o = .rangeBad))) →
        (e.failures < 2 → t.hum.sensor n
          = some { e with failures := e.failures + 1, lastOutcome := some (.measure, o) })
        ∧ (2 ≤ e.failures → t.sup.flags.get .sensorLost = true
          ∧ (s.sup.capture = none → t.sup.capture = some (.fault .sensorLost n o.code s.osc.uptime))
          ∧ ∃ e', t.hum.sensor n = some e' ∧ e'.state = .lost ∧ e'.lostTime = 600 ∧ e'.failures = 3
            ∧ e'.lastOutcome = some (.measure, o) ∧ e'.lastHum = e.lastHum ∧ e'.lastGood = e.lastGood
            ∧ (s.hum.active = true → e'.ring = []
              ∧ ∀ b, e.boost = some b → ∃ b', e'.boost = some b' ∧ b'.state = .idle
                ∧ (b.state = .boost → b'.lastEnd = some .loss ∧ b'.time = 0)
                ∧ (b.state = .holdoff → b'.holdoff = 0 ∧ b'.lastEnd = b.lastEnd)))))
    ∧ (e.state = .online → ∃ t : State, exec .stretchTimeout s = .next t
      ∧ SettledFrom [.humidity] { s with hum := t.hum, sup := t.sup } t
      ∧ (∀ k, k ≠ n → t.hum.sensor k = s.hum.sensor k)
      ∧ (e.failures < 2 → t.hum.sensor n
        = some { e with failures := e.failures + 1, lastOutcome := some (.measure, .stretchTimeout) })
      ∧ (2 ≤ e.failures → t.sup.flags.get .sensorLost = true
        ∧ (s.sup.capture = none → s.hum.bus.timeouts < 2 → t.sup.capture = some (.fault .sensorLost n 3 s.osc.uptime))
        ∧ ∃ e', t.hum.sensor n = some e' ∧ e'.state = .lost ∧ e'.lostTime = 600 ∧ e'.failures = 3
          ∧ e'.lastOutcome = some (.measure, .stretchTimeout) ∧ e'.lastHum = e.lastHum ∧ e'.lastGood = e.lastGood
          ∧ (s.hum.active = true → e'.ring = [] ∧ ∀ b, e.boost = some b → b.state = .boost →
            ∃ b', e'.boost = some b' ∧ b'.state = .idle ∧ b'.lastEnd = some .loss ∧ b'.time = 0)))
    ∧ (e.state ≠ .online → ∃ gone : List BusItem,
      exec (.measureComplete m) s = .next { s with hum := { s.hum with
        bus := { s.hum.bus with state := .idle, timeouts := 0, queue := rest, flight := [], sent := gone }
        sensors := s.hum.sensors.set (n - 1) { e with
          lastOutcome := some (.measure, (classifyMeasure m).1) } } })

/-- The poll round, the ends of a probe pause and of a lost time, and the ring tick with the dryness record. That a round or
a tick taken late takes its 10 or 60 s off the timer is the model's choice (log 69). -/
def Obligations.SensorTimersEnd : Prop :=
  ∀ (s : State),
    (∀ m, s.hum.pollTimer = some m → 10 ≤ m →
      exec .pollRound s = .next { s with hum := { s.hum with
        pollTimer := some (m - 10)
        bus := { s.hum.bus with queue := s.hum.bus.queue
          ++ ([1, 2, 3, 4, 5, 6, 7, 8].filter fun n => (s.hum.sensor n).any (·.state == .online)
            && !s.hum.bus.queue.contains (n, .measure)).map fun n => (n, BusKind.measure) } } })
    ∧ (∀ n e, s.hum.sensor n = some e → e.state = .probing → e.pause = some 0 →
      ∃ t : State, exec (.probePauseEnd n) s = .next t ∧ { t with hum := s.hum } = s
        ∧ t.hum.sensor n = some { e with pause := none } ∧ (∀ m, m ≠ n → t.hum.sensor m = s.hum.sensor m)
        ∧ t.hum.bus = { s.hum.bus with queue :=
            if (n, BusKind.probe) ∈ s.hum.bus.queue then s.hum.bus.queue else s.hum.bus.queue ++ [(n, .probe)] })
    ∧ (∀ n e, s.hum.sensor n = some e → e.state = .lost → e.lostTime = 0 →
      ∃ t : State, exec (.lostTimeEnd n) s = .next t ∧ SettledFrom [] { s with hum := t.hum, sup := t.sup } t
        ∧ t.hum.sensor n = some { e with state := .probing, attempts := 0, pause := none, lostTime := 0 }
        ∧ (∀ m, m ≠ n → t.hum.sensor m = s.hum.sensor m)
        ∧ t.hum.bus = { s.hum.bus with queue :=
            if (n, BusKind.probe) ∈ s.hum.bus.queue then s.hum.bus.queue else s.hum.bus.queue ++ [(n, .probe)] })
    ∧ (s.hum.active = true → 60 ≤ s.hum.ringTimer →
      ∃ t : State, exec .ringTick s = .next t ∧ t.hum.ringTimer = s.hum.ringTimer - 60
        ∧ SettledFrom [.humidity, .dryness] { s with hum := t.hum } t
        ∧ (∀ n e, s.hum.sensor n = some e → t.hum.sensor n = some { e with ring :=
            match e.lastHum with
            | some v => if e.fresh s.osc.uptime then e.ring.drop (e.ring.length - 5) ++ [v] else e.ring
            | none => e.ring } ∨ 6 < e.ring.length)
        ∧ (∀ hums : List Nat, hums = (s.hum.sensors.filter fun e => (e.role == .wetRoom || e.role == .dryRoom)
            && e.fresh s.osc.uptime && !(e.boost.any (·.state == .boost))).filterMap (·.lastHum) →
          t.hum.dryCount = hums.length
            ∧ (hums = [] → t.hum.dryAverage = none ∧ t.hum.dryOn = false)
            ∧ (hums ≠ [] → t.hum.dryAverage = some (hums.sum / hums.length)
              ∧ (s.hum.dryOn = false → (t.hum.dryOn = true ↔ hums.sum / hums.length < s.setting 44
                ∧ s.frg.oda.status ≠ .invalid ∧ s.frg.odaInUse < 50))
              ∧ (s.hum.dryOn = true → (t.hum.dryOn = false ↔ s.setting 44 + 50 < hums.sum / hums.length
                ∨ (s.frg.oda.status ≠ .invalid ∧ 80 ≤ s.frg.odaInUse)))))
        ∧ (s.hum.dryOn = false → t.hum.dryOn = true → s.hum.drynessMark = false → s.osc.device = .running →
          s.arb.watch.enabled = false → t.hum.drynessMark = true ∧ ∃ d, t.arb.table.dryness = some d ∧ d.level = 2
            ∧ d.origin = .internal ∧ d.carry = .flows (s.setting 9) (s.setting 9) ∧ d.run = none)
        ∧ (s.hum.drynessMark = true → t.hum.dryOn = false →
          t.hum.drynessMark = false ∧ t.arb.table.dryness = none))

/-- A boost record at a fresh reading, at its limit and at the end of its holdoff, with the HUMIDITY demand it raises. That
an update marks the limit it has reached for the limit's own row is the model's reading (log 2). -/
def Obligations.BoostsStartAndEnd : Prop :=
  ∀ (s : State) (n : Nat) (e : Sensor) (b : Boost), s.hum.sensor n = some e → e.boost = some b →
    (∀ (rest : List (Nat × BusKind)) (pulses : Fin 10) (b0 b1 b2 b3 b5 : Byte) (rh pre : Nat), s.hum.active = true →
      s.hum.bus.state = .busy → s.hum.bus.queue = (n, .measure) :: rest →
      e.state = .online → crc8 [b0, b1, b2, b3, 0] = b5 → -400 ≤ (b0 ++ b1 : BitVec 16).toInt → (b0 ++ b1 : BitVec 16).toInt ≤ 800 →
      be16 b2 b3 ≤ 1050 → rh = min (be16 b2 b3) 1000 →
      (e.ring.length < 3 → pre = rh) → (3 ≤ e.ring.length → pre ∈ e.ring ∧ ∀ v ∈ e.ring, pre ≤ v) →
      ∃ (t : State) (e' : Sensor) (b' : Boost), exec (.measureComplete (.bytes pulses b0 b1 b2 b3 0 b5)) s = .next t
        ∧ t.hum.sensor n = some e' ∧ e'.boost = some b'
        ∧ (b.state = .idle → (s.setting 39 ≤ rh ∨ (3 ≤ e.ring.length ∧ 400 ≤ rh ∧ pre + s.setting 40 ≤ rh)) →
          b' = { b with
            state := .boost, trigger := some (if s.setting 39 ≤ rh then .absolute else .rise)
            startTime := some s.osc.uptime, preRise := some pre, endTarget := some (pre + 30), time := 0
            limitDue := false }
          ∧ ((∀ k f c, s.hum.sensor k = some f → f.boost = some c → c.state ≠ .boost) → s.hum.humidityMark = false →
            s.osc.device = .running → s.arb.watch.enabled = false →
            t.hum.humidityMark = true ∧ ∃ d, t.arb.table.humidity = some d ∧ d.level = 7 ∧ d.origin = .internal
              ∧ d.carry = .flows (s.setting 6) (s.setting 6) ∧ d.run = none))
        ∧ (b.state = .idle → rh < s.setting 39 →
          (e.ring.length < 3 ∨ rh < 400 ∨ rh < pre + s.setting 40) → b' = b)
        ∧ (∀ x, b.state = .boost → b.endTarget = some x →
          (s.setting 41 ≤ b.time → rh ≤ x → rh + 50 < s.setting 39 →
            b' = { b with state := .idle, lastEnd := some .fallen, time := 0, limitDue := false }
              ∧ ((∀ k f c, k ≠ n → s.hum.sensor k = some f → f.boost = some c → c.state ≠ .boost) →
                s.hum.humidityMark = true → t.hum.humidityMark = false ∧ t.arb.table.humidity = none))
          ∧ ((b.time < s.setting 41 ∨ x < rh ∨ s.setting 39 ≤ rh + 50) → b' = b))
        ∧ (b.state = .holdoff → b' = b))
    ∧ (b.state = .boost → b.limitDue = true →
      ∃ t : State, exec (.boostLimit n) s = .next t
        ∧ t.hum.sensor n = some { e with boost := some { b with
            state := .holdoff, holdoff := s.setting 43, lastEnd := some .limit, time := 0, limitDue := false } }
        ∧ (∀ k, k ≠ n → t.hum.sensor k = s.hum.sensor k) ∧ t.hum.bus = s.hum.bus
        ∧ SettledFrom [.humidity] { s with hum := t.hum } t
        ∧ ((∀ k f c, k ≠ n → s.hum.sensor k = some f → f.boost = some c → c.state ≠ .boost) →
          s.hum.humidityMark = true → t.hum.humidityMark = false ∧ t.arb.table.humidity = none))
    ∧ (b.state = .holdoff → b.holdoff = 0 →
      ∃ t : State, exec (.holdoffEnd n) s = .next t ∧ { t with hum := s.hum } = s
        ∧ { t.hum with sensors := s.hum.sensors } = s.hum
        ∧ t.hum.sensor n = some { e with boost := some { b with state := .idle } }
        ∧ ∀ k, k ≠ n → t.hum.sensor k = s.hum.sensor k)

/-! ### Filter monitor -/

/-- A check passes from WAITING to SETTLE when FILTER_CHECK is ACTIVE and no frost cap is in force: at the post, when ARB
reports it ACTIVE, and when the cap is lifted. A preemption takes SETTLE and SAMPLE back to WAITING with a suspension, the
third of which ends the check INTERRUPTED; a cap that comes into force does so without one. A check passes from SETTLE to
SAMPLE, times out and defers; its second counts the waiting, settling and stable times and takes the samples in the band; an
absent flow is outside it. With a scheduled check due, the end of one check starts the
next, which is left to CHECK_FILTERS' statement. That WAITING, SETTLE and SAMPLE stand at the end of their times and counts
until their own rows take them is the model's reading (log 2), and so is the mark of a settle timeout (log 71). -/
def Obligations.CheckPhasesPass : Prop :=
  ∀ (s : State),
    (s.flt.check.phase = .settle → 30 ≤ s.flt.check.stable →
      exec .settleStable s = .next { s with flt := { s.flt with check := { s.flt.check with
        phase := .sample, samples := 0, supplyDp := 0, supplyQ := 0, extractDp := 0, extractQ := 0
        timeoutDue := false } } })
    ∧ (∀ c o flags, (c = .settleTimeout ∧ o = CheckOutcome.settleTimeout ∧ s.flt.check.phase = .settle
          ∧ s.flt.check.timeoutDue = true ∧ flags = s.sup.flags.put .filterCheckFailed true
        ∨ c = .checkWaitingExpired ∧ o = .deferred ∧ s.flt.check.phase = .waiting
          ∧ 21600 ≤ s.flt.check.waiting ∧ flags = s.sup.flags) →
      ∃ t : State, exec c s = .next t ∧ SettledFrom [] { s with sup := { s.sup with flags := flags } } t
        ∧ (s.flt.check.scheduledDue = false → t.flt.check.phase = .idle ∧ t.flt.check.outcome = some o
          ∧ t.flt.check.samples = 0 ∧ t.flt.supply.lastOutcome = some o ∧ t.flt.extract.lastOutcome = some o
          ∧ t.arb.table.filterCheck = none))
    ∧ (s.flt.check.phase = .waiting →
      s.checkSecond.flt.check = { s.flt.check with waiting := min (s.flt.check.waiting + 1) 21600 })
    ∧ ((s.afc.supply.flow = none ∨ s.afc.extract.flow = none) →
      (s.flt.check.phase = .settle → s.flt.check.stable < 30 → s.flt.check.timeoutDue = false →
        s.checkSecond.flt.check = { s.flt.check with
          settle := min (s.flt.check.settle + 1) 180, stable := 0, timeoutDue := decide (179 ≤ s.flt.check.settle) })
      ∧ (s.flt.check.phase = .sample → s.flt.check.samples < 16 → s.checkSecond.flt.check = { s.flt.check with
        phase := .settle, stable := 0, samples := 0, supplyDp := 0, supplyQ := 0, extractDp := 0, extractQ := 0
        timeoutDue := false }))
    ∧ (s.flt.check.phase = .settle → (30 ≤ s.flt.check.stable ∨ s.flt.check.timeoutDue = true) →
      s.checkSecond = s)
    ∧ (∀ ref qs qe : Nat, s.setting 10 = ref → s.afc.supply.flow = some qs → s.afc.extract.flow = some qe →
      s.flt.supply.sensor ≠ .faulted → s.flt.extract.sensor ≠ .faulted →
      (∀ inside : Bool, (inside = true ↔ 100 * qs ≤ 105 * ref ∧ 95 * ref ≤ 100 * qs ∧ 100 * qe ≤ 105 * ref
          ∧ 95 * ref ≤ 100 * qe) →
        (s.flt.check.phase = .settle → s.flt.check.stable < 30 → s.flt.check.timeoutDue = false →
          s.checkSecond.flt.check = { s.flt.check with
            settle := min (s.flt.check.settle + 1) 180
            stable := if inside then s.flt.check.stable + 1 else 0
            timeoutDue := decide (179 ≤ s.flt.check.settle ∧ (inside = true → s.flt.check.stable < 29)) })
        ∧ (∀ v w, s.flt.check.phase = .sample → s.flt.check.samples < 16 → s.flt.supply.raw = .value v →
          s.flt.extract.raw = .value w → s.checkSecond.flt.check = if inside then { s.flt.check with
              samples := s.flt.check.samples + 1
              supplyDp := min (s.flt.check.supplyDp + (v - s.flt.supply.zeroOffset).toNat) 65535
              supplyQ := min (s.flt.check.supplyQ + qs) 65535
              extractDp := min (s.flt.check.extractDp + (w - s.flt.extract.zeroOffset).toNat) 65535
              extractQ := min (s.flt.check.extractQ + qe) 65535 }
            else { s.flt.check with
              phase := .settle, stable := 0, samples := 0, supplyDp := 0, supplyQ := 0, extractDp := 0, extractQ := 0
              timeoutDue := false })))
    ∧ (∀ (c : CheckTrigger) (u : State), s.flt.check.phase = .idle → s.flt.supply.sensor ≠ .faulted →
      s.flt.extract.sensor ≠ .faulted → s.startCheck c = (u, .ok) →
      (u.arb.active = some .filterCheck → u.frg.imbalance = 0 →
        u.flt.check.phase = .settle ∧ u.flt.check.settle = 0 ∧ u.flt.check.stable = 0)
      ∧ ((u.arb.active ≠ some .filterCheck ∨ 0 < u.frg.imbalance) → u.flt.check.phase = .waiting))
    ∧ (∀ x, x ≠ .filterCheck → s.arb.active = some x → (s.arb.free x).1.active = some .filterCheck →
      s.flt.check.phase = .waiting → (s.applyArb (s.arb.free x)).flt.check
        = if s.frg.imbalance = 0 then { s.flt.check with phase := .settle, settle := 0, stable := 0, timeoutDue := false }
          else s.flt.check)
    ∧ (∀ n u, u = { s with frg := { s.frg with imbalance := n } } →
      (0 < s.frg.imbalance → n = 0 →
        (s.flt.check.phase = .waiting → s.arb.active = some .filterCheck → s.setImbalance n
          = { u with flt := { u.flt with check := { u.flt.check with
              phase := .settle, settle := 0, stable := 0, timeoutDue := false } } })
        ∧ ((s.flt.check.phase ≠ .waiting ∨ s.arb.active ≠ some .filterCheck) → s.setImbalance n = u))
      ∧ (s.frg.imbalance = 0 → 0 < n →
        ((s.flt.check.phase = .settle ∨ s.flt.check.phase = .sample) → s.setImbalance n
          = { u with flt := { u.flt with check := { u.flt.check with
              phase := .waiting, stable := 0, samples := 0, supplyDp := 0, supplyQ := 0, extractDp := 0, extractQ := 0
              timeoutDue := false } } })
        ∧ ((s.flt.check.phase = .idle ∨ s.flt.check.phase = .waiting) → s.setImbalance n = u)))
    ∧ (∀ (x : Slot) (p : PostArgs) (t : State), s.arb.active = some .filterCheck → s.arb.table.get x = none →
      x ≠ .filterCheck → s.arb.level .filterCheck < p.level → t = s.applyArb (s.arb.post x p s.osc.uptime) →
      t.arb.active = some x
      ∧ (s.flt.check.phase = .waiting → t.flt = s.flt)
      ∧ ((s.flt.check.phase = .settle ∨ s.flt.check.phase = .sample) →
        (s.flt.check.suspensions < 2 → t.flt = { s.flt with check := { s.flt.check with
          phase := .waiting, suspensions := s.flt.check.suspensions + 1, stable := 0
          samples := 0, supplyDp := 0, supplyQ := 0, extractDp := 0, extractQ := 0, timeoutDue := false } })
        ∧ (2 ≤ s.flt.check.suspensions → t.flt.check.phase = .idle ∧ t.flt.check.outcome = some .interrupted
          ∧ t.flt.check.samples = 0 ∧ t.flt.supply.lastOutcome = some .interrupted
          ∧ t.flt.extract.lastOutcome = some .interrupted ∧ t.arb.table.filterCheck = none)))

/-- The evaluation of a check: averages, scaling to the reference flow, baseline or loading, history and projection, and the
completion with its state, outcome and persisted block. -/
def Obligations.EvaluateCompletes : Prop :=
  ∀ (s : State), s.flt.check.phase = .sample → 16 ≤ s.flt.check.samples →
    ∃ t : State, exec .evaluate s = .next t
      ∧ (∀ (i : PathId) (dp q ref p limit : Nat) (old new : FilterData),
        dp = (match i with | .supply => s.flt.check.supplyDp | .extract => s.flt.check.extractDp) / 16 →
        q = (match i with | .supply => s.flt.check.supplyQ | .extract => s.flt.check.extractQ) / 16 →
        ref = s.setting 10 → limit = s.setting (62 + pathCode i) → 0 < q →
        p = min 1200 ((dp * ref ^ 2 + q ^ 2 / 2) / q ^ 2) →
        old = (s.flt.filter i).data → new = (t.flt.filter i).data →
        new.lastRef = some p ∧ new.hoursSinceChange = old.hoursSinceChange
          ∧ (old.baseline = none → new.baseline = some p ∧ new.loading = some 0)
          ∧ (∀ base, old.baseline = some base → new.baseline = some base
            ∧ (limit ≤ base → new.loading = some 100)
            ∧ (base < limit → p < base → new.loading = some 0)
            ∧ (base < limit → base ≤ p → new.loading = some (min 100 ((p - base) * 100 / (limit - base)))))
          ∧ (old.history.length < 8 → new.history = old.history ++ [(s.flt.runHours, p)])
          ∧ (old.history.length = 8 → new.history = old.history.drop 1 ++ [(s.flt.runHours, p)])
          ∧ (∀ h1 p1 rest, new.history = (h1, p1) :: rest →
            ((rest = [] ∨ p ≤ p1 ∨ s.flt.runHours ≤ h1) → new.projected = none)
            ∧ (rest ≠ [] → p1 < p → h1 < s.flt.runHours → limit ≤ p → new.projected = some 0)
            ∧ (rest ≠ [] → p1 < p → h1 < s.flt.runHours → p < limit →
              new.projected = some (min 65535 ((limit - p) * (s.flt.runHours - h1) / (p - p1)))))
          ∧ (t.flt.filter i).sensor
            = (if (s.flt.filter i).sensor = .unverified then .healthy else (s.flt.filter i).sensor)
          ∧ ((s.flt.filter i).sensor ≠ .faulted → (t.flt.filter i).state
            = if 100 ≤ new.loading.getD 0 ∨ s.setting 64 ≤ new.hoursSinceChange then
                (if 720 < old.hoursSinceDue then .overdue else .due)
              else if 50 ≤ new.loading.getD 0 then .loading else .clean)
          ∧ ((t.flt.filter i).state.isDue = true → (s.flt.filter i).state.isDue = false →
            t.sup.flags.get .filterDue = true))
      ∧ (s.flt.check.scheduledDue = false → t.flt.check.phase = .idle ∧ t.flt.check.outcome = some .completed
        ∧ t.flt.supply.lastOutcome = some .completed ∧ t.flt.extract.lastOutcome = some .completed
        ∧ t.arb.table.filterCheck = none)
      ∧ t.flt.check.lastCompleted = some s.osc.uptime
      ∧ (s.flt.writing = none → s.flt.check.scheduledDue = false →
        ∃ w, t.flt.writing = some w ∧ w.snapshot = t.flt.block)
      ∧ (s.flt.writing ≠ none → t.flt.writing = s.flt.writing ∧ t.flt.again = true)
      ∧ t.flt.runHours = s.flt.runHours ∧ t.flt.door = s.flt.door
      ∧ SettledFrom [] { s with flt := t.flt, sup := t.sup } t

/-- A run hour counts the hours, makes a check due and persists every 24th; the service timer's end closes the service, or
reports the open door again. That the end is marked and then taken by its own row (log 38), that the run hours stop at their
last value (log 54) and that a completed hour is counted until RUN_HOUR takes it (log 67) are the model's choices. -/
def Obligations.RunHourAndServiceTimer : Prop :=
  ∀ (s : State),
    (0 < s.flt.hoursDue →
      ∃ t : State, exec .runHour s = .next t ∧ t.flt.hoursDue = s.flt.hoursDue - 1
        ∧ t.flt.accumulator = s.flt.accumulator
        ∧ t.flt.runHours = min (s.flt.runHours + 1) 4294967295
        ∧ (∀ i, (t.flt.filter i).data.hoursSinceChange = min ((s.flt.filter i).data.hoursSinceChange + 1) 65535
          ∧ (t.flt.filter i).data.history = (s.flt.filter i).data.history
          ∧ (t.flt.filter i).data.baseline = (s.flt.filter i).data.baseline
          ∧ ((s.flt.filter i).state.isDue = true → (t.flt.filter i).state.isDue = true →
            (t.flt.filter i).data.hoursSinceDue = min ((s.flt.filter i).data.hoursSinceDue + 1) 65535))
        ∧ (s.flt.check.scheduledDue = false → min (s.flt.check.hoursSinceCheck + 1) 65535 < s.setting 65 →
          t.flt.check.hoursSinceCheck = min (s.flt.check.hoursSinceCheck + 1) 65535
            ∧ t.flt.check.scheduledDue = false)
        ∧ (s.setting 65 ≤ min (s.flt.check.hoursSinceCheck + 1) 65535 →
          (s.osc.device ≠ .running → t.flt.check.scheduledDue = true)
          ∧ (s.osc.device = .running → s.flt.check.phase = .idle → s.flt.supply.sensor ≠ .faulted →
            s.flt.extract.sensor ≠ .faulted → s.arb.watch.enabled = false →
            t.flt.check.trigger = some .scheduled ∧ t.flt.check.scheduledDue = false ∧ t.flt.check.hoursSinceCheck = 0
              ∧ (t.flt.check.phase = .waiting ∨ t.flt.check.phase = .settle)))
        ∧ (t.flt.runHours % 24 ≠ 0 → t.flt.writing = s.flt.writing ∧ t.flt.again = s.flt.again)
        ∧ (t.flt.runHours % 24 = 0 → s.flt.writing = none →
          ∃ w, t.flt.writing = some w ∧ w.snapshot.runHours = t.flt.runHours
            ∧ w.snapshot.supply = t.flt.supply.data ∧ w.snapshot.extract = t.flt.extract.data)
        ∧ (t.flt.runHours % 24 = 0 → s.flt.writing ≠ none → t.flt.writing = s.flt.writing ∧ t.flt.again = true)
        ∧ (∀ g, g ≠ .filterDue → g ≠ .runOnCut → g ≠ .noticesLost → t.sup.flags.get g = s.sup.flags.get g)
        ∧ SettledFrom [] { s with flt := t.flt, sup := t.sup } t)
    ∧ (s.osc.device = .filterService → s.flt.serviceEndDue = true →
      (s.flt.door = .closed → ∃ t : State, exec .serviceTimerEnd s = .next t ∧ t.osc.device = .running
        ∧ t.flt.serviceTimer = 0 ∧ t.flt.serviceEndDue = false
        ∧ SettledFrom [.humidity, .dryness] { s with osc := { s.osc with device := .running }, hum := t.hum } t)
      ∧ (s.flt.door = .opened → exec .serviceTimerEnd s
        = .next ({ s with flt := { s.flt with serviceEndDue := false } }.raise .door 0 0)))

/-! ### Start-up, inputs -/

/-- The end of the zeroing: the zero offsets are the means of the eight readings, 0 with PRESSURE_FAULT where they cannot be,
and the device enters RUNNING, or DOOR_OPEN where the door is reported open. From STARTING the load takes its start
value, the relays are released and the humidity response and the poll timer start; from WAKING those are kept, and a
SUSPENDED defrost posts DEFROST again. The load is stated where the extract flow reads 0; that a FAULTED extract path's
flow still does at the entry's evaluation is the model's choice (log 49). -/
def Obligations.ZeroingCompletes : Prop :=
  ∀ (s : State), (s.osc.device = .starting ∨ s.osc.device = .waking) → 18 ≤ s.osc.stoppedSecs →
    ∃ t : State, exec .zeroingComplete s = .next t
      ∧ t.osc = { s.osc with device := if s.flt.door = .opened then .doorOpen else .running }
      ∧ (∀ (i : PathId) (sum z : Int) (fault : Bool),
        (sum = (s.afc.path i).zeroSum ∧ fault = (s.afc.path i).zeroFault ∧ z = (t.afc.path i).zeroOffset
          ∨ sum = (s.flt.filter i).zeroSum ∧ fault = (s.flt.filter i).zeroFault ∧ z = (t.flt.filter i).zeroOffset) →
        (fault = true → z = 0)
        ∧ (fault = false → -20 ≤ sum.tdiv 8 → sum.tdiv 8 ≤ 20 → z = sum.tdiv 8)
        ∧ (fault = false → (sum.tdiv 8 < -20 ∨ 20 < sum.tdiv 8) → z = 0 ∧ t.sup.flags.get .pressureFault = true))
      ∧ t.frg.evalTimer = 0 ∧ t.dio.channels = s.dio.channels ∧ t.pending = s.pending ∧ t.sup.owner = s.sup.owner
      ∧ (s.demandsOk → t.arb.active ≠ none ∧ ∃ d, t.arb.table.base = some d)
      ∧ (s.dio.asserted .fire = true → ∃ d, t.arb.table.fire = some d ∧ d.level = 15 ∧ t.dio.fireMark = true)
      ∧ (s.osc.device = .starting → t.dio.released = true ∧ t.hum.active = true ∧ t.hum.pollTimer = some 0
        ∧ t.hum.ringTimer = 0
        ∧ (s.afc.extract.flow = some 0 → s.frg.load = 0 → s.setting 32 ≤ 30000 →
          t.frg.load = if s.frg.odaInUse < -100 then s.setting 32 / 2 else 0))
      ∧ (s.osc.device = .waking → s.frg.defrost.phase = .suspended → ∃ d, t.arb.table.defrost = some d ∧ d.level = 13
        ∧ d.origin = .internal ∧ d.carry = .flows 0 (s.setting 11) ∧ d.run = none)
      ∧ (s.osc.device = .waking → t.dio.released = s.dio.released ∧ t.hum.active = s.hum.active
        ∧ t.hum.pollTimer = s.hum.pollTimer ∧ t.hum.bus = s.hum.bus
        ∧ (s.afc.extract.flow = some 0 → s.frg.load ≤ 65535 → t.frg.load = s.frg.load))

/-- A raw contact, and a line that has held its raw state: the contact follows, the debounce time is 0, and a function
that becomes asserted or deasserted posts, renews, withdraws or reports as its own rules say; a contact established for
the first time posts nothing. A post or a renewal that the watch blocks leaves the table as it was, and the blocked renewal
withdraws its slot. The cutout line reports to the heater, and its capture carries the duty just before. -/
def Obligations.InputsDebounced : Prop :=
  ∀ (s : State),
    (∀ c, exec (.rawContactChange .cutout c) s = .next { s with dio := { s.dio with cutRaw := c } })
    ∧ (∀ n c, ∃ t : State, exec (.rawContactChange (.input n) c) s = .next t ∧ { t with dio := s.dio } = s
      ∧ { t.dio with channels := s.dio.channels } = s.dio
      ∧ (∀ ch, s.dio.channel n = some ch →
        t.dio.channel n = some (if ch.raw = c then ch else { ch with raw := c, debounce := 0 }))
      ∧ ∀ k, k ≠ n → t.dio.channel k = s.dio.channel k)
    ∧ (∀ c, s.dio.cutRaw = c → s.dio.cutContact ≠ some c →
      ∃ t : State, exec .cutoutDebounced s = .next t ∧ t.frg.cutout = c ∧ t.dio = { s.dio with cutContact := some c }
        ∧ SettledFrom [] { s with frg := { s.frg with cutout := c }, dio := t.dio, sup := t.sup } t
        ∧ (∀ g, g ≠ .heaterCutout → g ≠ .runOnCut → g ≠ .noticesLost → t.sup.flags.get g = s.sup.flags.get g)
        ∧ (c = .opened → t.frg.applied = 0 ∧ t.sup.flags.get .heaterCutout = true ∧ t.sup.capture ≠ none
          ∧ (s.atRest → s.sup.capture = none →
            t.sup.capture = some (.fault .heaterCutout 0 0 s.osc.uptime))
          ∧ (s.cutCondition = none → s.flt.startTestDue = false → s.sup.capture = none →
            t.sup.capture = some (.fault .heaterCutout 0 (min s.frg.applied 32767 : Nat) s.osc.uptime)))
        ∧ (c = .closed → t.sup.flags.get .heaterCutout = s.sup.flags.get .heaterCutout))
    ∧ (∀ (n : Nat) (ch : Channel) (d : Dio), s.dio.channel n = some ch → ch.contact ≠ some ch.raw →
      d = s.dio.updChannel n (fun k => { k with contact := some k.raw, debounce := 0 }) →
      (d.asserted ch.function = s.dio.asserted ch.function → exec (.inputDebounced n) s = .next { s with dio := d })
      ∧ (ch.contact = none → d.asserted ch.function = true → s.dio.asserted ch.function = false →
        (ch.function = .boost ∨ ch.function = .hood → exec (.inputDebounced n) s = .next { s with dio := d })
        ∧ (ch.function = .fire → exec (.inputDebounced n) s = .next { s with
          dio := d, sup := { s.sup with flags := s.sup.flags.put .fireInput true } }))
      ∧ (∀ (x : Slot) (level : Nat) (carry : Carry), ch.contact ≠ none →
        (ch.function = .boost ∧ x = .inputBoost ∧ level = s.setting 13
            ∧ carry = .flows (s.setting 6) (s.setting 6)
          ∨ ch.function = .hood ∧ x = .inputHood ∧ level = s.setting 14
            ∧ carry = .flows (s.setting 7) (s.setting 8)) →
        (s.dio.asserted ch.function = false → d.asserted ch.function = true →
          (s.osc.device.posting = false → exec (.inputDebounced n) s = .next { s with dio := d })
          ∧ (s.osc.device.posting = true → s.arb.watch.enabled = false → 0 < s.setting 15 →
            ∃ t : State, exec (.inputDebounced n) s = .next t ∧ SettledFrom [x] { s with dio := t.dio } t
              ∧ t.dio = { d with boostMark := d.boostMark || x == .inputBoost, hoodMark := d.hoodMark || x == .inputHood }
              ∧ ∃ e, t.arb.table.get x = some e ∧ e.level = level ∧ e.origin = .internal ∧ e.carry = carry
                ∧ e.run = if s.dio.level ch.function then none else some (s.setting 15))
          ∧ (s.osc.device.posting = true → s.arb.watch.hits x (s.arb.isFree x) level = true → s.arb.watch.action = .block →
            (∀ k, s.sup.capture = some k → k.isFault = false) →
            ∃ t : State, exec (.inputDebounced n) s = .next t ∧ SettledFrom [] { s with dio := d, sup := t.sup } t
              ∧ (s.sup.capture = none → t.sup.capture = some (.watch x .internal level level carry.figures.1
                carry.figures.2 none s.osc.uptime))
              ∧ (s.sup.capture ≠ none → t.sup.capture = s.sup.capture)
              ∧ (s.atRest → t.arb = s.arb
                ∧ t.sup.missed = if s.sup.capture = none then 0 else min (s.sup.missed + 1) 255)))
        ∧ (s.dio.asserted ch.function = true → d.asserted ch.function = false →
          ((s.osc.device.posting = false ∨ s.dio.level ch.function = false
              ∨ (x = .inputBoost ∧ s.dio.boostMark = false ∨ x = .inputHood ∧ s.dio.hoodMark = false)) →
            exec (.inputDebounced n) s = .next { s with dio := d })
          ∧ (s.osc.device.posting = true → s.dio.level ch.function = true → s.arb.watch.enabled = false →
            (x = .inputBoost ∧ s.dio.boostMark = true ∨ x = .inputHood ∧ s.dio.hoodMark = true) → 0 < s.setting 16 →
            ∃ t : State, exec (.inputDebounced n) s = .next t ∧ SettledFrom [x] { s with dio := d } t
              ∧ ∃ e, t.arb.table.get x = some e ∧ e.level = level ∧ e.origin = .internal ∧ e.carry = carry
                ∧ e.run = some (s.setting 16))
          ∧ (s.osc.device.posting = true → s.dio.level ch.function = true →
            (x = .inputBoost ∧ s.dio.boostMark = true ∨ x = .inputHood ∧ s.dio.hoodMark = true) →
            s.arb.watch.hits x (s.arb.isFree x) level = true → s.arb.watch.action = .block →
            (∀ k, s.sup.capture = some k → k.isFault = false) →
            ∃ t : State, exec (.inputDebounced n) s = .next t ∧ t.arb.table.get x = none
              ∧ t.dio = { d with boostMark := d.boostMark && x != .inputBoost, hoodMark := d.hoodMark && x != .inputHood }
              ∧ SettledFrom [x] { s with dio := t.dio, sup := t.sup } t
              ∧ (s.sup.capture = none → t.sup.capture = some (.watch x .internal level level carry.figures.1
                carry.figures.2 none s.osc.uptime))
              ∧ (s.sup.capture ≠ none → t.sup.capture = s.sup.capture)
              ∧ (s.atRest → t.arb = (s.arb.free x).1
                ∧ t.sup.missed = if s.sup.capture = none then 0 else min (s.sup.missed + 1) 255))))
      ∧ (ch.function = .fire → ch.contact ≠ none →
        (s.dio.asserted .fire = false → d.asserted .fire = true →
          ∃ t : State, exec (.inputDebounced n) s = .next t ∧ t.sup.flags.get .fireInput = true
            ∧ SettledFrom [.fire] { s with
                dio := t.dio, sup := { s.sup with flags := s.sup.flags.put .fireInput true } } t
            ∧ (s.osc.device.posting = true → t.dio.fireMark = true
              ∧ ∃ e, t.arb.table.fire = some e ∧ e.level = 15 ∧ e.origin = .internal ∧ e.run = none
                ∧ e.carry = .flows 0 (if s.inUse 17 = 1 then s.inUse 12 else 0))
            ∧ (s.osc.device.posting = false → t.dio = d))
        ∧ (s.dio.asserted .fire = true → d.asserted .fire = false →
          ∃ t : State, exec (.inputDebounced n) s = .next t ∧ t.arb.table.fire = none
            ∧ t.dio = { d with fireMark := false } ∧ SettledFrom [.fire] { s with dio := t.dio } t))
      ∧ (ch.function = .filterDoor →
        (s.dio.asserted .filterDoor = false → d.asserted .filterDoor = true →
          ∃ t : State, exec (.inputDebounced n) s = .next t ∧ t.flt.door = .opened ∧ t.dio = d
            ∧ (s.osc.device = .running → t.osc.device = .doorOpen ∧ t.sup.flags.get .doorUnplanned = true
              ∧ t.flt.check.phase = .idle ∧ t.frg.applied = 0
              ∧ (s.flt.check.phase ≠ .idle → t.flt.check.outcome = some .door ∧ t.arb.table.filterCheck = none))
            ∧ (s.osc.device = .servicePrepare → t.osc.device = .filterService)
            ∧ (s.osc.device ≠ .running → s.osc.device ≠ .servicePrepare → t.osc = s.osc ∧ t.arb = s.arb))
        ∧ (ch.contact ≠ none → s.dio.asserted .filterDoor = true → d.asserted .filterDoor = false →
          ∃ t : State, exec (.inputDebounced n) s = .next t ∧ t.flt.door = .closed ∧ t.dio = d
            ∧ ((s.osc.device = .doorOpen ∨ s.osc.device = .filterService ∧ s.flt.serviceTimer = 0) →
              t.osc.device = .running)
            ∧ (s.osc.device ≠ .doorOpen → (s.osc.device ≠ .filterService ∨ 0 < s.flt.serviceTimer) →
              t.osc = s.osc ∧ t.arb = s.arb))))

/-! ### Targets, extract humidity, relays, notices -/

/-- Target resolution in each of its cases, the targets reaching the paths (the extract path first, log 6), and the state
and duty that a path takes under a new target or under MANUAL. That a manual duty of 0 stops a path in SPINUP or STALLED is
the model's reading (log 27). -/
def Obligations.TargetsMovePaths : Prop :=
  (∀ (s : State) (stopped : Bool),
    (stopped = true ↔ s.osc.device = .starting ∨ s.osc.device = .waking ∨ s.osc.device = .standby ∨ s.osc.device = .doorOpen
      ∨ s.osc.device = .filterService) →
    (stopped = true → s.resolve = (some 0, some 0) ∧ s.manualDuties = none)
    ∧ (stopped = false → s.arb.active = none → s.resolve = (some 0, some 0) ∧ s.manualDuties = none)
    ∧ (∀ d a b, stopped = false → s.arb.active = some .manual → s.arb.table.manual = some d → d.carry = .duties a b →
      s.resolve = (none, none) ∧ s.manualDuties = some (a, b))
    ∧ (∀ x d a b, stopped = false → s.arb.active = some x → x ≠ .manual → s.arb.table.get x = some d →
      (d.carry = .flows a b ∨ d.carry = .baseFlow ∧ a = s.setting 1 ∧ b = s.setting 1) →
      s.manualDuties = none
        ∧ (x = .fire → s.resolve = (some a, some b))
        ∧ (∀ hood capped raised, x ≠ .fire → hood = min a (b + s.setting 4) →
          capped = (if 0 < s.frg.imbalance then min hood (max (s.setting 2) (b * (100 - s.frg.imbalance) / 100)) else hood) →
          raised = (if 0 < s.frg.runOn then max capped (s.setting 5) else capped) →
          s.resolve = (some (if s.afc.extract.state = .stalled ∨ s.afc.extract.state = .failed then 0 else raised), some b)))
    ∧ s.serveFans.afc.extract = s.afc.extract.serve (s.serveArgs .extract)
    ∧ s.serveFans.afc.supply = s.afc.supply.serve ((s.servePath .extract).serveArgs .supply)
    ∧ s.serveArgs .supply = { s.serveArgs .extract with
      target := s.resolve.1, manual := s.manualDuties.map fun d => d.1 })
  ∧ (∀ (p : FanPath) (v : Serve) (q : FanPath), q = p.serve v →
    q.target = v.target ∧ q.flow = p.flow ∧ q.speed = p.speed ∧ q.faulted = p.faulted ∧ q.zeroOffset = p.zeroOffset
      ∧ q.raw = p.raw ∧ q.retryCount = p.retryCount
    ∧ (p.state = .failed → q.state = .failed ∧ q.duty = p.duty)
    ∧ (v.manual = none → v.target = some 0 → p.state ≠ .failed → q.state = .off
      ∧ (p.state ≠ .off → q.duty = 0 ∧ q.spinupTime = 0 ∧ q.retryTime = 0 ∧ q.goodTime = 0 ∧ q.goodTiming = false
        ∧ q.stallTime = 0 ∧ q.shortfallTime = 0 ∧ q.shortfallStanding = false))
    ∧ (∀ goal, v.manual = none → v.target = some goal → 0 < goal →
      (p.state = .off → q.state = .spinup ∧ q.duty = v.startDuty ∧ q.spinupTime = 0)
      ∧ ((p.state = .spinup ∨ p.state = .stalled ∨ p.state = .regulating ∨ p.state = .saturated) →
        q.state = p.state ∧ q.duty = p.duty ∧ q.spinupTime = p.spinupTime ∧ q.retryTime = p.retryTime)
      ∧ (p.state = .hold → q.state = .hold
        ∧ (∀ old, p.target = some old → 0 < old → old ≠ goal → v.minDuty ≤ 1000 →
          q.duty = max v.minDuty (min (p.duty * goal / old) 1000))
        ∧ ((p.target = some goal ∨ p.target = some 0 ∨ p.target = none) → q.duty = p.duty))
      ∧ (p.state = .manual →
        (v.stallSpeed ≤ p.speed → v.minDuty ≤ 1000 → q.duty = max v.minDuty (min p.duty 1000)
          ∧ q.state = if p.faulted then .hold else .regulating)
        ∧ (p.speed < v.stallSpeed → q.state = .spinup ∧ q.duty = v.startDuty ∧ q.spinupTime = 0)))
    ∧ (∀ duty, v.manual = some duty →
      ((p.state = .regulating ∨ p.state = .saturated ∨ p.state = .hold ∨ p.state = .manual
          ∨ p.state = .off ∧ v.becameManual = true) → q.state = .manual ∧ q.duty = duty)
      ∧ (p.state = .off → v.becameManual = false →
        (0 < duty → q.state = .spinup ∧ q.duty = v.startDuty ∧ q.spinupTime = 0) ∧ (duty = 0 → q.state = .off))
      ∧ ((p.state = .spinup ∨ p.state = .stalled) →
        (0 < duty → q.state = p.state ∧ q.duty = p.duty) ∧ (duty = 0 → q.state = .off ∧ q.duty = 0))))

/-- The extract humidity value and its tier, once the response is active: the fresh reading of the EXTRACT_DUCT entry, else
the greatest of the fresh room readings, else "fallback humidity", whose arrival sets FROST_DEGRADED. Nothing else changes;
every second derives it anew. -/
def Obligations.ExtractHumidityDerived : Prop :=
  ∀ (s : State),
    (∀ (e : Sensor) (now : Nat), e.fresh now = true ↔ e.state = .online ∧ e.lastStatus = some .ok
      ∧ ∃ u, e.lastGood = some u ∧ now - u ≤ 30)
    ∧ (s.hum.active = false → s.deriveHumidity = s)
    ∧ (s.hum.active = true → ∃ v : Nat × Tier,
      s.deriveHumidity = { s with
        hum := { s.hum with extract := some v }
        sup := { s.sup with flags := if v.2 = .fallback ∧ (∀ w, s.hum.extract = some w → w.2 ≠ .fallback)
          then s.sup.flags.put .frostDegraded true else s.sup.flags } }
      ∧ (∀ n e h, s.hum.sensor n = some e → e.role = .extractDuct → e.freshHum s.osc.uptime = some h →
        (∀ m g, m ≠ n → s.hum.sensor m = some g → g.role ≠ .extractDuct) → v = (h, .duct))
      ∧ ((∀ n e, s.hum.sensor n = some e → e.role = .extractDuct → e.freshHum s.osc.uptime = none) →
        (∀ n e h, s.hum.sensor n = some e → (e.role = .wetRoom ∨ e.role = .dryRoom) →
          e.freshHum s.osc.uptime = some h →
          (∀ m g k, s.hum.sensor m = some g → (g.role = .wetRoom ∨ g.role = .dryRoom) →
            g.freshHum s.osc.uptime = some k → k ≤ h) → v = (h, .rooms))
        ∧ ((∀ n e, s.hum.sensor n = some e → (e.role = .wetRoom ∨ e.role = .dryRoom) →
          e.freshHum s.osc.uptime = none) → v = (s.setting 45, .fallback))))
    ∧ (∀ r, s.hum.active = true → s.osc.uptime < 4294967295 → ∃ t : State, exec (.uptimeTick r) s = .next t
      ∧ t.hum.extract = some (t.hum.extractNow (s.osc.uptime + 1) (s.setting 45))
      ∧ ((t.hum.extractNow (s.osc.uptime + 1) (s.setting 45)).2 = .fallback →
        (∀ w, s.hum.extract = some w → w.2 ≠ .fallback) → t.sup.flags.get .frostDegraded = true))

/-- A relay stays DE_ENERGISED until it is released and then follows the condition of its function. -/
def Obligations.RelaysFollowFunction : Prop :=
  ∀ (s : State) (n : Nat),
    (s.dio.released = false → s.relay n = false)
    ∧ (s.dio.released = true →
      (s.setting (78 + n) = 0 → s.relay n = false)
      ∧ (s.setting (78 + n) = 1 → (s.relay n = true ↔ ∃ i, (s.afc.path i).state = .spinup
        ∨ (s.afc.path i).state = .regulating ∨ (s.afc.path i).state = .saturated ∨ (s.afc.path i).state = .hold
        ∨ (s.afc.path i).state = .manual ∧ 0 < (s.afc.path i).duty))
      ∧ (s.setting (78 + n) = 2 → (s.relay n = true ↔ ∃ x d, s.arb.active = some x ∧ s.arb.table.get x = some d
        ∧ 7 ≤ d.level))
      ∧ (s.setting (78 + n) = 3 →
        (s.relay n = true ↔ s.frg.defrost.phase = .running ∨ s.frg.defrost.phase = .confirm))
      ∧ (s.setting (78 + n) = 4 →
        (s.relay n = true ↔ ∃ i, (s.flt.filter i).state = .due ∨ (s.flt.filter i).state = .overdue))
      ∧ (s.setting (78 + n) = 5 → (s.relay n = true ↔ ∃ g : Flag,
        (settingVal s.osc.working (80 + n)).toNat / 2 ^ (g.code - 1) % 2 = 1 ∧ s.sup.flags.get g = true)))

/-- The notice of each event, with its subject and value: a new active slot, a path's state, a shortfall, the device state, a
defrost's start and end, a boost's start and end, a sensor's state, a check's end, a filter's state, a door report, a
capture taken and a settings store. Each statement is of the operation that every row with that event runs; FROST_STAGE
stands with the stage. That FLOW_SHORTFALL comes before the notices of the check that the shortfall prompts is the model's
choice (log 72). -/
def Obligations.EventsRaiseNotices : Prop :=
  (∀ (s : State) (b : Arb),
    (b.active = s.arb.active → s.applyArb (b, []) = { s with arb := b })
    ∧ (∀ x, b.active ≠ s.arb.active → b.active = some x → s.applyArb (b, [])
      = { s with arb := b }.raise .demandChanged x.code
        (b.level x * 65536 + (match s.arb.active with | some y => y.code | none => 0) : Nat))
    ∧ (∀ y, b.active = none → s.arb.active = some y → s.applyArb (b, [])
      = { s with arb := b }.raise .demandChanged 0 (y.code : Nat)))
  ∧ (∀ (s : State) (i : PathId) (p : FanPath),
    (p.state = (s.afc.path i).state → s.movePath i p = { s with afc := s.afc.setPath i p })
    ∧ (p.state ≠ (s.afc.path i).state → s.movePath i p
      = { s with afc := s.afc.setPath i p }.raise .fanState (match i with | .supply => 0 | .extract => 1)
        (match p.state with
          | .off => 0 | .spinup => 1 | .regulating => 2 | .saturated => 3 | .hold => 4 | .manual => 5 | .stalled => 6
          | .failed => 7)))
  ∧ (∀ (s : State) (i : PathId) (q goal : Nat), 60 ≤ (s.afc.path i).shortfallTime →
    (s.afc.path i).shortfallStanding = false → (s.afc.path i).state = .saturated → (s.afc.path i).flow = some q →
    (s.afc.path i).target = some goal → q * 100 < goal * 90 →
    exec (.shortfallReported i) s = .next ({ s with
        afc := s.afc.setPath i { s.afc.path i with shortfallStanding := true }
        sup := { s.sup with flags := s.sup.flags.put (shortfallFlag i) true } }.raise .flowShortfall
      (match i with | .supply => 0 | .extract => 1) q).shortfallPrompt.propagate)
  ∧ (∀ (s : State) (c : Contact) (u : State),
    u = { s with flt := { s.flt with door := c } }.raise .door 0 (match c with | .opened => 0 | .closed => 1) →
    (s.osc.device = .running → c = .opened → s.doorReport c = u.enterDoorOpen)
    ∧ (s.osc.device = .servicePrepare → c = .opened → s.doorReport c = u.enterFilterService.propagate)
    ∧ ((s.osc.device = .doorOpen ∨ s.osc.device = .filterService ∧ s.flt.serviceTimer = 0) → c = .closed →
      s.doorReport c = u.returnToRunning)
    ∧ ((c = .opened → s.osc.device ≠ .running ∧ s.osc.device ≠ .servicePrepare) →
      (c = .closed → s.osc.device ≠ .doorOpen ∧ (s.osc.device = .filterService → 0 < s.flt.serviceTimer)) →
      s.doorReport c = u))
  ∧ (∀ (s : State) (d : DevState), s.setDevice d
    = { s with osc := { s.osc with device := d } }.raise .stateChanged 0 (match d with
      | .starting => 0 | .running => 1 | .doorOpen => 2 | .servicePrepare => 3 | .filterService => 4 | .stopping => 5
      | .standby => 6 | .waking => 7))
  ∧ (∀ s : State, s.frg.defrost.phase = .posted → ∃ d : Defrost,
    s.defrostActive = { s with frg := { s.frg with defrost := d } }.raise .defrostStarted 0 (d.count : Nat)
      ∧ d.phase = .running ∧ d.started = true ∧ d.count = min (s.frg.defrost.count + 1) 65535)
  ∧ (∀ (s : State) (e : DefrostEnd) (n : Nat), ∃ t : State, s.endDefrost e n
      = (t.raise .defrostEnded 0 ((match e with | .cleared => 1 | .incomplete => 2) * 65536 + s.frg.defrost.elapsed
        : Nat)).propagate
    ∧ t.frg.defrost.phase = .lockout ∧ t.frg.defrost.lockout = n ∧ t.frg.defrost.elapsed = s.frg.defrost.elapsed
    ∧ t.arb.table.defrost = none)
  ∧ (∀ (s : State) (n : Nat) (c : BoostTrigger) (pre : Nat) (f : Boost → Boost),
    (s.hum.humidityDue = true → (s.startBoost n c pre).lnk = (s.raise .humidityBoost n 0).lnk)
    ∧ (s.hum.humidityMark = false → (s.endBoost n f).lnk = (s.raise .humidityBoost n 1).lnk))
  ∧ (∀ (s : State) (n : Nat) (x : SensorState) (f : Sensor → Sensor),
    (s.setSensor n x f).lnk = (s.raise .sensorState n (match x with
      | .unused => 0 | .probing => 1 | .online => 2 | .lost => 3 | .absent => 4)).lnk)
  ∧ (∀ (s : State) (o : CheckOutcome) (c : CheckTrigger), s.flt.check.outcome = some o → s.flt.check.trigger = some c →
    s.raiseFilterResult = s.raise .filterResult 0 ((match o with
      | .completed => 1 | .deferred => 2 | .settleTimeout => 3 | .interrupted => 4 | .sensorFault => 5 | .door => 6) * 65536
      + (match c with | .scheduled => 0 | .requested => 1 | .shortfall => 2) : Nat))
  ∧ (∀ (s : State) (i : PathId) (t : State), t = s.deriveFilter i →
    ((t.flt.filter i).state = (s.flt.filter i).state → t.lnk = s.lnk)
    ∧ ((t.flt.filter i).state ≠ (s.flt.filter i).state →
      t.lnk = (s.raise .filterState (match i with | .supply => 0 | .extract => 1) (match (t.flt.filter i).state with
        | .baselineDue => 0 | .clean => 1 | .loading => 2 | .due => 3 | .overdue => 4 | .unknown => 5)).lnk))
  ∧ (∀ (s : State) (c : Capture),
    (s.sup.capture ≠ none → (s.offerCapture c).lnk = s.lnk)
    ∧ (s.sup.capture = none → s.offerCapture c
      = { s with sup := { s.sup with capture := some c, missed := 0 } }.raise .captureTaken 0 (match c with
        | .fault g _ _ _ => (g.code : Nat)
        | .watch x _ _ _ _ _ _ _ => (65536 + x.code : Nat))))
  ∧ (∀ (s : State) (w : SettingsWrite), s.osc.writing = some w → ∃ t u : State, exec (.storeComplete true) s = .next t
    ∧ t = u.raise .settingsStored 0 0 ∧ { u with osc := s.osc } = s)

/-! ### Invariants -/

/-- The notice queues (R179). A raised notice, with repeat 1, is offered to each queue whose setting holds its kind; an
offered notice coalesces with the entry of its kind and subject, joins the tail, or is dropped at a full queue, which
sets NOTICES_LOST; every step keeps the capacities and never holds two entries of a kind and subject; and but for
GET_NOTICES and a reset, the entries queued keep their places. -/
def Obligations.NoticeQueuesKept : Prop :=
  (∀ (q : NoticeQueue) (cap : Nat) (n : Notice), q.ok cap →
    (∀ before e after, q.entries = before ++ e :: after → e.kind = n.kind → e.subject = n.subject →
      q.offer cap n = (⟨before ++ { e with value := n.value, uptime := n.uptime, repeats := min (e.repeats + 1) 15 }
        :: after, q.lost⟩, false))
    ∧ ((∀ e ∈ q.entries, e.kind ≠ n.kind ∨ e.subject ≠ n.subject) →
      (q.entries.length < cap → q.offer cap n = (⟨q.entries ++ [n], q.lost⟩, false))
      ∧ (q.entries.length = cap → q.offer cap n = (⟨q.entries, min (q.lost + 1) 255⟩, true))))
  ∧ (∀ (s : State) (k : NoticeKind) (x : Nat) (v : Int) (n : Notice) (main service : NoticeQueue × Bool),
    n = { kind := k, subject := x, value := v, uptime := s.osc.uptime, repeats := 1 } →
    main = (if inMask (settingVal s.osc.working 83) k.code then s.lnk.mainQueue.offer 32 n else (s.lnk.mainQueue, false)) →
    service = (if inMask (settingVal s.osc.working 84) k.code then s.lnk.serviceQueue.offer 8 n
      else (s.lnk.serviceQueue, false)) →
    s.raise k x v = { s with
      lnk := { s.lnk with mainQueue := main.1, serviceQueue := service.1 }
      sup := { s.sup with flags := if main.2 || service.2 then s.sup.flags.put .noticesLost true else s.sup.flags } })
  ∧ (∀ s t : State, s.queuesOk → step s = .next t → t.queuesOk)
  ∧ (∀ (c : Instr) (s t : State) (l : Link), s.lnk.restarting = none → c ≠ .powerOn → c ≠ .getNotices l →
    exec c s = .next t →
    ((s.lnk.queue l).entries.map fun n => (n.kind, n.subject)) <+: ((t.lnk.queue l).entries.map fun n => (n.kind, n.subject)))

/-- Every step keeps the working table and the values in use within their ranges, ties, address and role rules. -/
def Obligations.SettingsTablesKept : Prop :=
  ∀ s t : State, s.tablesOk → step s = .next t → t.tablesOk

/-- Every step keeps the collections of the demand table, the selection of the highest level, BASE's own record and what
each device state makes of them, where the run times and the mark of a last second are in order (log 3), which every step
keeps too; and that no check is in flight in SERVICE_PREPARE and FILTER_SERVICE, no run-on counts in FILTER_SERVICE, and a
defrost's end is marked in RUNNING and CONFIRM alone (log 4). -/
def Obligations.DemandTableKept : Prop :=
  ∀ s t : State, step s = .next t →
    (s.demandsOk → s.arb.runsOk → t.demandsOk) ∧ (s.serviceOk → t.serviceOk) ∧ (s.endMarked → t.endMarked)

/-- Every step keeps the preheater interlock: the duty is the request while all conditions hold and 0 otherwise, a forcing
condition holds the request at 0, and no run-on counts while the heater is on. -/
def Obligations.HeaterInterlockKept : Prop :=
  ∀ s t : State, s.heaterOk → step s = .next t → t.heaterOk

/-- Every step keeps MANUAL's slot FREE without an owner, and DEFROST's slot FREE outside the phases that post it. -/
def Obligations.PostersKeepSlots : Prop :=
  ∀ s t : State, step s = .next t →
    (s.manualOwned → t.manualOwned) ∧ (s.defrostPosted → t.defrostPosted)

/-- DIO's posted marks (R146): every step keeps each mark YES exactly while DIO holds a post of its slot. -/
def Obligations.DioMarksKept : Prop :=
  ∀ s t : State, s.marksOk → step s = .next t → t.marksOk

/-- Every step keeps the filter histories as their rule says, the frost load, the imbalance and every run time in their
ranges, the seconds accumulator below 3600, the zero offsets within ±20 Pa, one line test in a transaction in flight and the
four input channels; the mark of a last second (log 3) stands only beside an active demand at 1. That a transaction in flight
holds one line test, until it completes and with none before the repeated start, is the model's choice (log 65). -/
def Obligations.RangesKept : Prop :=
  ∀ s t : State, step s = .next t →
    (s.historiesOk → t.historiesOk) ∧ (s.tablesOk → s.frostOk → t.frostOk) ∧ (s.zerosOk → t.zerosOk)
      ∧ (s.tablesOk → s.arb.runsOk → t.arb.runsOk) ∧ (s.flightOk → t.flightOk)
      ∧ (s.dio.channels.length = 4 → t.dio.channels.length = 4)
      ∧ (s.flt.accumulator < 3600 → t.flt.accumulator < 3600)
end

