-- ==== Sys2Proof/Laws/State.lean ====
section
/-! SUPPORT. One lemma per field for each update of State, and the settings through each update. -/

namespace Sys2Proof.Machine

@[simp] theorem State.updOsc_pending (s : State) (f : Osc → Osc) : (s.updOsc f).pending = s.pending := rfl
@[simp] theorem State.updOsc_osc (s : State) (f : Osc → Osc) : (s.updOsc f).osc = f s.osc := rfl
@[simp] theorem State.updOsc_arb (s : State) (f : Osc → Osc) : (s.updOsc f).arb = s.arb := rfl
@[simp] theorem State.updOsc_afc (s : State) (f : Osc → Osc) : (s.updOsc f).afc = s.afc := rfl
@[simp] theorem State.updOsc_frg (s : State) (f : Osc → Osc) : (s.updOsc f).frg = s.frg := rfl
@[simp] theorem State.updOsc_hum (s : State) (f : Osc → Osc) : (s.updOsc f).hum = s.hum := rfl
@[simp] theorem State.updOsc_flt (s : State) (f : Osc → Osc) : (s.updOsc f).flt = s.flt := rfl
@[simp] theorem State.updOsc_dio (s : State) (f : Osc → Osc) : (s.updOsc f).dio = s.dio := rfl
@[simp] theorem State.updOsc_sup (s : State) (f : Osc → Osc) : (s.updOsc f).sup = s.sup := rfl
@[simp] theorem State.updOsc_lnk (s : State) (f : Osc → Osc) : (s.updOsc f).lnk = s.lnk := rfl
@[simp] theorem State.updOsc_freeCount (s : State) (f : Osc → Osc) : (s.updOsc f).freeCount = s.freeCount := rfl

@[simp] theorem State.updArb_pending (s : State) (f : Arb → Arb) : (s.updArb f).pending = s.pending := rfl
@[simp] theorem State.updArb_osc (s : State) (f : Arb → Arb) : (s.updArb f).osc = s.osc := rfl
@[simp] theorem State.updArb_arb (s : State) (f : Arb → Arb) : (s.updArb f).arb = f s.arb := rfl
@[simp] theorem State.updArb_afc (s : State) (f : Arb → Arb) : (s.updArb f).afc = s.afc := rfl
@[simp] theorem State.updArb_frg (s : State) (f : Arb → Arb) : (s.updArb f).frg = s.frg := rfl
@[simp] theorem State.updArb_hum (s : State) (f : Arb → Arb) : (s.updArb f).hum = s.hum := rfl
@[simp] theorem State.updArb_flt (s : State) (f : Arb → Arb) : (s.updArb f).flt = s.flt := rfl
@[simp] theorem State.updArb_dio (s : State) (f : Arb → Arb) : (s.updArb f).dio = s.dio := rfl
@[simp] theorem State.updArb_sup (s : State) (f : Arb → Arb) : (s.updArb f).sup = s.sup := rfl
@[simp] theorem State.updArb_lnk (s : State) (f : Arb → Arb) : (s.updArb f).lnk = s.lnk := rfl
@[simp] theorem State.updArb_freeCount (s : State) (f : Arb → Arb) : (s.updArb f).freeCount = s.freeCount := rfl
@[simp] theorem State.updArb_setting (s : State) (f : Arb → Arb) (id : Nat) : (s.updArb f).setting id = s.setting id := rfl
@[simp] theorem State.updArb_inUse (s : State) (f : Arb → Arb) (id : Nat) : (s.updArb f).inUse id = s.inUse id := rfl

@[simp] theorem State.updAfc_pending (s : State) (f : Afc → Afc) : (s.updAfc f).pending = s.pending := rfl
@[simp] theorem State.updAfc_osc (s : State) (f : Afc → Afc) : (s.updAfc f).osc = s.osc := rfl
@[simp] theorem State.updAfc_arb (s : State) (f : Afc → Afc) : (s.updAfc f).arb = s.arb := rfl
@[simp] theorem State.updAfc_afc (s : State) (f : Afc → Afc) : (s.updAfc f).afc = f s.afc := rfl
@[simp] theorem State.updAfc_frg (s : State) (f : Afc → Afc) : (s.updAfc f).frg = s.frg := rfl
@[simp] theorem State.updAfc_hum (s : State) (f : Afc → Afc) : (s.updAfc f).hum = s.hum := rfl
@[simp] theorem State.updAfc_flt (s : State) (f : Afc → Afc) : (s.updAfc f).flt = s.flt := rfl
@[simp] theorem State.updAfc_dio (s : State) (f : Afc → Afc) : (s.updAfc f).dio = s.dio := rfl
@[simp] theorem State.updAfc_sup (s : State) (f : Afc → Afc) : (s.updAfc f).sup = s.sup := rfl
@[simp] theorem State.updAfc_lnk (s : State) (f : Afc → Afc) : (s.updAfc f).lnk = s.lnk := rfl
@[simp] theorem State.updAfc_freeCount (s : State) (f : Afc → Afc) : (s.updAfc f).freeCount = s.freeCount := rfl
@[simp] theorem State.updAfc_setting (s : State) (f : Afc → Afc) (id : Nat) : (s.updAfc f).setting id = s.setting id := rfl
@[simp] theorem State.updAfc_inUse (s : State) (f : Afc → Afc) (id : Nat) : (s.updAfc f).inUse id = s.inUse id := rfl

@[simp] theorem State.updFrg_pending (s : State) (f : Frg → Frg) : (s.updFrg f).pending = s.pending := rfl
@[simp] theorem State.updFrg_osc (s : State) (f : Frg → Frg) : (s.updFrg f).osc = s.osc := rfl
@[simp] theorem State.updFrg_arb (s : State) (f : Frg → Frg) : (s.updFrg f).arb = s.arb := rfl
@[simp] theorem State.updFrg_afc (s : State) (f : Frg → Frg) : (s.updFrg f).afc = s.afc := rfl
@[simp] theorem State.updFrg_frg (s : State) (f : Frg → Frg) : (s.updFrg f).frg = f s.frg := rfl
@[simp] theorem State.updFrg_hum (s : State) (f : Frg → Frg) : (s.updFrg f).hum = s.hum := rfl
@[simp] theorem State.updFrg_flt (s : State) (f : Frg → Frg) : (s.updFrg f).flt = s.flt := rfl
@[simp] theorem State.updFrg_dio (s : State) (f : Frg → Frg) : (s.updFrg f).dio = s.dio := rfl
@[simp] theorem State.updFrg_sup (s : State) (f : Frg → Frg) : (s.updFrg f).sup = s.sup := rfl
@[simp] theorem State.updFrg_lnk (s : State) (f : Frg → Frg) : (s.updFrg f).lnk = s.lnk := rfl
@[simp] theorem State.updFrg_freeCount (s : State) (f : Frg → Frg) : (s.updFrg f).freeCount = s.freeCount := rfl
@[simp] theorem State.updFrg_setting (s : State) (f : Frg → Frg) (id : Nat) : (s.updFrg f).setting id = s.setting id := rfl
@[simp] theorem State.updFrg_inUse (s : State) (f : Frg → Frg) (id : Nat) : (s.updFrg f).inUse id = s.inUse id := rfl

@[simp] theorem State.updHum_pending (s : State) (f : Hum → Hum) : (s.updHum f).pending = s.pending := rfl
@[simp] theorem State.updHum_osc (s : State) (f : Hum → Hum) : (s.updHum f).osc = s.osc := rfl
@[simp] theorem State.updHum_arb (s : State) (f : Hum → Hum) : (s.updHum f).arb = s.arb := rfl
@[simp] theorem State.updHum_afc (s : State) (f : Hum → Hum) : (s.updHum f).afc = s.afc := rfl
@[simp] theorem State.updHum_frg (s : State) (f : Hum → Hum) : (s.updHum f).frg = s.frg := rfl
@[simp] theorem State.updHum_hum (s : State) (f : Hum → Hum) : (s.updHum f).hum = f s.hum := rfl
@[simp] theorem State.updHum_flt (s : State) (f : Hum → Hum) : (s.updHum f).flt = s.flt := rfl
@[simp] theorem State.updHum_dio (s : State) (f : Hum → Hum) : (s.updHum f).dio = s.dio := rfl
@[simp] theorem State.updHum_sup (s : State) (f : Hum → Hum) : (s.updHum f).sup = s.sup := rfl
@[simp] theorem State.updHum_lnk (s : State) (f : Hum → Hum) : (s.updHum f).lnk = s.lnk := rfl
@[simp] theorem State.updHum_freeCount (s : State) (f : Hum → Hum) : (s.updHum f).freeCount = s.freeCount := rfl
@[simp] theorem State.updHum_setting (s : State) (f : Hum → Hum) (id : Nat) : (s.updHum f).setting id = s.setting id := rfl
@[simp] theorem State.updHum_inUse (s : State) (f : Hum → Hum) (id : Nat) : (s.updHum f).inUse id = s.inUse id := rfl

@[simp] theorem State.updFlt_pending (s : State) (f : Flt → Flt) : (s.updFlt f).pending = s.pending := rfl
@[simp] theorem State.updFlt_osc (s : State) (f : Flt → Flt) : (s.updFlt f).osc = s.osc := rfl
@[simp] theorem State.updFlt_arb (s : State) (f : Flt → Flt) : (s.updFlt f).arb = s.arb := rfl
@[simp] theorem State.updFlt_afc (s : State) (f : Flt → Flt) : (s.updFlt f).afc = s.afc := rfl
@[simp] theorem State.updFlt_frg (s : State) (f : Flt → Flt) : (s.updFlt f).frg = s.frg := rfl
@[simp] theorem State.updFlt_hum (s : State) (f : Flt → Flt) : (s.updFlt f).hum = s.hum := rfl
@[simp] theorem State.updFlt_flt (s : State) (f : Flt → Flt) : (s.updFlt f).flt = f s.flt := rfl
@[simp] theorem State.updFlt_dio (s : State) (f : Flt → Flt) : (s.updFlt f).dio = s.dio := rfl
@[simp] theorem State.updFlt_sup (s : State) (f : Flt → Flt) : (s.updFlt f).sup = s.sup := rfl
@[simp] theorem State.updFlt_lnk (s : State) (f : Flt → Flt) : (s.updFlt f).lnk = s.lnk := rfl
@[simp] theorem State.updFlt_freeCount (s : State) (f : Flt → Flt) : (s.updFlt f).freeCount = s.freeCount := rfl
@[simp] theorem State.updFlt_setting (s : State) (f : Flt → Flt) (id : Nat) : (s.updFlt f).setting id = s.setting id := rfl
@[simp] theorem State.updFlt_inUse (s : State) (f : Flt → Flt) (id : Nat) : (s.updFlt f).inUse id = s.inUse id := rfl

@[simp] theorem State.updDio_pending (s : State) (f : Dio → Dio) : (s.updDio f).pending = s.pending := rfl
@[simp] theorem State.updDio_osc (s : State) (f : Dio → Dio) : (s.updDio f).osc = s.osc := rfl
@[simp] theorem State.updDio_arb (s : State) (f : Dio → Dio) : (s.updDio f).arb = s.arb := rfl
@[simp] theorem State.updDio_afc (s : State) (f : Dio → Dio) : (s.updDio f).afc = s.afc := rfl
@[simp] theorem State.updDio_frg (s : State) (f : Dio → Dio) : (s.updDio f).frg = s.frg := rfl
@[simp] theorem State.updDio_hum (s : State) (f : Dio → Dio) : (s.updDio f).hum = s.hum := rfl
@[simp] theorem State.updDio_flt (s : State) (f : Dio → Dio) : (s.updDio f).flt = s.flt := rfl
@[simp] theorem State.updDio_dio (s : State) (f : Dio → Dio) : (s.updDio f).dio = f s.dio := rfl
@[simp] theorem State.updDio_sup (s : State) (f : Dio → Dio) : (s.updDio f).sup = s.sup := rfl
@[simp] theorem State.updDio_lnk (s : State) (f : Dio → Dio) : (s.updDio f).lnk = s.lnk := rfl
@[simp] theorem State.updDio_freeCount (s : State) (f : Dio → Dio) : (s.updDio f).freeCount = s.freeCount := rfl
@[simp] theorem State.updDio_setting (s : State) (f : Dio → Dio) (id : Nat) : (s.updDio f).setting id = s.setting id := rfl
@[simp] theorem State.updDio_inUse (s : State) (f : Dio → Dio) (id : Nat) : (s.updDio f).inUse id = s.inUse id := rfl

@[simp] theorem State.updSup_pending (s : State) (f : Sup → Sup) : (s.updSup f).pending = s.pending := rfl
@[simp] theorem State.updSup_osc (s : State) (f : Sup → Sup) : (s.updSup f).osc = s.osc := rfl
@[simp] theorem State.updSup_arb (s : State) (f : Sup → Sup) : (s.updSup f).arb = s.arb := rfl
@[simp] theorem State.updSup_afc (s : State) (f : Sup → Sup) : (s.updSup f).afc = s.afc := rfl
@[simp] theorem State.updSup_frg (s : State) (f : Sup → Sup) : (s.updSup f).frg = s.frg := rfl
@[simp] theorem State.updSup_hum (s : State) (f : Sup → Sup) : (s.updSup f).hum = s.hum := rfl
@[simp] theorem State.updSup_flt (s : State) (f : Sup → Sup) : (s.updSup f).flt = s.flt := rfl
@[simp] theorem State.updSup_dio (s : State) (f : Sup → Sup) : (s.updSup f).dio = s.dio := rfl
@[simp] theorem State.updSup_sup (s : State) (f : Sup → Sup) : (s.updSup f).sup = f s.sup := rfl
@[simp] theorem State.updSup_lnk (s : State) (f : Sup → Sup) : (s.updSup f).lnk = s.lnk := rfl
@[simp] theorem State.updSup_freeCount (s : State) (f : Sup → Sup) : (s.updSup f).freeCount = s.freeCount := rfl
@[simp] theorem State.updSup_setting (s : State) (f : Sup → Sup) (id : Nat) : (s.updSup f).setting id = s.setting id := rfl
@[simp] theorem State.updSup_inUse (s : State) (f : Sup → Sup) (id : Nat) : (s.updSup f).inUse id = s.inUse id := rfl

@[simp] theorem State.updLnk_pending (s : State) (f : Lnk → Lnk) : (s.updLnk f).pending = s.pending := rfl
@[simp] theorem State.updLnk_osc (s : State) (f : Lnk → Lnk) : (s.updLnk f).osc = s.osc := rfl
@[simp] theorem State.updLnk_arb (s : State) (f : Lnk → Lnk) : (s.updLnk f).arb = s.arb := rfl
@[simp] theorem State.updLnk_afc (s : State) (f : Lnk → Lnk) : (s.updLnk f).afc = s.afc := rfl
@[simp] theorem State.updLnk_frg (s : State) (f : Lnk → Lnk) : (s.updLnk f).frg = s.frg := rfl
@[simp] theorem State.updLnk_hum (s : State) (f : Lnk → Lnk) : (s.updLnk f).hum = s.hum := rfl
@[simp] theorem State.updLnk_flt (s : State) (f : Lnk → Lnk) : (s.updLnk f).flt = s.flt := rfl
@[simp] theorem State.updLnk_dio (s : State) (f : Lnk → Lnk) : (s.updLnk f).dio = s.dio := rfl
@[simp] theorem State.updLnk_sup (s : State) (f : Lnk → Lnk) : (s.updLnk f).sup = s.sup := rfl
@[simp] theorem State.updLnk_lnk (s : State) (f : Lnk → Lnk) : (s.updLnk f).lnk = f s.lnk := rfl
@[simp] theorem State.updLnk_freeCount (s : State) (f : Lnk → Lnk) : (s.updLnk f).freeCount = s.freeCount := rfl
@[simp] theorem State.updLnk_setting (s : State) (f : Lnk → Lnk) (id : Nat) : (s.updLnk f).setting id = s.setting id := rfl
@[simp] theorem State.updLnk_inUse (s : State) (f : Lnk → Lnk) (id : Nat) : (s.updLnk f).inUse id = s.inUse id := rfl

@[simp] theorem State.updDefrost_pending (s : State) (f : Defrost → Defrost) : (s.updDefrost f).pending = s.pending := rfl
@[simp] theorem State.updDefrost_osc (s : State) (f : Defrost → Defrost) : (s.updDefrost f).osc = s.osc := rfl
@[simp] theorem State.updDefrost_arb (s : State) (f : Defrost → Defrost) : (s.updDefrost f).arb = s.arb := rfl
@[simp] theorem State.updDefrost_afc (s : State) (f : Defrost → Defrost) : (s.updDefrost f).afc = s.afc := rfl
@[simp] theorem State.updDefrost_frg (s : State) (f : Defrost → Defrost) : (s.updDefrost f).frg = { s.frg with defrost := f s.frg.defrost } := rfl
@[simp] theorem State.updDefrost_hum (s : State) (f : Defrost → Defrost) : (s.updDefrost f).hum = s.hum := rfl
@[simp] theorem State.updDefrost_flt (s : State) (f : Defrost → Defrost) : (s.updDefrost f).flt = s.flt := rfl
@[simp] theorem State.updDefrost_dio (s : State) (f : Defrost → Defrost) : (s.updDefrost f).dio = s.dio := rfl
@[simp] theorem State.updDefrost_sup (s : State) (f : Defrost → Defrost) : (s.updDefrost f).sup = s.sup := rfl
@[simp] theorem State.updDefrost_lnk (s : State) (f : Defrost → Defrost) : (s.updDefrost f).lnk = s.lnk := rfl
@[simp] theorem State.updDefrost_freeCount (s : State) (f : Defrost → Defrost) : (s.updDefrost f).freeCount = s.freeCount := rfl
@[simp] theorem State.updDefrost_setting (s : State) (f : Defrost → Defrost) (id : Nat) :
    (s.updDefrost f).setting id = s.setting id := rfl
@[simp] theorem State.updDefrost_inUse (s : State) (f : Defrost → Defrost) (id : Nat) :
    (s.updDefrost f).inUse id = s.inUse id := rfl

@[simp] theorem State.updCheck_pending (s : State) (f : Check → Check) : (s.updCheck f).pending = s.pending := rfl
@[simp] theorem State.updCheck_osc (s : State) (f : Check → Check) : (s.updCheck f).osc = s.osc := rfl
@[simp] theorem State.updCheck_arb (s : State) (f : Check → Check) : (s.updCheck f).arb = s.arb := rfl
@[simp] theorem State.updCheck_afc (s : State) (f : Check → Check) : (s.updCheck f).afc = s.afc := rfl
@[simp] theorem State.updCheck_frg (s : State) (f : Check → Check) : (s.updCheck f).frg = s.frg := rfl
@[simp] theorem State.updCheck_hum (s : State) (f : Check → Check) : (s.updCheck f).hum = s.hum := rfl
@[simp] theorem State.updCheck_flt (s : State) (f : Check → Check) : (s.updCheck f).flt = { s.flt with check := f s.flt.check } := rfl
@[simp] theorem State.updCheck_dio (s : State) (f : Check → Check) : (s.updCheck f).dio = s.dio := rfl
@[simp] theorem State.updCheck_sup (s : State) (f : Check → Check) : (s.updCheck f).sup = s.sup := rfl
@[simp] theorem State.updCheck_lnk (s : State) (f : Check → Check) : (s.updCheck f).lnk = s.lnk := rfl
@[simp] theorem State.updCheck_freeCount (s : State) (f : Check → Check) : (s.updCheck f).freeCount = s.freeCount := rfl
@[simp] theorem State.updCheck_setting (s : State) (f : Check → Check) (id : Nat) :
    (s.updCheck f).setting id = s.setting id := rfl
@[simp] theorem State.updCheck_inUse (s : State) (f : Check → Check) (id : Nat) :
    (s.updCheck f).inUse id = s.inUse id := rfl

@[simp] theorem State.useFree_pending (s : State) : s.useFree.pending = s.pending := rfl
@[simp] theorem State.useFree_osc (s : State) : s.useFree.osc = s.osc := rfl
@[simp] theorem State.useFree_arb (s : State) : s.useFree.arb = s.arb := rfl
@[simp] theorem State.useFree_afc (s : State) : s.useFree.afc = s.afc := rfl
@[simp] theorem State.useFree_frg (s : State) : s.useFree.frg = s.frg := rfl
@[simp] theorem State.useFree_hum (s : State) : s.useFree.hum = s.hum := rfl
@[simp] theorem State.useFree_flt (s : State) : s.useFree.flt = s.flt := rfl
@[simp] theorem State.useFree_dio (s : State) : s.useFree.dio = s.dio := rfl
@[simp] theorem State.useFree_sup (s : State) : s.useFree.sup = s.sup := rfl
@[simp] theorem State.useFree_lnk (s : State) : s.useFree.lnk = s.lnk := rfl
@[simp] theorem State.useFree_freeCount (s : State) : s.useFree.freeCount = s.freeCount + 1 := rfl
@[simp] theorem State.useFree_setting (s : State) (id : Nat) : s.useFree.setting id = s.setting id := rfl
@[simp] theorem State.useFree_inUse (s : State) (id : Nat) : s.useFree.inUse id = s.inUse id := rfl

@[simp] theorem State.updLink_pending (s : State) (l : Link) (f : LinkRec → LinkRec) : (s.updLink l f).pending = s.pending := rfl
@[simp] theorem State.updLink_osc (s : State) (l : Link) (f : LinkRec → LinkRec) : (s.updLink l f).osc = s.osc := rfl
@[simp] theorem State.updLink_arb (s : State) (l : Link) (f : LinkRec → LinkRec) : (s.updLink l f).arb = s.arb := rfl
@[simp] theorem State.updLink_afc (s : State) (l : Link) (f : LinkRec → LinkRec) : (s.updLink l f).afc = s.afc := rfl
@[simp] theorem State.updLink_frg (s : State) (l : Link) (f : LinkRec → LinkRec) : (s.updLink l f).frg = s.frg := rfl
@[simp] theorem State.updLink_hum (s : State) (l : Link) (f : LinkRec → LinkRec) : (s.updLink l f).hum = s.hum := rfl
@[simp] theorem State.updLink_flt (s : State) (l : Link) (f : LinkRec → LinkRec) : (s.updLink l f).flt = s.flt := rfl
@[simp] theorem State.updLink_dio (s : State) (l : Link) (f : LinkRec → LinkRec) : (s.updLink l f).dio = s.dio := rfl
@[simp] theorem State.updLink_sup (s : State) (l : Link) (f : LinkRec → LinkRec) : (s.updLink l f).sup = s.sup := rfl
@[simp] theorem State.updLink_lnk (s : State) (l : Link) (f : LinkRec → LinkRec) : (s.updLink l f).lnk = s.lnk.setLink l (f (s.lnk.link l)) := rfl
@[simp] theorem State.updLink_freeCount (s : State) (l : Link) (f : LinkRec → LinkRec) : (s.updLink l f).freeCount = s.freeCount := rfl

@[simp] theorem Lnk.link_setLink (k : Lnk) (l : Link) (r : LinkRec) : (k.setLink l r).link l = r := by cases l <;> rfl
@[simp] theorem Lnk.restarting_setLink (k : Lnk) (l : Link) (r : LinkRec) :
    (k.setLink l r).restarting = k.restarting := by cases l <;> rfl
@[simp] theorem Lnk.mainQueue_setLink (k : Lnk) (l : Link) (r : LinkRec) :
    (k.setLink l r).mainQueue = k.mainQueue := by cases l <;> rfl
@[simp] theorem Lnk.serviceQueue_setLink (k : Lnk) (l : Link) (r : LinkRec) :
    (k.setLink l r).serviceQueue = k.serviceQueue := by cases l <;> rfl
@[simp] theorem Lnk.setLink_setLink (k : Lnk) (l : Link) (r q : LinkRec) :
    (k.setLink l r).setLink l q = k.setLink l q := by cases l <;> rfl
@[simp] theorem Afc.path_setPath (a : Afc) (i : PathId) (p : FanPath) : (a.setPath i p).path i = p := by cases i <;> rfl
@[simp] theorem Afc.served_setPath (a : Afc) (i : PathId) (p : FanPath) : (a.setPath i p).served = a.served := by
  cases i <;> rfl
theorem Afc.path_setPath_ne (a : Afc) {i j : PathId} (h : j ≠ i) (p : FanPath) : (a.setPath i p).path j = a.path j := by
  cases i <;> cases j <;> first | rfl | exact absurd rfl h
@[simp] theorem Flt.filter_setFilter (t : Flt) (i : PathId) (f : Filter) : (t.setFilter i f).filter i = f := by
  cases i <;> rfl
@[simp] theorem Frg.channel_setChannel (g : Frg) (i : TempId) (c : TempChannel) : (g.setChannel i c).channel i = c := by
  cases i <;> rfl

/-- Reading a slot of the table after a slot has been replaced. -/
theorem DemandTable.get_put (t : DemandTable) (a b : Slot) (d : Option Demand) :
    (t.put a d).get b = if b = a then d else t.get b := by cases a <;> cases b <;> rfl
/-- Reading the replaced slot. -/
@[simp] theorem DemandTable.get_put_same (t : DemandTable) (a : Slot) (d : Option Demand) : (t.put a d).get a = d := by
  cases a <;> rfl
/-- Reading a flag after a flag has been set or cleared. -/
theorem FlagSet.get_put (f : FlagSet) (a b : Flag) (v : Bool) : (f.put a v).get b = if b = a then v else f.get b := by
  cases a <;> cases b <;> rfl

end Sys2Proof.Machine
end

