-- ==== Sys2Proof/Laws/Notices.lean ====
section
/-! SUPPORT. What a flag, a notice and a capture leave alone, field by field. -/

namespace Sys2Proof.Machine

@[simp] theorem State.setFlag_pending (s : State) (g : Flag) : (s.setFlag g).pending = s.pending := rfl
@[simp] theorem State.setFlag_osc (s : State) (g : Flag) : (s.setFlag g).osc = s.osc := rfl
@[simp] theorem State.setFlag_arb (s : State) (g : Flag) : (s.setFlag g).arb = s.arb := rfl
@[simp] theorem State.setFlag_afc (s : State) (g : Flag) : (s.setFlag g).afc = s.afc := rfl
@[simp] theorem State.setFlag_frg (s : State) (g : Flag) : (s.setFlag g).frg = s.frg := rfl
@[simp] theorem State.setFlag_hum (s : State) (g : Flag) : (s.setFlag g).hum = s.hum := rfl
@[simp] theorem State.setFlag_flt (s : State) (g : Flag) : (s.setFlag g).flt = s.flt := rfl
@[simp] theorem State.setFlag_dio (s : State) (g : Flag) : (s.setFlag g).dio = s.dio := rfl
@[simp] theorem State.setFlag_freeCount (s : State) (g : Flag) : (s.setFlag g).freeCount = s.freeCount := rfl
@[simp] theorem State.setFlag_sup_owner (s : State) (g : Flag) : (s.setFlag g).sup.owner = s.sup.owner := rfl
@[simp] theorem State.setFlag_sup_capture (s : State) (g : Flag) : (s.setFlag g).sup.capture = s.sup.capture := rfl
@[simp] theorem State.setFlag_sup_missed (s : State) (g : Flag) : (s.setFlag g).sup.missed = s.sup.missed := rfl
@[simp] theorem State.setFlag_lnk (s : State) (g : Flag) : (s.setFlag g).lnk = s.lnk := rfl
@[simp] theorem State.setFlag_setting (s : State) (g : Flag) (id : Nat) : (s.setFlag g).setting id = s.setting id := by
  simp [State.setting]
@[simp] theorem State.setFlag_inUse (s : State) (g : Flag) (id : Nat) : (s.setFlag g).inUse id = s.inUse id := by
  simp [State.inUse]

@[simp] theorem State.offerMain_pending (s : State) (n : Notice) : (s.offerMain n).pending = s.pending := by
  unfold State.offerMain; dsimp only; split
  · split <;> rfl
  · rfl
@[simp] theorem State.offerMain_osc (s : State) (n : Notice) : (s.offerMain n).osc = s.osc := by
  unfold State.offerMain; dsimp only; split
  · split <;> rfl
  · rfl
@[simp] theorem State.offerMain_arb (s : State) (n : Notice) : (s.offerMain n).arb = s.arb := by
  unfold State.offerMain; dsimp only; split
  · split <;> rfl
  · rfl
@[simp] theorem State.offerMain_afc (s : State) (n : Notice) : (s.offerMain n).afc = s.afc := by
  unfold State.offerMain; dsimp only; split
  · split <;> rfl
  · rfl
@[simp] theorem State.offerMain_frg (s : State) (n : Notice) : (s.offerMain n).frg = s.frg := by
  unfold State.offerMain; dsimp only; split
  · split <;> rfl
  · rfl
@[simp] theorem State.offerMain_hum (s : State) (n : Notice) : (s.offerMain n).hum = s.hum := by
  unfold State.offerMain; dsimp only; split
  · split <;> rfl
  · rfl
@[simp] theorem State.offerMain_flt (s : State) (n : Notice) : (s.offerMain n).flt = s.flt := by
  unfold State.offerMain; dsimp only; split
  · split <;> rfl
  · rfl
@[simp] theorem State.offerMain_dio (s : State) (n : Notice) : (s.offerMain n).dio = s.dio := by
  unfold State.offerMain; dsimp only; split
  · split <;> rfl
  · rfl
@[simp] theorem State.offerMain_freeCount (s : State) (n : Notice) : (s.offerMain n).freeCount = s.freeCount := by
  unfold State.offerMain; dsimp only; split
  · split <;> rfl
  · rfl
@[simp] theorem State.offerMain_sup_owner (s : State) (n : Notice) : (s.offerMain n).sup.owner = s.sup.owner := by
  unfold State.offerMain; dsimp only; split
  · split <;> rfl
  · rfl
@[simp] theorem State.offerMain_lnk_main (s : State) (n : Notice) : (s.offerMain n).lnk.main = s.lnk.main := by
  unfold State.offerMain; dsimp only; split
  · split <;> rfl
  · rfl
@[simp] theorem State.offerMain_lnk_service (s : State) (n : Notice) : (s.offerMain n).lnk.service = s.lnk.service := by
  unfold State.offerMain; dsimp only; split
  · split <;> rfl
  · rfl
@[simp] theorem State.offerMain_lnk_restarting (s : State) (n : Notice) : (s.offerMain n).lnk.restarting = s.lnk.restarting := by
  unfold State.offerMain; dsimp only; split
  · split <;> rfl
  · rfl
@[simp] theorem State.offerMain_sup_capture (s : State) (n : Notice) : (s.offerMain n).sup.capture = s.sup.capture := by
  unfold State.offerMain; dsimp only; split
  · split <;> rfl
  · rfl
@[simp] theorem State.offerMain_sup_missed (s : State) (n : Notice) : (s.offerMain n).sup.missed = s.sup.missed := by
  unfold State.offerMain; dsimp only; split
  · split <;> rfl
  · rfl
@[simp] theorem State.offerMain_setting (s : State) (n : Notice) (id : Nat) : (s.offerMain n).setting id = s.setting id := by
  simp [State.setting]
@[simp] theorem State.offerMain_inUse (s : State) (n : Notice) (id : Nat) : (s.offerMain n).inUse id = s.inUse id := by
  simp [State.inUse]
@[simp] theorem State.offerMain_link (s : State) (n : Notice) (l : Link) : (s.offerMain n).lnk.link l = s.lnk.link l := by
  cases l <;> simp [Lnk.link]

@[simp] theorem State.offerService_pending (s : State) (n : Notice) : (s.offerService n).pending = s.pending := by
  unfold State.offerService; dsimp only; split
  · split <;> rfl
  · rfl
@[simp] theorem State.offerService_osc (s : State) (n : Notice) : (s.offerService n).osc = s.osc := by
  unfold State.offerService; dsimp only; split
  · split <;> rfl
  · rfl
@[simp] theorem State.offerService_arb (s : State) (n : Notice) : (s.offerService n).arb = s.arb := by
  unfold State.offerService; dsimp only; split
  · split <;> rfl
  · rfl
@[simp] theorem State.offerService_afc (s : State) (n : Notice) : (s.offerService n).afc = s.afc := by
  unfold State.offerService; dsimp only; split
  · split <;> rfl
  · rfl
@[simp] theorem State.offerService_frg (s : State) (n : Notice) : (s.offerService n).frg = s.frg := by
  unfold State.offerService; dsimp only; split
  · split <;> rfl
  · rfl
@[simp] theorem State.offerService_hum (s : State) (n : Notice) : (s.offerService n).hum = s.hum := by
  unfold State.offerService; dsimp only; split
  · split <;> rfl
  · rfl
@[simp] theorem State.offerService_flt (s : State) (n : Notice) : (s.offerService n).flt = s.flt := by
  unfold State.offerService; dsimp only; split
  · split <;> rfl
  · rfl
@[simp] theorem State.offerService_dio (s : State) (n : Notice) : (s.offerService n).dio = s.dio := by
  unfold State.offerService; dsimp only; split
  · split <;> rfl
  · rfl
@[simp] theorem State.offerService_freeCount (s : State) (n : Notice) : (s.offerService n).freeCount = s.freeCount := by
  unfold State.offerService; dsimp only; split
  · split <;> rfl
  · rfl
@[simp] theorem State.offerService_sup_owner (s : State) (n : Notice) : (s.offerService n).sup.owner = s.sup.owner := by
  unfold State.offerService; dsimp only; split
  · split <;> rfl
  · rfl
@[simp] theorem State.offerService_lnk_main (s : State) (n : Notice) : (s.offerService n).lnk.main = s.lnk.main := by
  unfold State.offerService; dsimp only; split
  · split <;> rfl
  · rfl
@[simp] theorem State.offerService_lnk_service (s : State) (n : Notice) : (s.offerService n).lnk.service = s.lnk.service := by
  unfold State.offerService; dsimp only; split
  · split <;> rfl
  · rfl
@[simp] theorem State.offerService_lnk_restarting (s : State) (n : Notice) : (s.offerService n).lnk.restarting = s.lnk.restarting := by
  unfold State.offerService; dsimp only; split
  · split <;> rfl
  · rfl
@[simp] theorem State.offerService_sup_capture (s : State) (n : Notice) : (s.offerService n).sup.capture = s.sup.capture := by
  unfold State.offerService; dsimp only; split
  · split <;> rfl
  · rfl
@[simp] theorem State.offerService_sup_missed (s : State) (n : Notice) : (s.offerService n).sup.missed = s.sup.missed := by
  unfold State.offerService; dsimp only; split
  · split <;> rfl
  · rfl
@[simp] theorem State.offerService_setting (s : State) (n : Notice) (id : Nat) : (s.offerService n).setting id = s.setting id := by
  simp [State.setting]
@[simp] theorem State.offerService_inUse (s : State) (n : Notice) (id : Nat) : (s.offerService n).inUse id = s.inUse id := by
  simp [State.inUse]
@[simp] theorem State.offerService_link (s : State) (n : Notice) (l : Link) : (s.offerService n).lnk.link l = s.lnk.link l := by
  cases l <;> simp [Lnk.link]

@[simp] theorem State.raise_pending (s : State) (k : NoticeKind) (x : Nat) (v : Int) : (s.raise k x v).pending = s.pending := by
  simp [State.raise]
@[simp] theorem State.raise_osc (s : State) (k : NoticeKind) (x : Nat) (v : Int) : (s.raise k x v).osc = s.osc := by
  simp [State.raise]
@[simp] theorem State.raise_arb (s : State) (k : NoticeKind) (x : Nat) (v : Int) : (s.raise k x v).arb = s.arb := by
  simp [State.raise]
@[simp] theorem State.raise_afc (s : State) (k : NoticeKind) (x : Nat) (v : Int) : (s.raise k x v).afc = s.afc := by
  simp [State.raise]
@[simp] theorem State.raise_frg (s : State) (k : NoticeKind) (x : Nat) (v : Int) : (s.raise k x v).frg = s.frg := by
  simp [State.raise]
@[simp] theorem State.raise_hum (s : State) (k : NoticeKind) (x : Nat) (v : Int) : (s.raise k x v).hum = s.hum := by
  simp [State.raise]
@[simp] theorem State.raise_flt (s : State) (k : NoticeKind) (x : Nat) (v : Int) : (s.raise k x v).flt = s.flt := by
  simp [State.raise]
@[simp] theorem State.raise_dio (s : State) (k : NoticeKind) (x : Nat) (v : Int) : (s.raise k x v).dio = s.dio := by
  simp [State.raise]
@[simp] theorem State.raise_freeCount (s : State) (k : NoticeKind) (x : Nat) (v : Int) : (s.raise k x v).freeCount = s.freeCount := by
  simp [State.raise]
@[simp] theorem State.raise_sup_owner (s : State) (k : NoticeKind) (x : Nat) (v : Int) : (s.raise k x v).sup.owner = s.sup.owner := by
  simp [State.raise]
@[simp] theorem State.raise_lnk_main (s : State) (k : NoticeKind) (x : Nat) (v : Int) : (s.raise k x v).lnk.main = s.lnk.main := by
  simp [State.raise]
@[simp] theorem State.raise_lnk_service (s : State) (k : NoticeKind) (x : Nat) (v : Int) : (s.raise k x v).lnk.service = s.lnk.service := by
  simp [State.raise]
@[simp] theorem State.raise_lnk_restarting (s : State) (k : NoticeKind) (x : Nat) (v : Int) : (s.raise k x v).lnk.restarting = s.lnk.restarting := by
  simp [State.raise]
@[simp] theorem State.raise_sup_capture (s : State) (k : NoticeKind) (x : Nat) (v : Int) : (s.raise k x v).sup.capture = s.sup.capture := by
  simp [State.raise]
@[simp] theorem State.raise_sup_missed (s : State) (k : NoticeKind) (x : Nat) (v : Int) : (s.raise k x v).sup.missed = s.sup.missed := by
  simp [State.raise]
@[simp] theorem State.raise_setting (s : State) (k : NoticeKind) (x : Nat) (v : Int) (id : Nat) : (s.raise k x v).setting id = s.setting id := by
  simp [State.setting]
@[simp] theorem State.raise_inUse (s : State) (k : NoticeKind) (x : Nat) (v : Int) (id : Nat) : (s.raise k x v).inUse id = s.inUse id := by
  simp [State.inUse]
@[simp] theorem State.raise_link (s : State) (k : NoticeKind) (x : Nat) (v : Int) (l : Link) : (s.raise k x v).lnk.link l = s.lnk.link l := by
  cases l <;> simp [Lnk.link]

@[simp] theorem State.offerCapture_pending (s : State) (c : Capture) : (s.offerCapture c).pending = s.pending := by
  unfold State.offerCapture Sup.offer; dsimp only; split <;> split <;> simp_all
@[simp] theorem State.offerCapture_osc (s : State) (c : Capture) : (s.offerCapture c).osc = s.osc := by
  unfold State.offerCapture Sup.offer; dsimp only; split <;> split <;> simp_all
@[simp] theorem State.offerCapture_arb (s : State) (c : Capture) : (s.offerCapture c).arb = s.arb := by
  unfold State.offerCapture Sup.offer; dsimp only; split <;> split <;> simp_all
@[simp] theorem State.offerCapture_afc (s : State) (c : Capture) : (s.offerCapture c).afc = s.afc := by
  unfold State.offerCapture Sup.offer; dsimp only; split <;> split <;> simp_all
@[simp] theorem State.offerCapture_frg (s : State) (c : Capture) : (s.offerCapture c).frg = s.frg := by
  unfold State.offerCapture Sup.offer; dsimp only; split <;> split <;> simp_all
@[simp] theorem State.offerCapture_hum (s : State) (c : Capture) : (s.offerCapture c).hum = s.hum := by
  unfold State.offerCapture Sup.offer; dsimp only; split <;> split <;> simp_all
@[simp] theorem State.offerCapture_flt (s : State) (c : Capture) : (s.offerCapture c).flt = s.flt := by
  unfold State.offerCapture Sup.offer; dsimp only; split <;> split <;> simp_all
@[simp] theorem State.offerCapture_dio (s : State) (c : Capture) : (s.offerCapture c).dio = s.dio := by
  unfold State.offerCapture Sup.offer; dsimp only; split <;> split <;> simp_all
@[simp] theorem State.offerCapture_freeCount (s : State) (c : Capture) : (s.offerCapture c).freeCount = s.freeCount := by
  unfold State.offerCapture Sup.offer; dsimp only; split <;> split <;> simp_all
@[simp] theorem State.offerCapture_sup_owner (s : State) (c : Capture) : (s.offerCapture c).sup.owner = s.sup.owner := by
  unfold State.offerCapture Sup.offer; dsimp only; split <;> split <;> simp_all
@[simp] theorem State.offerCapture_lnk_main (s : State) (c : Capture) : (s.offerCapture c).lnk.main = s.lnk.main := by
  unfold State.offerCapture Sup.offer; dsimp only; split <;> split <;> simp_all
@[simp] theorem State.offerCapture_lnk_service (s : State) (c : Capture) : (s.offerCapture c).lnk.service = s.lnk.service := by
  unfold State.offerCapture Sup.offer; dsimp only; split <;> split <;> simp_all
@[simp] theorem State.offerCapture_lnk_restarting (s : State) (c : Capture) : (s.offerCapture c).lnk.restarting = s.lnk.restarting := by
  unfold State.offerCapture Sup.offer; dsimp only; split <;> split <;> simp_all
@[simp] theorem State.offerCapture_setting (s : State) (c : Capture) (id : Nat) : (s.offerCapture c).setting id = s.setting id := by
  simp [State.setting]
@[simp] theorem State.offerCapture_inUse (s : State) (c : Capture) (id : Nat) : (s.offerCapture c).inUse id = s.inUse id := by
  simp [State.inUse]
@[simp] theorem State.offerCapture_link (s : State) (c : Capture) (l : Link) : (s.offerCapture c).lnk.link l = s.lnk.link l := by
  cases l <;> simp [Lnk.link]

@[simp] theorem State.offerFault_pending (s : State) (g : Flag) (x : Nat) (v : Int) : (s.offerFault g x v).pending = s.pending := by
  simp [State.offerFault]
@[simp] theorem State.offerFault_osc (s : State) (g : Flag) (x : Nat) (v : Int) : (s.offerFault g x v).osc = s.osc := by
  simp [State.offerFault]
@[simp] theorem State.offerFault_arb (s : State) (g : Flag) (x : Nat) (v : Int) : (s.offerFault g x v).arb = s.arb := by
  simp [State.offerFault]
@[simp] theorem State.offerFault_afc (s : State) (g : Flag) (x : Nat) (v : Int) : (s.offerFault g x v).afc = s.afc := by
  simp [State.offerFault]
@[simp] theorem State.offerFault_frg (s : State) (g : Flag) (x : Nat) (v : Int) : (s.offerFault g x v).frg = s.frg := by
  simp [State.offerFault]
@[simp] theorem State.offerFault_hum (s : State) (g : Flag) (x : Nat) (v : Int) : (s.offerFault g x v).hum = s.hum := by
  simp [State.offerFault]
@[simp] theorem State.offerFault_flt (s : State) (g : Flag) (x : Nat) (v : Int) : (s.offerFault g x v).flt = s.flt := by
  simp [State.offerFault]
@[simp] theorem State.offerFault_dio (s : State) (g : Flag) (x : Nat) (v : Int) : (s.offerFault g x v).dio = s.dio := by
  simp [State.offerFault]
@[simp] theorem State.offerFault_freeCount (s : State) (g : Flag) (x : Nat) (v : Int) : (s.offerFault g x v).freeCount = s.freeCount := by
  simp [State.offerFault]
@[simp] theorem State.offerFault_sup_owner (s : State) (g : Flag) (x : Nat) (v : Int) : (s.offerFault g x v).sup.owner = s.sup.owner := by
  simp [State.offerFault]
@[simp] theorem State.offerFault_lnk_main (s : State) (g : Flag) (x : Nat) (v : Int) : (s.offerFault g x v).lnk.main = s.lnk.main := by
  simp [State.offerFault]
@[simp] theorem State.offerFault_lnk_service (s : State) (g : Flag) (x : Nat) (v : Int) : (s.offerFault g x v).lnk.service = s.lnk.service := by
  simp [State.offerFault]
@[simp] theorem State.offerFault_lnk_restarting (s : State) (g : Flag) (x : Nat) (v : Int) : (s.offerFault g x v).lnk.restarting = s.lnk.restarting := by
  simp [State.offerFault]
@[simp] theorem State.offerFault_setting (s : State) (g : Flag) (x : Nat) (v : Int) (id : Nat) : (s.offerFault g x v).setting id = s.setting id := by
  simp [State.setting]
@[simp] theorem State.offerFault_inUse (s : State) (g : Flag) (x : Nat) (v : Int) (id : Nat) : (s.offerFault g x v).inUse id = s.inUse id := by
  simp [State.inUse]
@[simp] theorem State.offerFault_link (s : State) (g : Flag) (x : Nat) (v : Int) (l : Link) : (s.offerFault g x v).lnk.link l = s.lnk.link l := by
  cases l <;> simp [Lnk.link]

@[simp] theorem State.faultEvent_pending (s : State) (g : Flag) (x : Nat) (v : Int) : (s.faultEvent g x v).pending = s.pending := by
  simp [State.faultEvent]
@[simp] theorem State.faultEvent_osc (s : State) (g : Flag) (x : Nat) (v : Int) : (s.faultEvent g x v).osc = s.osc := by
  simp [State.faultEvent]
@[simp] theorem State.faultEvent_arb (s : State) (g : Flag) (x : Nat) (v : Int) : (s.faultEvent g x v).arb = s.arb := by
  simp [State.faultEvent]
@[simp] theorem State.faultEvent_afc (s : State) (g : Flag) (x : Nat) (v : Int) : (s.faultEvent g x v).afc = s.afc := by
  simp [State.faultEvent]
@[simp] theorem State.faultEvent_frg (s : State) (g : Flag) (x : Nat) (v : Int) : (s.faultEvent g x v).frg = s.frg := by
  simp [State.faultEvent]
@[simp] theorem State.faultEvent_hum (s : State) (g : Flag) (x : Nat) (v : Int) : (s.faultEvent g x v).hum = s.hum := by
  simp [State.faultEvent]
@[simp] theorem State.faultEvent_flt (s : State) (g : Flag) (x : Nat) (v : Int) : (s.faultEvent g x v).flt = s.flt := by
  simp [State.faultEvent]
@[simp] theorem State.faultEvent_dio (s : State) (g : Flag) (x : Nat) (v : Int) : (s.faultEvent g x v).dio = s.dio := by
  simp [State.faultEvent]
@[simp] theorem State.faultEvent_freeCount (s : State) (g : Flag) (x : Nat) (v : Int) : (s.faultEvent g x v).freeCount = s.freeCount := by
  simp [State.faultEvent]
@[simp] theorem State.faultEvent_sup_owner (s : State) (g : Flag) (x : Nat) (v : Int) : (s.faultEvent g x v).sup.owner = s.sup.owner := by
  simp [State.faultEvent]
@[simp] theorem State.faultEvent_lnk_main (s : State) (g : Flag) (x : Nat) (v : Int) : (s.faultEvent g x v).lnk.main = s.lnk.main := by
  simp [State.faultEvent]
@[simp] theorem State.faultEvent_lnk_service (s : State) (g : Flag) (x : Nat) (v : Int) : (s.faultEvent g x v).lnk.service = s.lnk.service := by
  simp [State.faultEvent]
@[simp] theorem State.faultEvent_lnk_restarting (s : State) (g : Flag) (x : Nat) (v : Int) : (s.faultEvent g x v).lnk.restarting = s.lnk.restarting := by
  simp [State.faultEvent]
@[simp] theorem State.faultEvent_setting (s : State) (g : Flag) (x : Nat) (v : Int) (id : Nat) : (s.faultEvent g x v).setting id = s.setting id := by
  simp [State.setting]
@[simp] theorem State.faultEvent_inUse (s : State) (g : Flag) (x : Nat) (v : Int) (id : Nat) : (s.faultEvent g x v).inUse id = s.inUse id := by
  simp [State.inUse]
@[simp] theorem State.faultEvent_link (s : State) (g : Flag) (x : Nat) (v : Int) (l : Link) : (s.faultEvent g x v).lnk.link l = s.lnk.link l := by
  cases l <;> simp [Lnk.link]

/-- An offer keeps a queue within its capacity (R179). -/
theorem NoticeQueue.offer_length (q : NoticeQueue) (cap : Nat) (n : Notice) (h : q.entries.length ≤ cap) :
    (q.offer cap n).1.entries.length ≤ cap := by
  unfold NoticeQueue.offer
  split
  · simpa using h
  · split
    · simp; omega
    · simpa using h

end Sys2Proof.Machine
end

