-- ==== Sys2Proof/Laws/Settled.lean ====
section
/-! SUPPORT. What each shared operation can do, said once: notices, flags and captures on their own, and `SettledFrom` for
every operation that runs inside the propagation of a change. -/

namespace Sys2Proof.Machine

/-! ### The same demand -/

theorem SameDemand.refl (a : Option Demand) : SameDemand a a := by
  cases a <;> simp [SameDemand]

theorem SameDemand.trans {a b c : Option Demand} (h : SameDemand a b) (k : SameDemand b c) : SameDemand a c := by
  cases a <;> cases b <;> cases c <;> simp_all [SameDemand]

theorem SameDemand.pushed (a : Option Demand) : SameDemand a (a.map Demand.pushed) := by
  cases a <;> simp [SameDemand, Demand.pushed]

/-! ### Composition -/

theorem SettledFrom.refl (a : List Slot) (s : State) : SettledFrom a s s where
  pending := rfl
  osc := rfl
  device := .inl rfl
  watch := rfl
  slots := fun _ _ _ _ => .refl _
  paths := fun _ => ⟨rfl, rfl, rfl, rfl, rfl, rfl, rfl, rfl⟩
  frost := rfl
  hum := rfl
  filters := fun _ => rfl
  filterRest := ⟨rfl, rfl, rfl, rfl, rfl, rfl, rfl, rfl⟩
  dio := rfl
  flags := fun _ _ _ => rfl
  flagsStay := fun _ h => h
  capture := fun _ => rfl
  owner := rfl
  links := ⟨rfl, rfl, rfl⟩

theorem SettledFrom.trans {a b : List Slot} {s t u : State} (h : SettledFrom a s t) (k : SettledFrom b t u) :
    SettledFrom (a ++ b) s u where
  pending := k.pending.trans h.pending
  osc := by
    calc { u.osc with device := s.osc.device }
        = { ({ u.osc with device := t.osc.device } : Osc) with device := s.osc.device } := rfl
      _ = { t.osc with device := s.osc.device } := by rw [k.osc]
      _ = s.osc := h.osc
  device := by
    have h1 := h.device
    have k1 := k.device
    rcases h1 with h1 | ⟨h1, h2⟩ | ⟨h1, h2⟩ <;> rcases k1 with k1 | ⟨k1, k2⟩ | ⟨k1, k2⟩ <;> simp_all
  watch := k.watch.trans h.watch
  slots := fun x hx hf hd => (h.slots x (fun m => hx (List.mem_append_left _ m)) hf hd).trans
    (k.slots x (fun m => hx (List.mem_append_right _ m)) hf hd)
  paths := fun i => by
    have h1 := h.paths i
    have k1 := k.paths i
    simp_all
  frost := by
    let f (a b : Frg) : Frg := { b with
      request := a.request, applied := a.applied, outputOn := a.outputOn, windowSecs := a.windowSecs,
      runOn := a.runOn, stage := a.stage, defrost := a.defrost }
    calc f s.frg u.frg = f s.frg (f t.frg u.frg) := rfl
      _ = f s.frg t.frg := congrArg (f s.frg) k.frost
      _ = s.frg := h.frost
  hum := k.hum.trans h.hum
  filters := fun i => by
    let f (a b : Filter) : Filter := { b with lastOutcome := a.lastOutcome }
    calc f (s.flt.filter i) (u.flt.filter i) = f (s.flt.filter i) (f (t.flt.filter i) (u.flt.filter i)) := rfl
      _ = f (s.flt.filter i) (t.flt.filter i) := congrArg (f (s.flt.filter i)) (k.filters i)
      _ = s.flt.filter i := h.filters i
  filterRest := by
    have h1 := h.filterRest
    have k1 := k.filterRest
    simp_all
  dio := k.dio.trans h.dio
  flags := fun g h1 h2 => (k.flags g h1 h2).trans (h.flags g h1 h2)
  flagsStay := fun g hg => k.flagsStay g (h.flagsStay g hg)
  capture := fun hc => by
    have h1 := h.capture hc
    exact (k.capture (by rw [h1]; exact hc)).trans h1
  owner := k.owner.trans h.owner
  links := by
    have h1 := h.links
    have k1 := k.links
    simp_all

/-- Two steps, neither touching a further slot. -/
theorem SettledFrom.next {s t u : State} (h : SettledFrom [] s t) (k : SettledFrom [] t u) : SettledFrom [] s u :=
  h.trans k

/-- A step that touches `a` after one that touches nothing, and the other way round. -/
theorem SettledFrom.weaken {a b : List Slot} {s t : State} (h : SettledFrom a s t) (hab : ∀ x ∈ a, x ∈ b) :
    SettledFrom b s t :=
  { h with slots := fun x hx => h.slots x fun m => hx (hab x m) }

/-! ### Notices, flags, captures -/

theorem SettledFrom.queues (s : State) (q r : NoticeQueue) :
    SettledFrom [] s { s with lnk := { s.lnk with mainQueue := q, serviceQueue := r } } :=
  { SettledFrom.refl [] s with }

/-- Setting NOTICES_LOST or RUN_ON_CUT. -/
theorem SettledFrom.setFlag (s : State) {g : Flag} (h : g = .noticesLost ∨ g = .runOnCut) :
    SettledFrom [] s (s.setFlag g) :=
  { SettledFrom.refl [] s with
    flags := fun x h1 h2 => by
      rcases h with rfl | rfl <;> simp [State.setFlag, FlagSet.get_put, h1, h2]
    flagsStay := fun x hx => by
      simp only [State.setFlag, State.updSup_sup, FlagSet.get_put]
      split <;> simp_all }

theorem SettledFrom.offerMain (s : State) (n : Notice) : SettledFrom [] s (s.offerMain n) := by
  unfold State.offerMain
  have h (q : NoticeQueue) : SettledFrom [] s (s.updLnk fun k => { k with mainQueue := q }) :=
    SettledFrom.queues s q s.lnk.serviceQueue
  dsimp only
  split
  · split
    · exact (h _).next (.setFlag _ (.inl rfl))
    · exact h _
  · exact .refl _ _

theorem SettledFrom.offerService (s : State) (n : Notice) : SettledFrom [] s (s.offerService n) := by
  unfold State.offerService
  have h (q : NoticeQueue) : SettledFrom [] s (s.updLnk fun k => { k with serviceQueue := q }) :=
    SettledFrom.queues s s.lnk.mainQueue q
  dsimp only
  split
  · split
    · exact (h _).next (.setFlag _ (.inl rfl))
    · exact h _
  · exact .refl _ _

theorem SettledFrom.raise (s : State) (k : NoticeKind) (x : Nat) (v : Int) : SettledFrom [] s (s.raise k x v) :=
  (SettledFrom.offerMain _ _).next (.offerService _ _)

theorem SettledFrom.offerCapture (s : State) (c : Capture) : SettledFrom [] s (s.offerCapture c) := by
  unfold State.offerCapture Sup.offer
  dsimp only
  split
  · rename_i h
    split <;> rename_i h2
    · exact SettledFrom.next (t := s.updSup fun _ => { s.sup with capture := some c, missed := 0 })
        { SettledFrom.refl [] s with capture := fun hc => absurd h hc } (.raise _ _ _ _)
    · simp at h2
  · split <;> rename_i h2
    · simp at h2
    · exact { SettledFrom.refl [] s with }

/-- RUN_ON_CUT with its capture. -/
theorem SettledFrom.runOnCut (s : State) (x : Nat) (v : Int) : SettledFrom [] s (s.faultEvent .runOnCut x v) :=
  (SettledFrom.setFlag s (.inr rfl)).next (.offerCapture _ _)

/-! ### The records that take reports -/

theorem SettledFrom.updDefrost (s : State) (f : Defrost → Defrost) : SettledFrom [] s (s.updDefrost f) :=
  { SettledFrom.refl [] s with }

theorem SettledFrom.updCheck (s : State) (f : Check → Check) : SettledFrom [] s (s.updCheck f) :=
  { SettledFrom.refl [] s with filters := fun i => by cases i <;> rfl }

theorem SettledFrom.thenCheck {s t : State} (h : SettledFrom [] s t) (f : Check → Check) :
    SettledFrom [] s (t.updCheck f) := h.next (.updCheck t f)

/-- The watch and the records of the slots outside `touched`, through a change of the demand table. -/
structure ArbKeeps (touched : List Slot) (a b : Arb) : Prop where
  watch : b.watch = a.watch
  slots : ∀ x, x ∉ touched → x ≠ .filterCheck → x ≠ .defrost → SameDemand (a.table.get x) (b.table.get x)

theorem SettledFrom.updArb {touched : List Slot} (s : State) {b : Arb} (h : ArbKeeps touched s.arb b) :
    SettledFrom touched s (s.updArb fun _ => b) :=
  { SettledFrom.refl touched s with watch := h.watch, slots := h.slots }

theorem ArbKeeps.refl (l : List Slot) (a : Arb) : ArbKeeps l a a := ⟨rfl, fun _ _ _ _ => .refl _⟩

theorem ArbKeeps.trans {l m : List Slot} {a b c : Arb} (h : ArbKeeps l a b) (k : ArbKeeps m b c) :
    ArbKeeps (l ++ m) a c :=
  ⟨k.watch.trans h.watch, fun x hx hf hd => (h.slots x (fun q => hx (List.mem_append_left _ q)) hf hd).trans
    (k.slots x (fun q => hx (List.mem_append_right _ q)) hf hd)⟩

/-- A change of the collections alone. -/
theorem ArbKeeps.ofTable {l : List Slot} {a b : Arb} (h1 : b.watch = a.watch) (h2 : b.table = a.table) : ArbKeeps l a b :=
  ⟨h1, fun x _ _ _ => by rw [h2]; exact .refl _⟩

theorem ArbKeeps.put (a : Arb) (x : Slot) (d : Option Demand) (e : Bool := a.expiring) :
    ArbKeeps [x] a { a with table := a.table.put x d, expiring := e } :=
  ⟨rfl, fun y hy _ _ => by
    have : y ≠ x := by simpa using hy
    simp only [DemandTable.get_put, if_neg this]
    exact .refl _⟩

theorem ArbKeeps.push (a : Arb) (x : Slot) : ArbKeeps [] a (a.push x) :=
  ⟨rfl, fun y _ _ _ => by
    simp only [Arb.push, DemandTable.get_put]
    split
    · rename_i h; rw [h]; exact .pushed _
    · exact .refl _⟩

theorem ArbKeeps.leave (a : Arb) (x : Slot) : ArbKeeps [] a (a.leave x) := .ofTable rfl rfl

theorem ArbKeeps.reselect (a : Arb) : ArbKeeps [] a a.reselect.1 := by
  unfold Arb.reselect
  split <;> exact .ofTable rfl rfl

theorem ArbKeeps.preempt (a : Arb) (o x : Slot) : ArbKeeps [] a (a.preempt o x).1 :=
  (ArbKeeps.push a o).trans (m := []) (.ofTable rfl rfl)

theorem ArbKeeps.free (a : Arb) (x : Slot) : ArbKeeps [x] a (a.free x).1 := by
  unfold Arb.free
  dsimp only
  split
  · exact .refl _ _
  · split
    · exact (ArbKeeps.put a x none).trans (m := [])
        ((ArbKeeps.ofTable (l := []) (a := { a with table := a.table.put x none })
          (b := { a with table := a.table.put x none, active := none }) rfl rfl).trans (m := []) (.reselect _))
    · exact (ArbKeeps.put a x none).trans (m := []) (.leave _ _)

theorem ArbKeeps.post (a : Arb) (x : Slot) (p : PostArgs) (now : Nat) : ArbKeeps [x] a (a.post x p now).1 := by
  unfold Arb.post
  split
  · unfold Arb.postFresh
    dsimp only
    split
    · split
      · exact (ArbKeeps.put a x _).trans (m := []) (.preempt _ _ _)
      · exact (ArbKeeps.put a x _).trans (m := []) (.ofTable rfl rfl)
    · exact (ArbKeeps.put a x _).trans (m := []) (.ofTable rfl rfl)
  · unfold Arb.renew
    dsimp only
    split
    · exact .put a x _ _
    · split
      · split
        · exact .put a x _ _
        · split
          · exact (ArbKeeps.put a x _ _).trans (m := []) ((ArbKeeps.leave _ _).trans (m := []) (.preempt _ _ _))
          · exact .put a x _ _
      · split
        · exact (ArbKeeps.put a x _ _).trans (m := []) ((ArbKeeps.leave _ _).trans (m := []) (.preempt _ _ _))
        · exact .put a x _ _

/-! ### Reports -/

theorem SettledFrom.recordCheckEnd (s : State) (o : CheckOutcome) : SettledFrom [] s (s.recordCheckEnd o) :=
  { SettledFrom.refl [] s with filters := fun i => by cases i <;> rfl }

theorem SettledFrom.raiseFilterResult (s : State) : SettledFrom [] s s.raiseFilterResult := .raise _ _ _ _

theorem SettledFrom.trySettle (s : State) : SettledFrom [] s s.trySettle := by
  unfold State.trySettle
  split
  · exact .updCheck _ _
  · exact .refl _ _

/-- FILTER_CHECK is no slot that `SettledFrom` follows. -/
theorem SettledFrom.freeCheckSlot (s : State) : SettledFrom [] s (s.updArb fun a => (a.free .filterCheck).1) :=
  SettledFrom.updArb s ⟨(ArbKeeps.free s.arb .filterCheck).watch, fun x _ hf hd =>
    (ArbKeeps.free s.arb .filterCheck).slots x (by simpa using hf) hf hd⟩

theorem SettledFrom.checkPreempted (s : State) : SettledFrom [] s s.checkPreempted := by
  unfold State.checkPreempted
  dsimp only
  split
  · split
    · exact (((SettledFrom.updCheck s _).next (.recordCheckEnd _ _)).next (.freeCheckSlot _)).next (.raiseFilterResult _)
    · exact .updCheck _ _
  · exact .refl _ _

theorem SettledFrom.defrostActive (s : State) : SettledFrom [] s s.defrostActive := by
  unfold State.defrostActive
  split
  · exact (SettledFrom.updDefrost s _).next (.raise _ _ _ _)
  all_goals first | exact .updDefrost _ _ | exact .refl _ _

theorem SettledFrom.defrostPreempted (s : State) : SettledFrom [] s s.defrostPreempted := by
  unfold State.defrostPreempted
  split <;> first | exact .updDefrost _ _ | exact .refl _ _

/-- A report of a slot that became ACTIVE or SUSPENDED. -/
theorem SettledFrom.takeReport (s : State) (r : Report) (h : r.kind = .active ∨ r.kind = .suspended) :
    SettledFrom [] s (s.takeReport r) := by
  obtain ⟨k, x⟩ := r
  rcases h with rfl | rfl <;> cases x <;> simp only [State.takeReport] <;>
    first
      | exact .refl _ _ | exact .trySettle _ | exact .checkPreempted _ | exact .defrostActive _
      | exact .defrostPreempted _

theorem SettledFrom.takeReports (l : List Report) (h : ∀ r ∈ l, r.kind = .active ∨ r.kind = .suspended) (s : State) :
    SettledFrom [] s (l.foldl State.takeReport s) := by
  induction l generalizing s with
  | nil => exact .refl _ _
  | cons r l ih =>
    exact (SettledFrom.takeReport s r (h r (by simp))).next (ih (fun q hq => h q (by simp [hq])) _)

/-- A change of the demand table that reports only ACTIVE and SUSPENDED. -/
theorem SettledFrom.applyArb {touched : List Slot} (s : State) (r : Arb × List Report) (h : ArbKeeps touched s.arb r.1)
    (hr : ∀ q ∈ r.2, q.kind = .active ∨ q.kind = .suspended) : SettledFrom touched s (s.applyArb r) := by
  unfold State.applyArb
  dsimp only
  refine ((SettledFrom.updArb s h).trans (b := []) ?_ |>.trans (b := []) (SettledFrom.takeReports _ ?_ _)).weaken (by simp)
  · split
    · exact .refl _ _
    · exact .raise _ _ _ _
  · intro q hq
    exact hr q (List.mem_of_mem_filter hq)

theorem Arb.reselect_reports (a : Arb) : ∀ q ∈ a.reselect.2, q.kind = .active ∨ q.kind = .suspended := by
  unfold Arb.reselect
  split <;> simp

theorem Arb.preempt_reports (a : Arb) (o x : Slot) : ∀ q ∈ (a.preempt o x).2, q.kind = .active ∨ q.kind = .suspended := by
  simp [Arb.preempt]

theorem Arb.free_reports (a : Arb) (x : Slot) : ∀ q ∈ (a.free x).2, q.kind = .active ∨ q.kind = .suspended := by
  unfold Arb.free
  dsimp only
  split
  · simp
  · split
    · exact Arb.reselect_reports _
    · simp

theorem Arb.post_reports (a : Arb) (x : Slot) (p : PostArgs) (now : Nat) :
    ∀ q ∈ (a.post x p now).2, q.kind = .active ∨ q.kind = .suspended := by
  unfold Arb.post
  split
  · unfold Arb.postFresh
    dsimp only
    split
    · split
      · exact Arb.preempt_reports _ _ _
      · simp
    · simp
  · unfold Arb.renew
    dsimp only
    split
    · simp
    · split
      · split
        · simp
        · split
          · exact Arb.preempt_reports _ _ _
          · simp
      · split
        · exact Arb.preempt_reports _ _ _
        · simp

theorem SettledFrom.withdraw (s : State) (x : Slot) : SettledFrom [x] s (s.withdraw x) :=
  .applyArb s _ (.free _ _) (Arb.free_reports _ _)

theorem SettledFrom.watchTest (s : State) (x : Slot) (n : Nat) (p : PostArgs) (l : Option Link) :
    SettledFrom [] s (s.watchTest x n p l).1 := by
  unfold State.watchTest
  split
  · split
    · exact { SettledFrom.refl [] s with }
    · exact .offerCapture _ _
  · exact .refl _ _

theorem SettledFrom.postCore (s : State) (x : Slot) (n : Nat) (p : PostArgs) (l : Option Link) :
    SettledFrom [x] s (s.postCore x n p l).1 := by
  unfold State.postCore
  dsimp only
  split
  · split
    · exact (SettledFrom.watchTest s x n p l).weaken (by simp)
    · exact (SettledFrom.watchTest s x n p l).trans (b := [x]) (.applyArb _ _ (.post _ _ _ _) (Arb.post_reports _ _ _ _))
  · exact .refl _ _

theorem SettledFrom.internalPost (s : State) (x : Slot) (n : Nat) (c : Carry) (t : Option Nat) :
    SettledFrom [x] s (s.internalPost x n c t).1 := .postCore _ _ _ _ _

/-- The slots FILTER_CHECK and DEFROST are not followed by `SettledFrom`. -/
theorem SettledFrom.forget {s t : State} {x : Slot} (h : SettledFrom [x] s t) (hx : x = .filterCheck ∨ x = .defrost) :
    SettledFrom [] s t :=
  { h with slots := fun y _ hf hd => h.slots y (by rcases hx with rfl | rfl <;> simpa) hf hd }

/-! ### Fans, heater, cuts, a check start -/

/-- What of a path's record the fan states leave alone. -/
def FanPath.SameSensor (p q : FanPath) : Prop :=
  q.flow = p.flow ∧ q.speed = p.speed ∧ q.faulted = p.faulted ∧ q.zeroOffset = p.zeroOffset ∧ q.raw = p.raw
    ∧ q.zeroSum = p.zeroSum ∧ q.zeroFault = p.zeroFault ∧ q.retryCount = p.retryCount

theorem SettledFrom.movePath (s : State) (i : PathId) (p : FanPath) (h : (s.afc.path i).SameSensor p) :
    SettledFrom [] s (s.movePath i p) := by
  have k : SettledFrom [] s (s.updAfc (·.setPath i p)) :=
    { SettledFrom.refl [] s with
      paths := fun j => by
        by_cases hj : j = i
        · subst hj; simpa [FanPath.SameSensor] using h
        · simp [Afc.path_setPath_ne _ hj] }
  unfold State.movePath
  dsimp only
  split
  · exact k
  · exact k.next (.raise _ _ _ _)

theorem FanPath.SameSensor.lapse {p q : FanPath} (h : p.SameSensor q) (n : Nat) : p.SameSensor (q.lapse n) := by
  unfold FanPath.lapse
  dsimp only
  split <;> split <;> simpa [FanPath.SameSensor] using h

theorem FanPath.SameSensor.serve (p : FanPath) (v : Serve) : p.SameSensor (p.serve v) := by
  unfold FanPath.serve
  dsimp only
  refine FanPath.SameSensor.lapse ?_ _
  split
  · unfold FanPath.serveManual
    split <;> (repeat' split) <;> simp [FanPath.SameSensor, FanPath.toSpinup, FanPath.toOff]
  · unfold FanPath.serveTarget
    split <;> (repeat' split) <;> simp [FanPath.SameSensor, FanPath.toSpinup, FanPath.toOff]

/-- Which slot was served last is no part of what `SettledFrom` follows. -/
theorem SettledFrom.served (s : State) (x : Option Slot) : SettledFrom [] s (s.updAfc fun a => { a with served := x }) :=
  { SettledFrom.refl [] s with paths := fun i => by cases i <;> exact ⟨rfl, rfl, rfl, rfl, rfl, rfl, rfl, rfl⟩ }

theorem SettledFrom.servePath (s : State) (i : PathId) : SettledFrom [] s (s.servePath i) :=
  .movePath s _ _ (.serve _ _)

theorem SettledFrom.serveFans (s : State) : SettledFrom [] s s.serveFans :=
  ((SettledFrom.servePath s .extract).next (.servePath _ .supply)).next (.served _ _)

theorem SettledFrom.forceRequest (s : State) : SettledFrom [] s s.forceRequest := by
  unfold State.forceRequest
  split
  · exact { SettledFrom.refl [] s with }
  · exact .refl _ _

theorem SettledFrom.applyDuty (s : State) (n : Nat) : SettledFrom [] s (s.applyDuty n) := by
  unfold State.applyDuty
  dsimp only
  split
  · exact .refl _ _
  · split
    · exact { SettledFrom.refl [] s with }
    · split
      · exact { SettledFrom.refl [] s with }
      · exact { SettledFrom.refl [] s with }

theorem SettledFrom.deriveDuty (s : State) : SettledFrom [] s s.deriveDuty := .applyDuty _ _

/-- The two changes of device state that end a wait for the run-on. -/
theorem SettledFrom.setDevice (s : State) (d : DevState)
    (h : (s.osc.device = .stopping ∧ d = .standby) ∨ (s.osc.device = .servicePrepare ∧ d = .filterService)) :
    SettledFrom [] s (s.setDevice d) :=
  SettledFrom.next (t := s.updOsc fun o => { o with device := d })
    { SettledFrom.refl [] s with device := .inr h } (.raise _ _ _ _)

theorem SettledFrom.enterStandby (s : State) (h : s.osc.device = .stopping) : SettledFrom [] s s.enterStandby :=
  (SettledFrom.setDevice s _ (.inl ⟨h, rfl⟩)).next (.applyArb _ _ (.ofTable rfl rfl) (by simp))

theorem SettledFrom.enterFilterService (s : State) (h : s.osc.device = .servicePrepare) :
    SettledFrom [] s s.enterFilterService :=
  (SettledFrom.setDevice s _ (.inr ⟨h, rfl⟩)).next
    { SettledFrom.refl [] _ with filters := fun i => by cases i <;> rfl }

theorem SettledFrom.postDefrost (s : State) : SettledFrom [] s s.postDefrost :=
  (SettledFrom.internalPost _ _ _ _ _).forget (.inr rfl)

theorem SettledFrom.tryDefrostPost (s : State) : SettledFrom [] s s.tryDefrostPost := by
  unfold State.tryDefrostPost
  split
  · exact (SettledFrom.updDefrost s _).next (.postDefrost _)
  · exact .refl _ _

/-- A post of which the posters take only some reports. -/
theorem SettledFrom.applyPost (s : State) (x : Slot) (p : PostArgs) (now : Nat) (f : Report → Bool) :
    SettledFrom [x] s (s.applyArb ((s.arb.post x p now).1, (s.arb.post x p now).2.filter f)) :=
  .applyArb s _ (.post _ _ _ _) fun q h => Arb.post_reports _ _ _ _ q (List.mem_filter.mp h).1

theorem SettledFrom.postDefrostBeforeStandby (s : State) : SettledFrom [] s s.postDefrostBeforeStandby :=
  ((SettledFrom.watchTest s _ _ _ _).trans (b := [.defrost]) (.applyPost _ _ _ _ _)).forget (.inr rfl)

theorem SettledFrom.defrostTimerEnd (s : State) : SettledFrom [] s s.defrostTimerEnd := by
  unfold State.defrostTimerEnd
  split
  · exact (SettledFrom.updDefrost s _).next (.postDefrostBeforeStandby _)
  · exact .tryDefrostPost _

theorem SettledFrom.runOnEnded (s : State) : SettledFrom [] s s.runOnEnded := by
  unfold State.runOnEnded
  dsimp only
  split
  · rename_i h; exact (SettledFrom.defrostTimerEnd s).next (.enterStandby _ h)
  · rename_i h; exact (SettledFrom.defrostTimerEnd s).next (.enterFilterService _ h)
  all_goals exact .defrostTimerEnd s

theorem SettledFrom.cutRunOn (s : State) : SettledFrom [] s s.cutRunOn := by
  unfold State.cutRunOn
  split
  · exact .refl _ _
  · dsimp only
    split
    · exact ((SettledFrom.next (t := s.updFrg fun g => { g with runOn := 0 }) { SettledFrom.refl [] s with }
        (.runOnCut _ _ _))).next (.runOnEnded _)
    · exact .refl _ _

theorem SettledFrom.startCheck (s : State) (c : CheckTrigger) : SettledFrom [] s (s.startCheck c).1 := by
  unfold State.startCheck
  dsimp only
  split
  · exact ((SettledFrom.updCheck s _).next (.recordCheckEnd _ _)).next (.raiseFilterResult _)
  · have h (f : Check → Check) (c : Carry) :
        SettledFrom [] s ((s.updCheck f).internalPost .filterCheck 6 c none).1 :=
      (SettledFrom.updCheck s f).next ((SettledFrom.internalPost _ _ _ _ _).forget (.inl rfl))
    split
    · exact ((h _ _).next (.updCheck _ _)).next (.trySettle _)
    · dsimp only
      exact (h _ _).thenCheck _

theorem SettledFrom.startTest (s : State) : SettledFrom [] s s.startTest := by
  have h : SettledFrom [] s (s.updFlt fun t => { t with startTestDue := false }) :=
    { SettledFrom.refl [] s with filters := fun i => by cases i <;> rfl }
  unfold State.startTest
  dsimp only
  split
  · split
    · exact h.next (.startCheck _ _)
    · exact h
  · exact .refl _ _

theorem SettledFrom.round (s : State) : SettledFrom [] s s.round :=
  ((((SettledFrom.forceRequest s).next (.serveFans _)).next (.deriveDuty _)).next (.cutRunOn _)).next (.startTest _)

theorem SettledFrom.settleBlocks (s : State) : SettledFrom [] s s.settleBlocks :=
  (((SettledFrom.round s).next (.round _)).next (.round _)).next (.round _)

theorem SettledFrom.deriveStage (s : State) : SettledFrom [] s s.deriveStage := by
  unfold State.deriveStage
  dsimp only
  split
  · exact .refl _ _
  · exact SettledFrom.next (t := s.updFrg fun f => { f with stage := s.stageNow }) { SettledFrom.refl [] s with }
      (.raise _ _ _ _)

theorem SettledFrom.stagedRound (s : State) : SettledFrom [] s s.stagedRound :=
  (SettledFrom.round s).next (.deriveStage _)

/-- What the propagation of a change leaves alone. -/
theorem SettledFrom.propagate (s : State) : SettledFrom [] s s.propagate :=
  ((((SettledFrom.deriveStage s).next (.stagedRound _)).next (.stagedRound _)).next (.stagedRound _)).next
    (.stagedRound _)

end Sys2Proof.Machine
end

