-- ==== Sys2Proof/Laws/Stored.lean ====
section
/-! SUPPORT. What a sealed and a spoiled copy of the nonvolatile store hold, how far a debounce time runs on between two
steps, how far the recovery silence falls in a second, and what of a MEASURE passes on the bus. -/

namespace Sys2Proof.Machine

/-! ### Copies of the nonvolatile store (R140, R185) -/

@[simp] theorem SettingsCopy.sealed_values (v : List Int) (n : Nat) : (sealed v n).values = v := rfl
@[simp] theorem SettingsCopy.sealed_writeCount (v : List Int) (n : Nat) : (sealed v n).writeCount = n := rfl
@[simp] theorem SettingsCopy.spoiled_values (c : SettingsCopy) : c.spoiled.values = c.values := rfl
@[simp] theorem SettingsCopy.spoiled_writeCount (c : SettingsCopy) : c.spoiled.writeCount = c.writeCount := rfl
@[simp] theorem FilterCopy.sealed_block (b : FilterBlock) (n : Nat) : (sealed b n).block = b := rfl
@[simp] theorem FilterCopy.sealed_writeCount (b : FilterBlock) (n : Nat) : (sealed b n).writeCount = n := rfl
@[simp] theorem FilterCopy.spoiled_block (c : FilterCopy) : c.spoiled.block = c.block := rfl
@[simp] theorem FilterCopy.spoiled_writeCount (c : FilterCopy) : c.spoiled.writeCount = c.writeCount := rfl

/-- A CRC with every bit inverted is another CRC. -/
theorem crc_inverted_ne (x : BitVec 16) : x ≠ x ^^^ 0xFFFF := by
  intro h
  have hx : x ^^^ x = x ^^^ (x ^^^ 0xFFFF) := congrArg (x ^^^ ·) h
  rw [← BitVec.xor_assoc, BitVec.xor_self, BitVec.zero_xor] at hx
  exact absurd hx (by decide)

/-- A completed write leaves a copy whose CRC matches. -/
@[simp] theorem SettingsCopy.sealed_crcOk (v : List Int) (n : Nat) : (sealed v n).crcOk = true :=
  beq_self_eq_true (crc16 (sealed v n).image)

/-- A copy that is being written has a CRC that does not match. -/
@[simp] theorem SettingsCopy.spoiled_crcOk (c : SettingsCopy) : c.spoiled.crcOk = false :=
  beq_false_of_ne (crc_inverted_ne (crc16 c.image))

@[simp] theorem FilterCopy.sealed_crcOk (b : FilterBlock) (n : Nat) : (sealed b n).crcOk = true :=
  beq_self_eq_true (crc16 b.image)

@[simp] theorem FilterCopy.spoiled_crcOk (c : FilterCopy) : c.spoiled.crcOk = false :=
  beq_false_of_ne (crc_inverted_ne (crc16 c.block.image))

/-- A completed write of a valid table leaves a valid copy (R186). -/
theorem SettingsCopy.sealed_valid {v : List Int} (n : Nat) (h : tableValid v = true) : (sealed v n).valid = true := by
  simp [SettingsCopy.valid, h]

/-! ### Debounce and recovery (R94, R143) -/

/-- A debounce time is 0 at rest and otherwise runs on, up to 50 ms. -/
theorem Channel.elapse_spec (ch : Channel) (free : Nat) :
    ∃ ms, ch.elapse free = { ch with debounce := ms } ∧ (ch.contact = some ch.raw → ms = 0)
      ∧ (ch.contact ≠ some ch.raw → ch.debounce ≤ 50 → ch.debounce ≤ ms ∧ ms ≤ 50) := by
  refine ⟨_, rfl, fun h => if_pos h, fun h hd => ?_⟩
  rw [if_neg h]
  omega

/-- The recovery silence falls by 1000 ms a second, and by 1 to 1000 ms in the first one. -/
theorem Bus.second_spec (b : Bus) (free : Nat) :
    ∃ ms, b.second free = { b with recovery := b.recovery - ms } ∧ (b.state ≠ .recovery → ms = 0)
      ∧ (b.state = .recovery → 1 ≤ ms ∧ ms ≤ 1000 ∧ (b.recovery ≠ 5000 → ms = 1000)) := by
  unfold Bus.second
  split
  · next h =>
    refine ⟨_, rfl, fun h' => absurd h h', fun _ => ⟨?_, ?_, fun h5 => if_neg h5⟩⟩ <;> split <;> omega
  · next h => exact ⟨0, rfl, fun _ => rfl, fun h' => absurd h' h⟩

/-! ### What passes in a transaction (R84, R86) -/

/-- The line test parts what goes out before it from what follows. -/
theorem beforeTest_append {lead : List BusItem} (h : .lineTest ∉ lead) (tail : List BusItem) :
    beforeTest (lead ++ .lineTest :: tail) = lead := by
  induction lead with
  | nil => rfl
  | cons x lead ih =>
    have ih := ih fun hm => h (.tail _ hm)
    cases x with
    | lineTest => exact absurd (.head _) h
    | _ => simpa [beforeTest] using ih

theorem afterTest_append {lead : List BusItem} (h : .lineTest ∉ lead) (tail : List BusItem) :
    afterTest (lead ++ .lineTest :: tail) = tail := by
  induction lead with
  | nil => rfl
  | cons x lead ih =>
    have ih := ih fun hm => h (.tail _ hm)
    cases x with
    | lineTest => exact absurd (.head _) h
    | _ => simpa [afterTest] using ih

/-- What passes where the test finds the data line high after so many pulses, and then `rest`. -/
theorem Bus.passing_eq {b : Bus} {lead tail : List BusItem} (h : .lineTest ∉ lead)
    (hf : b.flight = lead ++ .lineTest :: tail) (pulses : Fin 10) (rest : List BusItem) :
    b.passing pulses rest = lead ++ List.replicate pulses.val .clock ++ rest := by
  simp [Bus.passing, testPulses, hf, beforeTest_append h]

/-- A high acknowledge bit of a MEASURE ends it after its byte, with a stop condition. -/
theorem Bus.measureSent_noAck {b : Bus} {lead after : List BusItem} {w c r : Byte} (pulses : Fin 10) (p : AckPoint)
    (h : .lineTest ∉ lead)
    (hf : b.flight = lead ++ .lineTest :: ([.start, .send w, .send c, .start, .send r] ++ after)) :
    b.measureSent (.noAck pulses p) = lead ++ List.replicate pulses.val .clock ++ (match p with
      | .writeAddress => [.start, .send w]
      | .command => [.start, .send w, .send c]
      | .readAddress => [.start, .send w, .send c, .start, .send r]) ++ [.stop] := by
  rw [Bus.measureSent, Bus.passing_eq h hf, hf, afterTest_append h]
  cases p <;> simp [throughSend, bytesBefore]

end Sys2Proof.Machine
end

