-- ==== Sys2Proof/Tests/Slice0.lean ====
section
/-! SUPPORT. Tests. The checks on operands refuse what they should; the spec's worked examples; and for each statement with
hypotheses, states and operands that meet them together, clause by clause. -/

namespace Sys2Proof.Tests

open Sys2Proof Sys2Proof.Machine Sys2Proof.WellFormed

set_option maxRecDepth 20000

/-! ### Well-formed commands -/

theorem test_wf_input_refused : instrOk (.inputDebounced 0) = false ∧ instrOk (.inputDebounced 5) = false
    ∧ instrOk (.inputDebounced 4) = true := by decide

theorem test_wf_sensor_refused : instrOk (.boostLimit 0) = false ∧ instrOk (.probePauseEnd 9) = false
    ∧ instrOk (.lostTimeEnd 9) = false ∧ instrOk (.holdoffEnd 0) = false ∧ instrOk (.holdoffEnd 8) = true := by decide

theorem test_wf_line_refused : lineOk (.input 5) = false ∧ lineOk .cutout = true := by decide

/-! ### The spec's worked examples -/

/-- R168: the CRC-16 of the ASCII digits 1 to 9. -/
theorem test_crc16_check : crc16 [0x31, 0x32, 0x33, 0x34, 0x35, 0x36, 0x37, 0x38, 0x39] = 0x29B1#16 := by decide

/-- 2.11, uptimes 1001, 1004 and 1008: flow and loop step. -/
theorem test_flow_and_step :
    measuredFlow 1250 (deltaP (.value 60) 3) = 94 ∧ loopStep 150 94 40 = 22
      ∧ measuredFlow 1250 (deltaP (.value 96) 3) = 120 ∧ loopStep 150 120 40 = 12
      ∧ measuredFlow 1250 (deltaP (.value 152) 3) = 153 ∧ loopStep 150 153 40 = -1 := by decide

/-- 2.11: 21 pulses at 2 per turn are 630 rpm. -/
theorem test_fan_speed : fanSpeed 21 2 = 630 := by decide

/-- R49: the two examples. -/
theorem test_substitute : exhaustSubstitute (-180) 210 75 = -83 ∧ exhaustSubstitute 255 210 75 = 244 := by decide

/-- R53: the row of RH 550, and T_eta 150 with RH 150. -/
theorem test_margin : frostMargin 210 (-42) 550 10 = (120, -52) ∧ frostMargin 150 (-42) 150 10 = (-20, -32) := by decide

/-- R54: 73 added, 15 removed. -/
theorem test_load : nextLoad 100 .normal (some (-52)) (some (-42)) 140 = 173
    ∧ nextLoad 100 .normal (some 15) (some 25) 120 = 85 := by decide

/-- R124: Δp_ref 91, loading 34; R125: 2441 h. -/
theorem test_filter_evaluation : scaledPressure 84 144 150 = 91 ∧ loadingOf 91 60 150 = 34
    ∧ projectionOf [(100, 62), (1300, 91)] 150 = some 2441 := by decide

/-- R184, worked example: A = 10 is taken as 20; then Qmin = 130 as 100. -/
theorem test_tied_writes : (writeSetting settingDefaults .service 4 10).2.2 = 20
    ∧ (writeSetting (writeSetting settingDefaults .service 4 10).2.1 .service 2 130).2.2 = 100 := by decide

/-! ### Small states -/

/-- The part in RUNNING with BASE active. -/
def run : State :=
  { State.reset with
    osc := { Osc.reset with device := .running, uptime := 5000 }
    arb := { Arb.reset with active := some .base, queue := [] } }

/-- The part in another device state. -/
def inState (d : DevState) : State := { run with osc := { run.osc with device := d } }

/-- The frame of a request of kind `k` with stated origin `o`. -/
def req (k : RequestKind) (o : Origin) (fields : List Byte) : Frame :=
  { kind := BitVec.ofNat 8 k.code, tag := 0, payload := BitVec.ofNat 8 o.rank :: fields }

/-- A request waits on the service link. -/
def ask (k : RequestKind) (o : Origin) (fields : List Byte) (s : State) : State :=
  s.updLink .service fun r => { r with waiting := [req k o fields] }

theorem req_code (k : RequestKind) (o : Origin) (fields : List Byte) : (req k o fields).kind.toNat = k.code := by
  cases k <;> rfl

/-- A request as it waits in `ask` passes LNK's checks. -/
theorem ask_hands (k : RequestKind) (o : Origin) (fields : List Byte) (s : State)
    (h : s.lnk.restarting = none ∧ statedOrigin (BitVec.ofNat 8 o.rank) = some o ∧ effectiveOrigin o .service = o
      ∧ k.lengthFits fields = true ∧ k.takenIn s.osc.device = true) :
    (ask k o fields s).hands .service k (req k o fields) o fields := by
  obtain ⟨h1, h2, h3, h4, h5⟩ := h
  refine ⟨?_, req_code k o fields, ⟨_, o, rfl, h2, h3.symm⟩, h4, h5⟩
  simp [State.nextFrame, ask, State.updLink, State.updLnk, Lnk.setLink, Lnk.link, h1]

/-- A demand at `level` with run time `r`. -/
def demand (level : Nat) (r : Option Nat) : Demand :=
  { level := level, origin := .system, carry := .flows 150 150, run := r, postedAt := 7, suspensions := 0 }

/-- The part in RUNNING with the path `p` on the supply side. -/
def withSupply (p : FanPath) : State := { run with afc := { run.afc with supply := p } }

/-- The part in RUNNING with one sensor entry, of index 1. -/
def withSensor (e : Sensor) : State := { run with hum := { run.hum with sensors := [e], active := true } }

/-- An ONLINE wet-room entry. -/
def wet : Sensor := { Sensor.reset 8 .wetRoom with state := .online }

/-- The part in RUNNING with a link record on the service link. -/
def withLink (r : LinkRec) : State := { run with lnk := { run.lnk with service := r } }

/-- The part in RUNNING with defrost phase `p`. -/
def withDefrost (p : DefrostPhase) : State :=
  { run with frg := { run.frg with defrost := { run.frg.defrost with phase := p } } }

/-- The part in RUNNING with check phase `p`. -/
def withCheck (p : CheckPhase) : State :=
  { run with flt := { run.flt with check := { run.flt.check with phase := p } } }

/-- A valid settings copy with write count `n`. -/
def copyOf (n : Nat) : SettingsCopy := .sealed settingDefaults n

theorem copyOf_valid (n : Nat) : (copyOf n).valid = true := SettingsCopy.sealed_valid n (by decide)

/-- `State.atRest`, as a conjunction that can be decided. -/
theorem rests {s : State}
    (h : s.frg.request = 0 ∧ s.frg.applied = 0 ∧ s.frg.runOn = 0 ∧ s.flt.startTestDue = false) : s.atRest := h

/-- The state that a command leads to. -/
def after (c : Instr) (s : State) : State :=
  match exec c s with
  | .next t => t
  | .fault _ => s
  | .refused _ => s

/-! ### The step, reset, links -/

/-- EventsNotDueChangeNothing: the last state before each event is due. -/
theorem test_wit_EventsNotDue :
    run.nextFrame .main = none ∧ run.arb.expiring = false ∧ State.reset.arb.active = none
      ∧ ({ FanPath.reset with state := .spinup, spinupTime := 14 }.spinupTime < 15)
      ∧ ({ FanPath.reset with state := .regulating, stallTime := 9 }.stallTime < 10)
      ∧ (0 < { FanPath.reset with state := .stalled, retryTime := 1 }.retryTime)
      ∧ ({ FanPath.reset with goodTiming := true, goodTime := 9 }.goodTime < 10)
      ∧ ({ FanPath.reset with shortfallTime := 59 }.shortfallTime < 60)
      ∧ (run.frg.channel .oda).status ≠ .holding ∧ State.reset.osc.device = .starting
      ∧ 0 < { run.frg with runOn := 1 }.runOn ∧ run.frg.applied = 0 ∧ run.frg.defrost.endDue = none
      ∧ run.frg.defrost.phase ≠ .lockout ∧ run.hum.bus.queue = [] ∧ run.hum.bus.state ≠ .busy
      ∧ run.hum.bus.state ≠ .recovery ∧ 1000 < { run.hum.bus with recovery := 1001 }.recovery
      ∧ run.hum.pollTimer = none ∧ { Boost.reset with state := .boost }.limitDue = false
      ∧ 0 < { Boost.reset with state := .holdoff, holdoff := 1 }.holdoff
      ∧ run.hum.active = false ∧ run.flt.hoursDue = 0 ∧ run.flt.check.phase ≠ .settle
      ∧ run.flt.check.phase ≠ .waiting ∧ run.flt.check.phase ≠ .sample ∧ run.osc.device ≠ .filterService
      ∧ run.flt.writing = none ∧ run.osc.writing = none ∧ run.osc.stoppedSecs < 18
      ∧ run.dio.channel 5 = none ∧ { run.dio with cutContact := some .closed }.cutContact = some run.dio.cutRaw
      ∧ (run.lnk.link .main).replies = [] ∧ { LinkRec.reset with spaceHeld := true }.spaceHeld = true
      ∧ { Osc.reset with uptime := 4294967295 }.uptime = 4294967295 := by decide

/-- EventsNotDueChangeNothing: an entry and a boost record that wait for nothing. -/
theorem test_wit_EventsNotDue_sensors :
    (∀ e, run.hum.sensor 1 = some e → e.state ≠ .probing ∨ e.pause ≠ some 0)
      ∧ (∀ e, run.hum.sensor 8 = some e → e.state ≠ .lost ∨ 0 < e.lostTime)
      ∧ ∀ e b, run.hum.sensor 1 = some e → e.boost = some b → b.state ≠ .boost ∨ b.limitDue = false := by
  refine ⟨?_, ?_, ?_⟩
  · rintro e ⟨⟩; decide
  · rintro e ⟨⟩; decide
  · rintro e b ⟨⟩ ⟨⟩

/-- PowerOnLoadsAndResets: a first copy as new as the second, a second copy that is newer, and neither valid. -/
theorem test_wit_PowerOn :
    ((copyOf 5).valid = true ∧ (copyOf 5).writeCount ≤ (copyOf 5).writeCount)
      ∧ ((copyOf 6).valid = true ∧ (copyOf 5).writeCount < (copyOf 6).writeCount)
      ∧ State.reset.dio.channels.length = 4 ∧ (copyOf 5).spoiled.valid = false := by
  refine ⟨⟨copyOf_valid 5, Nat.le_refl 5⟩, ⟨copyOf_valid 6, by decide⟩, rfl, ?_⟩
  simp [SettingsCopy.valid]

/-- PowerOnLoadsAndResets: the filter block, likewise. -/
theorem test_wit_PowerOn_filters (b : FilterBlock) :
    ((FilterCopy.sealed b 5).crcOk = true ∧ (FilterCopy.sealed b 5).writeCount ≤ (FilterCopy.sealed b 5).writeCount)
      ∧ ((FilterCopy.sealed b 6).crcOk = true ∧ (FilterCopy.sealed b 5).writeCount < (FilterCopy.sealed b 6).writeCount)
      ∧ (FilterCopy.sealed b 5).spoiled.crcOk = false := by
  simp

/-- FramesArriveWhole: the longest payload, and a body whose last byte completes the frame. -/
theorem test_wit_FramesArriveWhole :
    (List.replicate 120 (0 : Byte)).length ≤ 120
      ∧ (Receiver.body [0, 1, 0, 0xFF]).byte 0xAD true = .arrived ⟨1, 0, []⟩ := by decide

/-- BytesReachReceiver: a receiver in each state, the frame of an unknown kind and of a known one, a length byte of 120 and
of 121, and a body that is a frame's but for its CRC. -/
theorem test_wit_BytesReachReceiver :
    let f := req .queryStatus .occupant []
    let g : Frame := { kind := 0, tag := 0, payload := [] }
    (withLink { LinkRec.reset with receiver := .body (f.bytes.drop 1).dropLast }).lnk.service.spaceHeld = false
      ∧ f.bytes = 0x7E :: ((f.bytes.drop 1).dropLast ++ [f.bytes.getLastD 0]) ∧ f.payload.length ≤ 120
      ∧ kindKnown f.kind = true
      ∧ g.bytes = 0x7E :: ((g.bytes.drop 1).dropLast ++ [g.bytes.getLastD 0]) ∧ kindKnown g.kind = false
      ∧ LinkRec.reset.waiting = [] ∧ LinkRec.reset.replies.length < 2 ∧ run.lnk.restarting = none
      ∧ (0x78 : Byte).toNat ≤ 120 ∧ 120 < (0x79 : Byte).toNat
      ∧ ([0, 1] : List Byte).length + 1 < frameLength [0, 1, 0] ∧ frameLength [0, 1, 2, 0, 0] ≤ 5
      ∧ (Receiver.header []).inFrame = true ∧ LinkRec.reset.receiver = .hunt false := by decide

/-- BytesReachReceiver, last clause: a CRC that differs is no frame's. -/
theorem test_wit_BytesReachReceiver_crc (f : Frame) : f.bytes ≠ 0x7E :: ([0, 1, 2, 0] ++ [0]) := by
  obtain ⟨k, t, p⟩ := f
  intro h
  have hl := congrArg List.length h
  simp [Frame.bytes, u16] at hl
  subst hl
  simp only [Frame.bytes, startMarker, List.length_nil, List.cons_append, List.nil_append, List.cons.injEq, u16] at h
  obtain ⟨-, -, rfl, rfl, h, -⟩ := h
  revert h; decide

/-- BreaksRepliesRestart: a link without and with ownership, one whose RESTART waits for its reply, and the other link. -/
theorem test_wit_BreaksRepliesRestart :
    run.lnk.restarting = none ∧ run.sup.owner ≠ some .service
      ∧ ({ run.sup with owner := some .service }.owner = some .service) ∧ (run.lnk.link .service).spaceHeld = false
      ∧ ({ run.lnk with restarting := some .service }.restarting = some .service)
      ∧ (withLink { LinkRec.reset with replies := [req .restart .system []] }).lnk.service.replies
        = [req .restart .system []]
      ∧ (ask .restart .system [] run).nextFrame .service = some (req .restart .system [])
      ∧ (Link.service ≠ .main ∧ (run.lnk.link .main).spaceHeld = false) := by decide

theorem test_wit_restart (o : Origin) (h : o ≠ .internal) :
    (ask .restart o [] run).hands .service .restart (req .restart o []) o [] :=
  ask_hands .restart o [] run (by cases o <;> first | decide | exact absurd rfl h)

/-- RequestsCheckedInOrder: a missing and an unknown origin byte, a length that does not fit, a state that does not hand the
kind on. -/
theorem test_wit_RequestsCheckedInOrder :
    let bad (p : List Byte) : Frame := { kind := 0x0C, tag := 0, payload := p }
    let s (p : List Byte) := withLink { LinkRec.reset with waiting := [bad p] }
    (s []).nextFrame .service = some (bad []) ∧ (bad []).kind.toNat = RequestKind.code .filterClose
      ∧ (s [3]).nextFrame .service = some (bad [3]) ∧ 2 < (3 : Byte).toNat
      ∧ statedOrigin 2 = some .service ∧ RequestKind.lengthFits .filterClose [0] = false
      ∧ RequestKind.lengthFits .filterClose [] = true ∧ RequestKind.takenIn .filterClose .standby = false := by decide

/-- The read requests, without and with their field. -/
def reads : List (RequestKind × List Byte) :=
  [(.queryStatus, []), (.readAirflow, []), (.readFrost, []), (.readFlags, []), (.readCapture, []), (.readDemands, []),
   (.readDemands, [12]), (.readSensors, []), (.readSensors, [8]), (.readFilters, []), (.readFilters, [2]),
   (.getSetting, [84]), (.getSetting, [85]), (.getNotices, [])]

/-- ReadsAnswerFields and NoticesFetched: each read is handed on in RUNNING. -/
theorem test_wit_reads (k : RequestKind) (fields : List Byte) (h : (k, fields) ∈ reads) :
    (ask k .occupant fields run).hands .service k (req k .occupant fields) .occupant fields := by
  have fits : ∀ x ∈ reads, x.1.lengthFits x.2 = true ∧ x.1.takenIn .running = true := by decide
  exact ask_hands _ _ _ _ ⟨rfl, rfl, rfl, fits _ h⟩

/-- ReadsAnswerFields: the last setting and one past it, and a channel whose raw contact has changed 50 ms ago. -/
theorem test_wit_ReadsAnswerFields :
    let ch : Channel := ⟨.boost, .level, .closedActive, some .opened, 50, .closed⟩
    (settingRow 84).isSome = true ∧ 84 < (85 : Byte).toNat ∧ ch.contact ≠ some ch.raw ∧ ch.debounce ≤ 50
      ∧ { ch with contact := some .closed }.contact = some ch.raw := by decide

/-! ### Requests with an effect -/

/-- PostDemandTaken: SERVICE posts its slot at level 12 with flows at Qmin and Qmax and an untimed run. -/
theorem test_wit_PostDemandTaken :
    let s := ask .postDemand .service [9, 12, 0, 60, 1, 44, 1, 0, 0] run
    s.hands .service .postDemand (req .postDemand .service [9, 12, 0, 60, 1, 44, 1, 0, 0]) .service
        [9, 12, 0, 60, 1, 44, 1, 0, 0]
      ∧ s.atRest ∧ s.osc.device.posting = true ∧ slotOfCode 9 = some .service ∧ Origin.mayWrite .service .service = true
      ∧ s.setting 2 ≤ s.setting 3 ∧ s.arb.watch.hits .service (s.arb.isFree .service) 12 = false
      ∧ s.arb.active ≠ some .filterCheck :=
  ⟨ask_hands _ _ _ _ (by decide), rests (by decide), by decide⟩

/-- A watch with action `a` on every new post of PANEL, FIRE and DEFROST. -/
def watched (a : WatchAction) : State :=
  { run with arb := { run.arb with watch := { Watch.reset with
    enabled := true, slots := [.panel, .fire, .defrost], action := a } } }

/-- WatchBlocksAndCaptures, first and second clause: OCCUPANT's PANEL post is watched, with either action. -/
theorem test_wit_WatchBlocksAndCaptures (a : WatchAction) :
    let s := ask .postDemand .occupant [4, 8, 0, 150, 0, 150, 0, 0, 1] (watched a)
    s.hands .service .postDemand (req .postDemand .occupant [4, 8, 0, 150, 0, 150, 0, 0, 1]) .occupant
        [4, 8, 0, 150, 0, 150, 0, 0, 1]
      ∧ s.osc.device.posting = true ∧ slotOfCode 4 = some .panel ∧ Origin.mayWrite .occupant .panel = true
      ∧ s.arb.watch.hits .panel (s.arb.isFree .panel)
        (s.clampPost .occupant { level := 8, supply := 150, extract := 150, run := some 1 }).level = true
      ∧ s.arb.watch.action = a ∧ s.sup.capture = none ∧ s.arb.active ≠ some .filterCheck ∧ s.atRest :=
  ⟨ask_hands _ _ _ _ (by cases a <;> decide), by cases a <;> decide, by cases a <;> decide, by cases a <;> decide,
    by cases a <;> decide, by cases a <;> decide, by cases a <;> decide, by cases a <;> decide,
    rests (by cases a <;> decide)⟩

/-- WatchBlocksAndCaptures: a record that is HELD by a watch and by a fault; internal posts of FIRE and of PANEL. -/
theorem test_wit_WatchBlocksAndCaptures_held :
    (Capture.watch .panel .occupant 8 8 150 150 none 7).isFault = false ∧ (Capture.fault .tempFault 0 0 0).isFault = true
      ∧ (watched .block).arb.watch.hits .fire ((watched .block).arb.isFree .fire) 15 = true
      ∧ (watched .block).osc.device.posting = true ∧ Slot.panel ≠ .fire ∧ Slot.panel ≠ .defrost := by decide

/-- DemandRequestsRefused: STOPPING, a slot code of 13, and a slot that the origin may not write. -/
theorem test_wit_DemandRequestsRefused :
    (ask .postDemand .system [13, 1, 0, 60, 0, 60, 0, 0, 1] run).hands .service .postDemand
        (req .postDemand .system [13, 1, 0, 60, 0, 60, 0, 0, 1]) .system [13, 1, 0, 60, 0, 60, 0, 0, 1]
      ∧ (ask .cancelDemand .system [1] run).hands .service .cancelDemand (req .cancelDemand .system [1]) .system [1]
      ∧ (inState .stopping).osc.device.posting = false ∧ slotOfCode 13 = none ∧ slotOfCode 1 = some .base
      ∧ Slot.base ∉ [Slot.schedule, .panel] := by
  refine ⟨?_, ?_, by decide⟩ <;> exact ask_hands _ _ _ _ (by decide)

/-- CancelDemandFrees: OCCUPANT cancels PANEL. -/
theorem test_wit_CancelDemandFrees :
    let s := ask .cancelDemand .occupant [4] run
    s.hands .service .cancelDemand (req .cancelDemand .occupant [4]) .occupant [4] ∧ s.atRest ∧ s.osc.device.posting = true
      ∧ slotOfCode 4 = some .panel ∧ Origin.mayWrite .occupant .panel = true :=
  ⟨ask_hands _ _ _ _ (by decide), rests (by decide), by decide⟩

/-- A table with PANEL active over SCHEDULE, which waits on the stack with BASE, and DRYNESS in the queue. -/
def table : Arb :=
  { Arb.reset with
    table := { DemandTable.reset with
      panel := some (demand 5 (some 9)), schedule := some (demand 3 none), dryness := some (demand 2 none) }
    active := some .panel, stack := [.schedule, .base], queue := [.dryness] }

theorem table_ok : ArbOk table where
  placed x := by cases x <;> decide
  apart := by decide
  top x w := by cases x <;> cases w <;> decide
  base := ⟨.baseReset, rfl, rfl, rfl, rfl, rfl⟩

/-- PostPlacesDemand: a FREE slot above and at the active level, and renewals of the active and of a waiting slot. -/
theorem test_wit_PostPlacesDemand :
    ArbOk table ∧ table.active = some .panel ∧ table.table.get .service = none ∧ table.level .panel = 5
      ∧ table.table.get .panel = some (demand 5 (some 9)) ∧ table.table.get .schedule = some (demand 3 none)
      ∧ (∀ w ∈ table.stack ++ table.queue, table.level w ≤ 3) ∧ (∃ w ∈ table.stack ++ table.queue, 2 < table.level w) :=
  ⟨table_ok, by decide⟩

/-- ReselectionPicksWinner: the active slot ends, a waiting one is freed, a FREE one stays. -/
theorem test_wit_ReselectionPicksWinner :
    ArbOk table ∧ table.active = some .panel ∧ table.stack ++ table.queue ≠ []
      ∧ Slot.dryness ∈ table.stack ++ table.queue ∧ table.table.get .fire = none :=
  ⟨table_ok, by decide⟩

/-- SetWatchReplaces: a configuration that is taken, one at SYSTEM, and a level of 16. -/
theorem test_wit_SetWatchReplaces :
    (ask .setWatch .service [1, 1, 1, 1, 15, 2, 1, 12] run).hands .service .setWatch
        (req .setWatch .service [1, 1, 1, 1, 15, 2, 1, 12]) .service [1, 1, 1, 1, 15, 2, 1, 12]
      ∧ (ask .setWatch .system [1, 1, 1, 1, 16, 0] run).hands .service .setWatch
        (req .setWatch .system [1, 1, 1, 1, 16, 0]) .system [1, 1, 1, 1, 16, 0] ∧ 15 < (16 : Byte).toNat
      ∧ (∀ c ∈ ([1, 12] : List Byte), c ≠ 0 ∧ c.toNat ≤ 12) := by
  refine ⟨?_, ?_, by decide⟩ <;> exact ask_hands _ _ _ _ (by decide)

/-- ManualOwnership: claims in RUNNING and DOOR_OPEN, with a defrost in progress, with another owner; a release. -/
theorem test_wit_ManualOwnership :
    (ask .claimManual .system [] run).hands .service .claimManual (req .claimManual .system []) .system []
      ∧ (ask .releaseManual .occupant [] run).hands .service .releaseManual (req .releaseManual .occupant []) .occupant []
      ∧ run.osc.device = .running ∧ run.frg.defrost.phase = .idle ∧ run.sup.owner = none
      ∧ (inState .doorOpen).osc.device ≠ .running ∧ (withDefrost .posted).frg.defrost.phase ≠ .idle
      ∧ (withDefrost .posted).frg.defrost.phase ≠ .lockout ∧ Link.main ≠ .service
      ∧ run.sup.owner ≠ some .service := by
  refine ⟨?_, ?_, by decide⟩ <;> exact ask_hands _ _ _ _ (by decide)

/-- The service link owns manual control. -/
def owned : State := { run with sup := { run.sup with owner := some .service } }

/-- ManualOutputsPost: the owner posts 1000 and 0 for 1800 s; the heater's run-on, and no owner, turn it away. -/
theorem test_wit_ManualOutputsPost :
    let s := ask .manualOutputs .system [3, 232, 0, 0, 0, 7, 8] owned
    s.hands .service .manualOutputs (req .manualOutputs .system [3, 232, 0, 0, 0, 7, 8]) .system [3, 232, 0, 0, 0, 7, 8]
      ∧ s.osc.device.posting = true ∧ s.sup.owner = some .service ∧ s.frg.applied = 0 ∧ s.frg.runOn = 0
      ∧ s.arb.watch.hits .manual (s.arb.isFree .manual) 14 = false ∧ 0 < { s.frg with runOn := 1 }.runOn
      ∧ run.sup.owner ≠ some .service ∧ (inState .stopping).osc.device.posting = false :=
  ⟨ask_hands _ _ _ _ (by decide), by decide⟩

/-- ManualOutputsPost, a watched post: the owner's, with either action, no record, a watch's and a fault's. -/
theorem test_wit_ManualOutputsPost_watched (a : WatchAction) :
    let s := ask .manualOutputs .system [3, 232, 0, 0, 0, 7, 8] { owned with
      arb := { run.arb with watch := { Watch.reset with enabled := true, slots := [.manual], action := a } } }
    s.hands .service .manualOutputs (req .manualOutputs .system [3, 232, 0, 0, 0, 7, 8]) .system [3, 232, 0, 0, 0, 7, 8]
      ∧ s.atRest ∧ s.osc.device.posting = true ∧ s.sup.owner = some .service ∧ s.frg.applied = 0 ∧ s.frg.runOn = 0
      ∧ s.arb.watch.hits .manual (s.arb.isFree .manual) 14 = true ∧ s.arb.watch.action = a ∧ s.sup.capture = none
      ∧ s.arb.active ≠ some .filterCheck :=
  ⟨ask_hands _ _ _ _ (by cases a <;> decide), rests (by cases a <;> decide), by cases a <;> decide⟩

/-- CheckFiltersStarts, FilterServiceRequests: each device state, phase and door that their clauses tell apart. -/
theorem test_wit_FilterRequests :
    (ask .checkFilters .system [] run).hands .service .checkFilters (req .checkFilters .system []) .system []
      ∧ (ask .filterOpen .system [] run).hands .service .filterOpen (req .filterOpen .system []) .system []
      ∧ (ask .filterClose .system [] (inState .filterService)).hands .service .filterClose (req .filterClose .system [])
        .system []
      ∧ run.flt.check.phase = .idle ∧ run.flt.supply.sensor ≠ .faulted ∧ run.flt.extract.sensor ≠ .faulted
      ∧ run.arb.watch.enabled = false ∧ (withCheck .sample).flt.check.phase ≠ .idle
      ∧ { Filter.reset with sensor := .faulted }.sensor = .faulted
      ∧ (withCheck .waiting).flt.check.phase = .waiting ∧ run.frg.applied = 0 ∧ run.frg.runOn = 0
      ∧ (withDefrost .lockout).frg.defrost.phase = .lockout ∧ (withCheck .settle).flt.check.phase = .settle
      ∧ (0 < { run.frg with runOn := 1 }.runOn ∧ run.cutCondition = none)
      ∧ (inState .filterService).flt.door = .closed ∧ { run.flt with door := .opened }.door = .opened := by
  refine ⟨?_, ?_, ?_, by decide⟩ <;> exact ask_hands _ _ _ _ (by decide)

/-- CheckFiltersStarts: a watch on FILTER_CHECK that blocks, and one that does not match. -/
theorem test_wit_CheckFiltersStarts_watched :
    let s := ask .checkFilters .system [] { run with arb := { run.arb with watch := { Watch.reset with
      enabled := true, slots := [.filterCheck], action := .block } } }
    s.hands .service .checkFilters (req .checkFilters .system []) .system [] ∧ s.atRest ∧ s.osc.device = .running
      ∧ s.flt.check.phase = .idle ∧ s.flt.startTestDue = false ∧ s.flt.supply.sensor ≠ .faulted
      ∧ s.flt.extract.sensor ≠ .faulted ∧ s.arb.watch.hits .filterCheck (s.arb.isFree .filterCheck) 6 = true
      ∧ s.arb.watch.action = .block ∧ s.sup.capture = none
      ∧ run.arb.watch.hits .filterCheck (run.arb.isFree .filterCheck) 6 = false :=
  ⟨ask_hands _ _ _ _ (by decide), rests (by decide), by decide⟩

/-- FilterServiceRequests, FILTER_OPEN with the heater to cool: with no cut, with FIRE active, with a FAILED path, and a check
that waits. -/
theorem test_wit_FilterOpen_heater :
    let hot : State := { withCheck .waiting with frg := { run.frg with runOn := 20 } }
    (ask .filterOpen .system [] hot).hands .service .filterOpen (req .filterOpen .system []) .system []
      ∧ hot.osc.device = .running ∧ hot.flt.check.phase = .waiting ∧ hot.frg.defrost.phase = .idle ∧ 0 < hot.frg.runOn
      ∧ hot.cutCondition = none ∧ hot.arb.table.fire = none ∧ 0 < { hot.frg with applied := 500 }.applied
      ∧ { hot.arb with active := some .fire }.active = some .fire
      ∧ ({ hot.afc with extract := { FanPath.reset with state := .failed } }.path .extract).state = .failed :=
  ⟨ask_hands _ _ _ _ (by decide), by decide⟩

/-- FilterServiceRequests, FILTER_CHANGED: both filters, one filter, a filter code of 3, and a write in flight. -/
theorem test_wit_FilterChanged :
    (ask .filterChanged .system [2] (inState .filterService)).hands .service .filterChanged
        (req .filterChanged .system [2]) .system [2]
      ∧ (2 : Byte).toNat ≤ 2 ∧ (1 : Byte).toNat = pathCode .extract ∧ (1 : Byte).toNat ≠ pathCode .supply
      ∧ 2 < (3 : Byte).toNat ∧ run.osc.device ≠ .filterService ∧ (inState .filterService).serviceOk
      ∧ ({ run.flt with writing := some ⟨run.flt.block, .first, 1⟩ }.writing.isSome = true) :=
  ⟨ask_hands _ _ _ _ (by decide), by decide, by decide, by decide, by decide, by decide,
    ⟨fun _ => by decide, fun _ => by decide⟩, by decide⟩

/-- ClearFlagsClears: STALL_SUPPLY and SETTINGS_DEFAULTED are named while the supply path is FAILED. -/
theorem test_wit_ClearFlagsClears :
    let s : State := ask .clearFlags .system [2, 1, 19] { withSupply { FanPath.reset with state := .failed } with
      sup := { Sup.reset with flags := { stallSupply := true } } }
    s.hands .service .clearFlags (req .clearFlags .system [2, 1, 19]) .system [2, 1, 19]
      ∧ (∀ g : Flag, (g == .stallSupply || g == .settingsDefaulted) = true
        ↔ (2 : Byte) = 255 ∨ ∃ b ∈ ([1, 19] : List Byte), b.toNat = g.code)
      ∧ s.sup.flags.get .stallSupply = true ∧ (s.afc.path .supply).state = .failed
      ∧ s.standing .settingsDefaulted = false ∧ 19 < (20 : Byte).toNat
      ∧ (∀ b ∈ ([1, 19] : List Byte), b ≠ 0 ∧ b.toNat ≤ 19) :=
  ⟨ask_hands _ _ _ _ (by decide), by intro g; cases g <;> decide, by decide⟩

/-- CaptureReleased: a HELD and an ARMED record, and OCCUPANT. -/
theorem test_wit_CaptureReleased (o : Origin) (h : o ≠ .internal) :
    (ask .releaseCapture o [] run).hands .service .releaseCapture (req .releaseCapture o []) o []
      ∧ run.sup.capture = none ∧ { run.sup with capture := some (.fault .tempFault 0 0 0) }.capture ≠ none :=
  ⟨ask_hands _ _ _ _ (by cases o <;> first | decide | exact absurd rfl h), by decide⟩

/-- SetSettingWrites: a number at its bound, a number that is clamped, the settings 30 and 64, an enumeration value that
names no position, a sensor address that is held elsewhere, and an id of 85. -/
theorem test_wit_SetSettingWrites :
    (ask .setSetting .service [1, 0, 0, 0, 60] run).hands .service .setSetting
        (req .setSetting .service [1, 0, 0, 0, 60]) .service [1, 0, 0, 0, 60]
      ∧ (settingRow 1).isSome = true ∧ (settingRow 30).isSome = true ∧ (settingRow 64).isSome = true
      ∧ ((settingRow 1).all fun r => settingTaken settingDefaults 1 r 60 == some 60
        && settingTaken settingDefaults 1 r 0 == some 60 && r.kind == .number) = true
      ∧ sensorClash settingDefaults 1 60 = false
      ∧ ((settingRow 17).all fun r => r.kind == .enumeration && decide (r.hi < 2)) = true
      ∧ sensorClash (settingSet settingDefaults 46 8) 47 8 = true
      ∧ ((settingRow 47).all fun r => settingTaken (settingSet settingDefaults 46 8) 47 r 8 == some 8) = true
      ∧ 84 < (85 : Byte).toNat ∧ settingDefaults.length = 84 :=
  ⟨ask_hands _ _ _ _ (by decide), by decide⟩

/-- StoresWriteAndEnd: a store that starts, one in progress, and the ends of both writes. -/
theorem test_wit_StoresWriteAndEnd :
    (ask .storeSettings .system [] run).hands .service .storeSettings (req .storeSettings .system []) .system []
      ∧ run.osc.writing = none
      ∧ { run.osc with writing := some ⟨settingDefaults, .first, 1⟩ }.writing = some ⟨settingDefaults, .first, 1⟩
      ∧ { run.flt with writing := some ⟨run.flt.block, .first, 1⟩ }.writing = some ⟨run.flt.block, .first, 1⟩
      ∧ run.flt.again = false ∧ { run.flt with again := true }.again = true :=
  ⟨ask_hands _ _ _ _ (by decide), by decide⟩

/-- StoresWriteAndEnd: the copies that tell a store's target and count apart, and a table that is stored. -/
theorem test_wit_StoresWriteAndEnd_copies :
    (copyOf 5).valid = true ∧ (copyOf 6).valid = true ∧ (copyOf 5).spoiled.valid = false
      ∧ tableValid settingDefaults = true
      ∧ (copyOf 5).writeCount < (copyOf 6).writeCount ∧ (copyOf 6).writeCount < 4294967295 :=
  ⟨copyOf_valid 5, copyOf_valid 6, by simp [SettingsCopy.valid], by decide⟩

/-- StandbyAccepted and WakeAccepted: RUNNING with the heater at rest and with a run-on, a check in flight, STANDBY and
STOPPING with the door closed and open. -/
theorem test_wit_StandbyAndWake :
    (ask .standby .system [] run).hands .service .standby (req .standby .system []) .system []
      ∧ (ask .wake .system [] (inState .standby)).hands .service .wake (req .wake .system []) .system []
      ∧ (ask .wake .system [] (inState .stopping)).hands .service .wake (req .wake .system []) .system []
      ∧ (ask .wake .occupant [] run).hands .service .wake (req .wake .occupant []) .occupant []
      ∧ run.frg.applied = 0 ∧ run.frg.runOn = 0
      ∧ (0 < { run.frg with runOn := 1 }.runOn ∧ run.extractLoss = false ∧ run.afc.supply.state ≠ .stalled
        ∧ run.afc.supply.state ≠ .failed)
      ∧ (withCheck .waiting).flt.check.phase ≠ .idle
      ∧ ({ table.table with filterCheck := some (demand 6 none) }.filterCheck ≠ none)
      ∧ { run.flt with door := .opened }.door = .opened ∧ (withDefrost .suspended).frg.defrost.phase = .suspended
      ∧ (withDefrost .lockout).frg.defrost.phase = .lockout ∧ run.arb.table.defrost = none
      ∧ ({ run.dio with channels := [⟨.fire, .level, .closedActive, some .closed, 0, .closed⟩] }.asserted .fire = true) := by
  refine ⟨?_, ?_, ?_, ?_, by decide⟩ <;> exact ask_hands _ _ _ _ (by decide)

/-- ProbeSensorRestarts: an entry of each state, the last entry and one past it. -/
theorem test_wit_ProbeSensorRestarts :
    (ask .probeSensor .service [1] (withSensor { wet with state := .absent })).hands .service .probeSensor
        (req .probeSensor .service [1]) .service [1]
      ∧ (ask .probeSensor .system [1] run).hands .service .probeSensor (req .probeSensor .system [1]) .system [1]
      ∧ (withSensor { wet with state := .absent }).hum.sensor 1 = some { wet with state := .absent }
      ∧ (withSensor wet).hum.sensor 1 = some wet ∧ wet.state = .online
      ∧ run.hum.sensor 8 = some (.reset 0 .dryRoom) ∧ run.hum.sensor 9 = none ∧ run.hum.sensor 0 = none := by
  refine ⟨?_, ?_, by decide⟩ <;> exact ask_hands _ _ _ _ (by decide)

/-! ### The second -/

/-- The readings of a second with the supply nozzle at `v` and the others in range. -/
def readings (v : Reading) : SecondReadings :=
  { supplyNozzle := v, extractNozzle := .value 0, supplyPulses := 21, extractPulses := 0, oda := .value (-400),
    sup := .value 800, eta := .openCircuit, eha := .value 801, supplyFilter := .value 1050, extractFilter := .value (-51) }

/-- The same with `n` pulses of the supply fan and both filter sensors in range. -/
def calm (v : Reading) (n : Nat) : SecondReadings :=
  { readings v with supplyPulses := n, extractFilter := .value 0 }

/-- A supply path that regulates towards 110. -/
def regulating : FanPath :=
  { FanPath.reset with state := .regulating, duty := 300, target := some 110, flow := some 94, speed := 630, zeroOffset := 20 }

/-- TickDrivesPaths: the ends of the valid range, the ends of the offset, an exact square root, a path that regulates
through the second, a fault and a zeroing second. -/
theorem test_wit_TickDrivesPaths :
    let s := withSupply regulating
    let t := after (.uptimeTick (readings (.value 84))) s
    exec (.uptimeTick (readings (.value 84))) s = .next t
      ∧ s.osc.uptime < 4294967295 ∧ -20 ≤ regulating.zeroOffset ∧ regulating.zeroOffset ≤ 20
      ∧ (-50 : Int) ≤ 84 ∧ (84 : Int) ≤ 550 ∧ s.osc.device.zeroing = false ∧ s.arb.table.manual = none
      ∧ 80 * 80 ≤ 100 * ((84 : Int) - 20).toNat ∧ 100 * ((84 : Int) - 20).toNat < (80 + 1) * (80 + 1)
      ∧ s.afc.supply.state.regulates = true ∧ s.afc.supply.target = some 110 ∧ t.afc.supply.flow = some 80
      ∧ t.afc.supply.state.regulates = true ∧ s.afc.supply.faulted = false ∧ s.sup.capture = none
      ∧ ((-51 : Int) < -50 ∧ (550 : Int) < 551)
      ∧ (State.reset.osc.device.zeroing = true ∧ 10 ≤ 17 ∧ 17 < 18) :=
  ⟨rfl, by decide⟩

/-- The part in RUNNING with the supply path `p` and a regulating extract path, each at the target that BASE gives it. -/
def driven (p : FanPath) : State :=
  { run with afc := { run.afc with
    supply := { p with target := some (run.setting 1) }
    extract := { regulating with target := some (run.setting 1) } } }

/-- A supply path in SPINUP, in STALLED, one that turns too slowly under good timing, and one that falls short. -/
def paths : List FanPath :=
  [{ FanPath.reset with state := .spinup, spinupTime := 14 }, { FanPath.reset with state := .stalled, retryTime := 1 },
   { regulating with speed := 90, goodTiming := true, goodTime := 9, stallTime := 9 },
   { regulating with state := .saturated, duty := 1000, flow := some 10, shortfallTime := 59 }]

/-- TickDrivesPaths, the path times: each of `paths` serves what it is asked to, beside a heater at rest. -/
theorem test_wit_TickDrivesPaths_times :
    ∀ p ∈ paths, (driven p).atRest ∧ ∀ j ∈ [PathId.supply, .extract],
      ((driven p).afc.path j).serve ((driven p).serveArgs j) = (driven p).afc.path j ∧ 0 < (driven p).driveRequest j := by
  have h : ∀ p ∈ paths, ∀ j ∈ [PathId.supply, .extract],
      ((driven p).afc.path j).serve ((driven p).serveArgs j) = (driven p).afc.path j
        ∧ 0 < (driven p).driveRequest j := by decide
  exact fun p hp => ⟨rests ⟨rfl, rfl, rfl, rfl⟩, h p hp⟩

/-- TickDrivesPaths: a stall condition and a shortfall that last through the second, readings and sensors in range. -/
theorem test_wit_TickDrivesPaths_conditions :
    let slow := driven { regulating with speed := 90, goodTiming := true, goodTime := 9, stallTime := 9 }
    let short := driven { regulating with state := .saturated, duty := 1000, flow := some 10, shortfallTime := 59 }
    let r := calm (.value 24) 3
    (slow.afc.supply.goodTiming = true ∧ slow.afc.supply.state.stallChecked = true ∧ 200 ≤ slow.afc.supply.duty
        ∧ slow.afc.supply.speed < slow.setting 23)
      ∧ (200 ≤ (after (.uptimeTick r) slow).afc.supply.duty ∧ (after (.uptimeTick r) slow).afc.supply.speed < 300
        ∧ (after (.uptimeTick r) slow).afc.supply.state.stallChecked = true)
      ∧ short.afc.supply.shortCond = true ∧ (after (.uptimeTick r) short).afc.supply.shortCond = true
      ∧ readingValid (-50) 1050 r.supplyFilter = true ∧ readingValid (-50) 1050 r.extractFilter = true
      ∧ slow.flt.supply.sensor ≠ .faulted ∧ slow.flt.extract.sensor ≠ .faulted := by decide

/-- TickReadsInputs: `readings` holds the ends of the ranges and readings beyond them; channels of each status. -/
theorem test_wit_TickReadsInputs :
    run.osc.uptime < 4294967295 ∧ { run.osc with uptime := 4294967294 }.uptime < 4294967295
      ∧ (readings (.value 0)).oda = .value (-400) ∧ (readings (.value 0)).sup = .value 800
      ∧ (readings (.value 0)).eta = .openCircuit ∧ (800 : Int) < 801
      ∧ (readings (.value 0)).supplyFilter = .value 1050 ∧ (-51 : Int) < -50
      ∧ (run.frg.channel .eta).status = .invalid ∧ (run.frg.channel .eta).everRead = false
      ∧ { TempChannel.reset with status := .good, lastGood := some 0, everRead := true }.status = .good
      ∧ { TempChannel.reset with status := .holding, holdTime := 59 }.status = .holding
      ∧ run.flt.supply.sensor ≠ .faulted
      ∧ (State.reset.osc.device.zeroing = true ∧ 10 ≤ { State.reset.osc with stoppedSecs := 10 }.stoppedSecs) := by decide

/-- A table with PANEL active over SCHEDULE, in PANEL's last second. -/
def lastSecond : State := { run with arb := { table with table := { table.table with panel := some (demand 5 (some 1)) } } }

/-- TickCounts: the last second of a run, a lockout, both kinds of recovery, a boost that reaches its limit. -/
theorem test_wit_TickCounts :
    let b := { Boost.reset with state := .boost, startTime := some 1400 }
    lastSecond.arb.activeDemand = some (demand 5 (some 1)) ∧ lastSecond.osc.device.posting = true
      ∧ (withDefrost .lockout).frg.defrost.phase = .lockout ∧ run.osc.device ≠ .servicePrepare
      ∧ ({ run.hum.bus with state := .recovery, recovery := 5000 }.state = .recovery) ∧ run.hum.bus.state ≠ .recovery
      ∧ { run.hum.bus with recovery := 1000 }.recovery ≠ 5000
      ∧ (withSensor { wet with boost := some b }).hum.sensor 1 = some { wet with boost := some b }
      ∧ b.startTime = some 1400 ∧ run.setting 42 ≤ 5001 - 1400 := by decide

theorem test_wit_TickCounts_rest : lastSecond.atRest := rests (by decide)

/-- The part in RUNNING with the heater's request at 500 and its duty at `n`, the supply path regulating. -/
def heated (n : Nat) : State :=
  { driven regulating with frg := { run.frg with request := 500, applied := n, outputOn := decide (0 < n), runOn := 7 } }

/-- TickCounts, the run-on: the duty falls to 0 with the supply nozzle's fault, rises from 0, and stays. -/
theorem test_wit_TickCounts_runOn :
    let t := after (.uptimeTick (calm (.value 551) 21)) (heated 500)
    let u := after (.uptimeTick (calm (.value 84) 21)) (heated 0)
    let v := after (.uptimeTick (calm (.value 551) 21)) (driven regulating)
    (heated 500).cutCondition = none ∧ t.cutCondition = none ∧ t.frg.applied = 0
      ∧ (heated 0).cutCondition = none ∧ u.cutCondition = none ∧ 0 < u.frg.applied
      ∧ v.cutCondition = none ∧ (driven regulating).frg.applied = 0 ∧ v.frg.applied = 0 ∧ (driven regulating).frg.request = 0
      ∧ (inState .doorOpen).cutCondition ≠ none := by decide

/-- TickCounts, the run-on with the heater off through the second: the path in HOLD, with the demand and the sensors as
they were. -/
theorem test_wit_TickCounts_off :
    let s := { heated 0 with afc := { (heated 0).afc with supply := { regulating with state := .hold } } }
    let t := after (.uptimeTick (calm (.value 2000) 21)) s
    s.frg.applied = 0 ∧ t.frg.applied = 0 ∧ s.cutCondition = none ∧ t.cutCondition = none ∧ s.tablesOk
      ∧ s.flt.startTestDue = false ∧ s.flt.supply.sensor ≠ .faulted ∧ s.flt.extract.sensor ≠ .faulted
      ∧ readingValid (-50) 1050 (calm (.value 2000) 21).supplyFilter = true
      ∧ s.arb.active = some .base ∧ (s.arb.table.get .base).bind (·.flows (s.setting 1)) = some (110, 110)
      ∧ t.frg.runOn = 6 := by
  refine ⟨by decide, by decide, by decide, by decide, ⟨by decide, by decide⟩, by decide⟩

/-- R121: the second that makes the accumulator 3600 returns it to 0 and completes a run hour. -/
theorem test_run_hour_completes :
    let t := after (.uptimeTick (calm (.value 551) 21))
      { driven regulating with flt := { run.flt with accumulator := 3599 } }
    t.flt.accumulator = 0 ∧ t.flt.hoursDue = 1 ∧ (after .runHour t).flt.hoursDue = 0 := by decide

/-- The duty is about to rise under HOOD with a supply flow of 0, where the run-on alone drives the supply path. -/
def hooded : State :=
  { heated 0 with arb := { run.arb with
    table := { run.arb.table with inputHood := some { demand 8 none with carry := .flows 0 250 } }
    active := some .inputHood, stack := [.base] } }

/-- R57, R60, R64: the duty rises as the flow reaches its minimum, which ends the run-on; the supply path goes OFF and the
duty falls again. Both changes of the stage are in the one entry of FROST_STAGE. -/
theorem test_stage_rises_and_falls :
    let t := after (.uptimeTick (calm (.value 84) 21)) hooded
    (t.lnk.mainQueue.entries.filter (·.kind == .frostStage)).map (fun e => (e.value, e.repeats)) = [(0, 2)]
      ∧ t.frg.stage = .none ∧ t.frg.applied = 0 ∧ t.frg.runOn = t.setting 29 := by decide

/-! ### Ends of times: demands and fans -/

/-- DemandExpires: PANEL expires over SCHEDULE. -/
theorem test_wit_DemandExpires :
    let s := { lastSecond with arb := { lastSecond.arb with expiring := true } }
    s.atRest ∧ s.arb.active = some .panel ∧ s.arb.table.get .panel = some (demand 5 (some 1)) ∧ s.arb.expiring = true
      ∧ Slot.panel ≠ .filterCheck ∧ Slot.panel ≠ .defrost :=
  ⟨rests (by decide), by decide⟩

/-- MANUAL is active with duties of 500. -/
def manualRun : State :=
  { run with arb := { run.arb with
    table := { run.arb.table with manual := some { demand 14 (some 60) with carry := .duties 500 500 } }
    active := some .manual, stack := [.base] } }

/-- FanTimersEnd: the spin-up ends at the stall speed and below it, with and without MANUAL; a stall with and without good
timing; the retry. -/
theorem test_wit_FanTimersEnd :
    let ok := { FanPath.reset with state := .spinup, spinupTime := 15, speed := 300 }
    let slow := { FanPath.reset with state := .spinup, spinupTime := 15, speed := 299, retryCount := 2 }
    let stalls := { regulating with stallTime := 10, goodTiming := true, retryCount := 2 }
    let retries := { FanPath.reset with state := .stalled, retryTime := 0 }
    (withSupply ok).atRest ∧ (withSupply retries).atRest
      ∧ (ok.state = .spinup ∧ 15 ≤ ok.spinupTime ∧ run.setting 23 ≤ ok.speed ∧ ok.faulted = false
        ∧ 0 < (withSupply ok).driveRequest .supply ∧ (withSupply ok).manualDuties = none
        ∧ manualRun.manualDuties ≠ none ∧ 0 < manualRun.driveRequest .extract)
      ∧ (slow.speed < run.setting 23 ∧ 2 ≤ slow.retryCount ∧ ok.retryCount < 2)
      ∧ (stalls.state.stallChecked = true ∧ 10 ≤ stalls.stallTime ∧ stalls.goodTiming = true ∧ 2 ≤ stalls.retryCount)
      ∧ (retries.state = .stalled ∧ retries.retryTime = 0 ∧ 0 < (withSupply retries).driveRequest .supply) :=
  ⟨rests (by decide), rests (by decide), by decide⟩

/-- GoodTimeAndShortfall: good time 10; a shortfall of 60 s, with and without a check that may start. -/
theorem test_wit_GoodTimeAndShortfall :
    let p := { regulating with state := .saturated, shortfallTime := 60, flow := some 98, goodTiming := true, goodTime := 10 }
    let s := withSupply p
    (withCheck .sample).atRest ∧ (withCheck .sample).flt.check.phase ≠ .idle
      ∧ p.goodTiming = true ∧ 10 ≤ p.goodTime ∧ 60 ≤ p.shortfallTime ∧ p.shortfallStanding = false ∧ p.state = .saturated
      ∧ p.flow = some 98 ∧ p.target = some 110 ∧ 98 * 100 < 110 * 90 ∧ s.osc.device = .running
      ∧ s.flt.check.phase = .idle ∧ s.flt.check.lastCompleted = none ∧ s.flt.supply.sensor ≠ .faulted
      ∧ s.flt.extract.sensor ≠ .faulted ∧ s.arb.watch.enabled = false
      ∧ (5000 - 1401 < 3600 ∧ 3600 ≤ 5000 - 1400) :=
  ⟨rests (by decide), by decide⟩

/-! ### Frost -/

/-- A channel that is GOOD at `v`. -/
def good (v : Int) : TempChannel := { TempChannel.reset with status := .good, raw := v, lastGood := some v, everRead := true }

/-- The part in RUNNING with the exhaust channel `eha`, an evaluation due and the load `load`. -/
def cold (eha : TempChannel) (load : Nat) : State :=
  { run with
    frg := { run.frg with oda := good (-180), sup := good 160, eta := good 210, eha := eha, evalTimer := 10, load := load }
    hum := { run.hum with extract := some (550, .duct) }
    afc := { run.afc with extract := { FanPath.reset with flow := some 140, target := some 150 } } }

/-- HoldExpires: the exhaust channel's hold ends into SUBSTITUTE, the outdoor channel's without a change of the regime. -/
theorem test_wit_HoldExpires :
    let c : TempChannel := { good (-42) with status := .holding, holdTime := 60 }
    let s := cold c 0
    let g := s.frg.setChannel .eha { c with status := .invalid }
    (s.frg.channel .eha).status = .holding ∧ 60 ≤ (s.frg.channel .eha).holdTime
      ∧ g = s.frg.setChannel .eha { s.frg.channel .eha with status := .invalid }
      ∧ g.eha.status = .invalid ∧ g.oda.status ≠ .invalid ∧ g.eta.status ≠ .invalid ∧ g.regime ≠ s.frg.regime
      ∧ g.regime = .substitute
      ∧ (g.setChannel .oda { good 0 with status := .invalid }).oda.status = .invalid
      ∧ (s.frg.setChannel .oda { good 0 with status := .invalid }).regime = s.frg.regime := by decide

/-- FrostEvaluationMeasures and FrostEvaluationActs: a negative margin in NORMAL, SUBSTITUTE and FIXED, the load below and
at the trip, and each device state. -/
theorem test_wit_FrostEvaluation :
    let s := cold (good (-42)) 0
    let t := after .frostEvaluation s
    exec .frostEvaluation s = .next t ∧ s.osc.device.zeroing = false ∧ 10 ≤ s.frg.evalTimer
      ∧ s.frg.regime = .normal ∧ t.frg.ehaInUse = some (-42) ∧ t.frg.rhEta = some 550 ∧ t.frg.margin = some (-52)
      ∧ t.frg.load < s.setting 32 ∧ s.frg.imbalance = 0 ∧ s.frg.exhausted < 2
      ∧ (cold (good 30) 0).frg.regime = .normal ∧ (after .frostEvaluation (cold (good 30) 0)).frg.margin = some 20
      ∧ (cold { good (-42) with status := .invalid } 0).frg.regime = .substitute
      ∧ { s.frg with oda := .reset, eha := .reset }.regime = .fixed
      ∧ s.arb.table.manual = none ∧ s.inUse 28 = 1 ∧ s.frg.defrost.phase = .idle
      ∧ (inState .doorOpen).osc.device ≠ .running ∧ (inState .stopping).osc.device = .stopping :=
  ⟨rfl, by decide⟩

theorem test_wit_FrostEvaluation_trip :
    let s := cold (good (-42)) 6000
    s.atRest ∧ s.setting 32 ≤ (after .frostEvaluation s).frg.load ∧ 0 < s.setting 32 ∧ s.arb.table.defrost = none
      ∧ s.arb.active = some .base ∧ s.arb.level .base < 13 :=
  ⟨rests (by decide), by decide⟩

/-- RunOnAndHeaterRows: a run-on at its end in each device state, a window at 1 and 1000, a lockout at its end. -/
theorem test_wit_RunOnAndHeaterRows :
    (inState .stopping).frg.runOn = 0 ∧ (inState .stopping).osc.device = .stopping
      ∧ (inState .servicePrepare).osc.device = .servicePrepare
      ∧ ((withDefrost .prepare).frg.runOn = 0 ∧ (withDefrost .prepare).osc.device = .running
        ∧ (withDefrost .prepare).frg.defrost.phase = .prepare)
      ∧ (0 < { run.frg with applied := 1, outputOn := true }.applied
        ∧ { run.frg with applied := 1, outputOn := true }.outputOn = true)
      ∧ { run.frg with applied := 1000 }.applied = 1000
      ∧ ((withDefrost .lockout).frg.defrost.phase = .lockout ∧ (withDefrost .lockout).frg.defrost.lockout = 0) := by decide

/-- RunOnAndHeaterRows, duty, cut and stage: the heater on and off, a cut and none, a stage that stays and one that
changes. -/
theorem test_wit_RunOnAndHeaterRows_cut :
    let hot (d : DevState) := { inState d with frg := { run.frg with runOn := 20 } }
    0 < (heated 500).frg.applied ∧ (heated 500).frg.applied < 1000 ∧ (heated 500).frg.outputOn = true
      ∧ (heated 0).frg.applied = 0 ∧ (heated 0).frg.outputOn = false ∧ (heated 500).cutCondition = none
      ∧ (hot .doorOpen).cutCondition = some .doorOpen ∧ 0 < (hot .doorOpen).frg.runOn
      ∧ ({ hot .stopping with afc := { run.afc with extract := { FanPath.reset with state := .failed } } }.cutCondition
        = some .extractLoss)
      ∧ run.frg.stage = .none ∧ run.frg.imbalance = 0 ∧ (withDefrost .posted).frg.defrost.phase ≠ .idle
      ∧ (withDefrost .posted).frg.defrost.phase ≠ .lockout := by decide

/-- DefrostEnds: both ends, and updates at and before the end of confirm and of the duration. -/
theorem test_wit_DefrostEnds :
    let d := { Defrost.reset with phase := .confirm, elapsed := 899, confirm := 59, runSince := 4000, confirmSince := 4900 }
    let s := { run with
      frg := { run.frg with defrost := d }
      arb := { run.arb with active := some .defrost, stack := [.base] }
      afc := { run.afc with extract := regulating } }
    ({ d with endDue := some (.cleared, 900, 60) }.endDue = some (.cleared, 900, 60)
        ∧ { d with endDue := some (.incomplete, 900, 0) }.endDue = some (.incomplete, 900, 0))
      ∧ (s.frg.defrost.phase = .confirm ∧ s.frg.defrost.endDue = none ∧ s.arb.active = some .defrost
        ∧ s.afc.extract.state.regulates = true
        ∧ s.frg.defrost.runSince < s.osc.uptime ∧ s.frg.defrost.confirmSince < s.osc.uptime)
      ∧ 60 ≤ d.confirm + 1 ∧ s.setting 34 ≤ d.elapsed + 1 ∧ { d with elapsed := 898 }.elapsed + 1 < s.setting 34
      ∧ { d with confirm := 58 }.confirm + 1 < 60 := by decide

/-- DefrostEnds, the whole record: DEFROST is active over BASE, and an end is marked in CONFIRM. -/
theorem test_wit_DefrostEnds_order :
    let s : State := { withDefrost .confirm with arb := { run.arb with
      table := { run.arb.table with defrost := some { demand 13 none with origin := .internal } }
      active := some .defrost, stack := [.base] } }
    ArbOk s.arb ∧ s.endMarked where
  left := {
    placed := by intro x; cases x <;> decide
    apart := by decide
    top := by intro x w; cases x <;> cases w <;> decide
    base := ⟨.baseReset, rfl, rfl, rfl, rfl, rfl⟩ }
  right := fun _ => .inr rfl

/-- The run-on timer at 0 with a defrost in PREPARE, a STANDBY on the service link, and `q` in the queue. -/
def prepared (q : List Instr) : State := { ask .standby .system [] (withDefrost .prepare) with pending := q }

/-- RunOnAndHeaterRows: the heater at rest, and a next command that is a STANDBY, is none, and is on another link. -/
theorem test_wit_RunOnAndHeaterRows_post (q : List Instr) :
    (prepared q).atRest ∧ (prepared [.standby .service]).standbyNext = true ∧ (prepared []).standbyNext = false
      ∧ (prepared [.standby .main]).standbyNext = false ∧ (prepared q).arb.table.defrost = none
      ∧ (prepared q).arb.active = some .base ∧ (prepared q).arb.level .base < 13 :=
  ⟨rests ⟨rfl, rfl, rfl, rfl⟩, by decide, by decide, by decide, rfl, rfl, by change (1 : Nat) < 13; decide⟩

/-- R81, the first point: the timer's end beside STANDBY posts DEFROST and leaves the phase POSTED, uncounted. -/
theorem test_r81_posted :
    (after .runOnEnd (prepared [.standby .service])).arb.active = some .defrost
      ∧ (after .runOnEnd (prepared [.standby .service])).frg.defrost
        = { (prepared []).frg.defrost with phase := .posted } := by decide

/-- R81: STANDBY then frees the slot, and SUSPENDED with started no results; R71: alone, the timer's end starts a defrost. -/
theorem test_r81_suspended :
    let t := after (.standby .service) (after .runOnEnd (prepared [.standby .service]))
    t.frg.defrost.phase = .suspended ∧ t.frg.defrost.started = false ∧ t.frg.defrost.count = 0 ∧ t.arb.table.defrost = none
      ∧ (after .runOnEnd (prepared [])).frg.defrost.phase = .running
      ∧ (after .runOnEnd (prepared [])).frg.defrost.count = 1 := by decide

/-! ### Sensors, boosts, filters, inputs -/

/-- A transaction of `k` with entry 1 is under way. -/
def busy (k : BusKind) (e : Sensor) : State :=
  { withSensor e with hum := { (withSensor e).hum with
    bus := { Bus.reset with state := .busy, queue := [(1, k)], flight := releaseSequence ++ .lineTest :: k.sequence 8 } } }

/-- BusTransactions: the start of either kind, the end of a PROBE at the last and next to last attempt, the third
timeout, the recovery. -/
theorem test_wit_BusTransactions :
    let e := { wet with state := .probing, attempts := 9 }
    (busy .probe e).hum.bus.state = .busy ∧ (busy .probe e).hum.bus.queue = [(1, .probe)]
      ∧ (busy .probe e).hum.sensor 1 = some e ∧ (busy .probe e).setting 38 ≤ min (e.attempts + 1) 50
      ∧ min ({ e with attempts := 8 }.attempts + 1) 50 < (busy .probe e).setting 38
      ∧ (busy .probe wet).hum.sensor 1 = some wet ∧ wet.state ≠ .probing
      ∧ ({ Bus.reset with queue := [(1, .probe)] }.queue ≠ [] ∧ Bus.reset.state = .idle)
      ∧ { Bus.reset with queue := [(1, .measure)] }.queue = (1, BusKind.measure) :: [] ∧ wet.address = 8
      ∧ { Bus.reset with state := .recovery, recovery := 1000 }.state = .recovery
      ∧ Bus.reset.timeouts < 2 ∧ 2 ≤ { Bus.reset with timeouts := 2 }.timeouts
      ∧ Bus.reset.releaseDue = true ∧ { Bus.reset with releaseDue := false }.releaseDue = false
      ∧ (busy .probe e).hum.bus.flight = releaseSequence ++ .lineTest :: BusKind.probe.sequence 8
      ∧ BusItem.lineTest ∉ releaseSequence := by decide

/-- R174: an absent capture has the bytes of one of the two kinds (log 23). -/
theorem test_absent_capture : State.reset.sup.captureBytes.length = 3 + 9 ∨ State.reset.sup.captureBytes.length = 3 + 14 := by
  simp only [Sup.captureBytes, State.reset, Sup.reset]
  cases Config.absentAsWatch <;> decide

/-- RangesKept: a transaction in flight. -/
theorem test_wit_flight (k : BusKind) : (busy k wet).hum.bus.state = .busy ∧ (busy k wet).flightOk :=
  ⟨rfl, fun _ => ⟨releaseSequence, k.sequence 8, by decide, by cases k <;> decide, rfl⟩⟩

/-- What passes in a MEASURE to address 8 that ends with `c`. -/
def passed (c : Instr) : List BusItem :=
  (after c (after .transactionStart { withSensor wet with hum := { (withSensor wet).hum with
    bus := { Bus.reset with releaseDue := false, queue := [(1, .measure)] } } })).hum.bus.sent

/-- R84: three pulses free the data line, or nine do not; R86: each high acknowledge bit ends with a stop condition. -/
theorem test_line_test_and_stop :
    passed (.measureComplete (.noAck 3 .writeAddress)) = [.clock, .clock, .clock, .start, .send 16, .stop]
      ∧ passed (.measureComplete (.noAck 0 .command)) = [.start, .send 16, .send 0x4D, .stop]
      ∧ passed (.measureComplete (.noAck 0 .readAddress)) = [.start, .send 16, .send 0x4D, .start, .send 17, .stop]
      ∧ passed (.measureComplete .dataLow) = List.replicate 9 .clock := by decide

/-- R88: a stretch timeout sends no stop condition. -/
theorem test_stretch_without_stop : .stop ∉ passed .stretchTimeout := by
  show .stop ∉ [] ++ (List.replicate _ BusItem.clock ++ (BusKind.measure.sequence 8).dropLast).take _ ++ [.release]
  intro h
  rcases List.mem_append.1 h with h | h
  · rcases List.mem_append.1 (List.mem_of_mem_take h) with h | h
    · cases (List.mem_replicate.1 h).2
    · exact absurd h (by decide)
  · exact absurd h (by decide)

/-- R94: the release sequence stands on the bus through RECOVERY, and not after it. -/
theorem test_release_sequence :
    let s := busy .probe wet
    let t := after .stretchTimeout { s with hum := { s.hum with bus := { s.hum.bus with timeouts := 2 } } }
    t.hum.bus.state = .recovery ∧ t.hum.bus.flight = .release :: List.replicate 9 .clock ++ [.stop]
      ∧ (after .recoveryEnd { t with hum := { t.hum with bus := { t.hum.bus with recovery := 1000 } } }).hum.bus.flight
        = [] := by decide

/-- MeasureReachesEntry: −400 and 1050 with each status byte, a CRC that differs, a value out of range, the second and
the third failure (of a stretch timeout too), and an entry that is not ONLINE. -/
theorem test_wit_MeasureReachesEntry :
    (busy .measure wet).hum.bus.state = .busy ∧ (busy .measure wet).hum.bus.queue = [(1, .measure)]
      ∧ (busy .measure wet).hum.sensor 1 = some wet ∧ wet.state = .online
      ∧ crc8 [0xFE, 0x70, 0x04, 0x1A, 0] = 65 ∧ crc8 [0xFE, 0x70, 0x04, 0x1A, 1] = 112
      ∧ crc8 [0xFE, 0x70, 0x04, 0x1A, 2] = 35 ∧ crc8 [0xFE, 0x70, 0x04, 0x1A, 2] ≠ 36
      ∧ ((0xFE : Byte) ++ (0x70 : Byte) : BitVec 16).toInt = -400 ∧ be16 0x04 0x1A ≤ 1050
      ∧ crc8 [0x03, 0x20, 0x04, 0x1B, 0] = 105 ∧ 1050 < be16 0x04 0x1B
      ∧ { wet with failures := 1 }.failures < 2 ∧ 2 ≤ { wet with failures := 2 }.failures
      ∧ (busy .measure wet).hum.active = true ∧ wet.boost = some .reset ∧ (busy .measure wet).hum.bus.timeouts < 2
      ∧ { wet with state := .lost }.state ≠ .online
      ∧ (busy .measure wet).hum.bus.flight = releaseSequence ++ .lineTest :: BusKind.measure.sequence 8 := by decide

/-- SensorTimersEnd: each timer at its end, and a ring tick that turns dryness on. -/
theorem test_wit_SensorTimersEnd :
    let e := { wet with lastHum := some 299, lastStatus := some .ok, lastGood := some 4990 }
    let s := { withSensor e with
      hum := { (withSensor e).hum with ringTimer := 60 }, frg := { run.frg with oda := good (-180) } }
    { s.hum with pollTimer := some 10 }.pollTimer = some 10
      ∧ ({ wet with state := .probing, pause := some 0 }.pause = some 0)
      ∧ ({ wet with state := .lost, lostTime := 0 }.lostTime = 0)
      ∧ s.hum.active = true ∧ 60 ≤ s.hum.ringTimer ∧ s.hum.sensor 1 = some e ∧ e.fresh s.osc.uptime = true
      ∧ s.hum.dryOn = false ∧ s.hum.drynessMark = false ∧ s.osc.device = .running ∧ s.arb.watch.enabled = false
      ∧ (after .ringTick s).hum.dryOn = true
      ∧ (after .ringTick { s with hum := { s.hum with sensors := [], drynessMark := true } }).hum.dryOn = false := by decide

theorem sensor_one {e : Sensor} {s : State} (h : s.hum.sensors = [e]) {k : Nat} {f : Sensor} (hf : s.hum.sensor k = some f) :
    k = 1 ∧ f = e := by
  simp only [Hum.sensor, h] at hf
  split at hf
  · cases hf
  · obtain ⟨hk, rfl⟩ := List.getElem?_eq_some_iff.mp hf
    simp only [List.length_cons, List.length_nil] at hk
    obtain rfl : k = 1 := by omega
    exact ⟨rfl, rfl⟩

/-- BoostsStartAndEnd: a reading at the absolute threshold, a rise from the ring, the end of a boost at its target, its
limit and the end of its holdoff. -/
theorem test_wit_BoostsStartAndEnd :
    let b := { Boost.reset with state := .boost, endTarget := some 699, time := 600 }
    let h := { Boost.reset with state := .holdoff, holdoff := 0 }
    let s := busy .measure { wet with ring := [600, 610, 620] }
    (∀ k f c, s.hum.sensor k = some f → f.boost = some c → c.state ≠ .boost)
      ∧ (∀ k f c, k ≠ 1 → s.hum.sensor k = some f → f.boost = some c → c.state ≠ .boost)
      ∧ s.hum.sensor 1 = some { wet with ring := [600, 610, 620] } ∧ wet.boost = some .reset ∧ s.hum.active = true
      ∧ s.hum.bus.state = .busy ∧ s.hum.bus.queue = [(1, .measure)] ∧ wet.state = .online
      ∧ crc8 [0x00, 0xC8, 0x02, 0xEE, 0] = 154 ∧ be16 0x02 0xEE = 750 ∧ s.setting 39 ≤ 750
      ∧ crc8 [0x00, 0xC8, 0x02, 0xED, 0] = 183 ∧ (749 : Nat) < s.setting 39 ∧ 600 + s.setting 40 ≤ 749
      ∧ (600 ∈ [600, 610, 620] ∧ ∀ v ∈ [600, 610, 620], 600 ≤ v)
      ∧ s.hum.humidityMark = false ∧ s.osc.device = .running ∧ s.arb.watch.enabled = false
      ∧ (b.state = .boost ∧ s.setting 41 ≤ b.time ∧ 699 + 50 < s.setting 39 ∧ { b with limitDue := true }.limitDue = true)
      ∧ (h.state = .holdoff ∧ h.holdoff = 0) := by
  refine ⟨?_, ?_, by decide⟩
  · intro k f c hf hc
    obtain ⟨-, rfl⟩ := sensor_one rfl hf
    obtain rfl : c = .reset := (Option.some.inj hc).symm
    decide
  · intro k f c hk hf
    exact absurd (sensor_one rfl hf).1 hk

/-- CheckPhasesPass: the ends of stable, settle and waiting times, and seconds inside and outside the band,
one of them without a flow. -/
theorem test_wit_CheckPhasesPass :
    let c := run.flt.check
    let s := { withCheck .sample with
      afc := { run.afc with supply := { regulating with flow := some 143 }, extract := { regulating with flow := some 157 } } }
    (30 ≤ { c with stable := 30 }.stable) ∧ ({ c with stable := 29, settle := 179 }.stable < 30)
      ∧ { c with timeoutDue := true }.timeoutDue = true ∧ c.timeoutDue = false ∧ 21600 ≤ { c with waiting := 21600 }.waiting
      ∧ (withCheck .settle).flt.check.phase = .settle ∧ (withCheck .waiting).flt.check.phase = .waiting
      ∧ s.flt.check.scheduledDue = false ∧ s.setting 10 = 150 ∧ s.afc.supply.flow = some 143
      ∧ s.afc.extract.flow = some 157 ∧ s.flt.supply.sensor ≠ .faulted ∧ s.flt.extract.sensor ≠ .faulted
      ∧ (100 * 143 ≤ 105 * 150 ∧ 95 * 150 ≤ 100 * 143 ∧ 100 * 157 ≤ 105 * 150)
      ∧ run.afc.extract.flow = some 0 ∧ { regulating with flow := none }.flow = none
      ∧ s.flt.check.samples < 16 ∧ s.flt.supply.raw = .value 0 ∧ s.flt.extract.raw = .value 0 := by decide

/-- R129, R130: SAMPLE at a settle time of 180 s, left out of the band, times out at the next increment in SETTLE and not
before. -/
theorem test_settle_timeout_after_sample :
    let s := { withCheck .sample with flt := { (withCheck .sample).flt with check :=
      { (withCheck .sample).flt.check with settle := 180, stable := 30 } } }
    let t := s.checkSecond
    t.flt.check.phase = .settle ∧ t.flt.check.settle = 180 ∧ (after .settleTimeout t).flt.check.phase = .settle
      ∧ (after .settleTimeout t.checkSecond).flt.check.outcome = some .settleTimeout := by decide

/-- CheckPhasesPass, WAITING and back: FILTER_CHECK becomes ACTIVE as PANEL is freed, the cap comes and goes, PANEL preempts
at a suspension of 1 and of 2. -/
theorem test_wit_CheckPhasesPass_waiting :
    let check := { demand 6 none with carry := .flows 150 150 }
    let arb := { run.arb with table := { run.arb.table with filterCheck := some check } }
    let s := { withCheck .settle with arb := { arb with active := some .filterCheck, stack := [.base] } }
    let w := { withCheck .waiting with
      arb := { arb with table := { arb.table with panel := some (demand 8 none) }, active := some .panel
                        stack := [.filterCheck, .base] } }
    s.arb.active = some .filterCheck ∧ s.arb.table.get .panel = none ∧ s.arb.level .filterCheck < 8
      ∧ w.arb.active = some .panel ∧ (w.arb.free .panel).1.active = some .filterCheck ∧ w.flt.check.phase = .waiting
      ∧ w.frg.imbalance = 0 ∧ 0 < { w.frg with imbalance := 1 }.imbalance
      ∧ s.flt.check.suspensions < 2 ∧ 2 ≤ { s.flt.check with suspensions := 2 }.suspensions
      ∧ (run.startCheck .requested).2 = .ok := by decide

/-- EvaluateCompletes: 16 samples that give 91 at the reference, with a baseline and 8 entries of history. -/
theorem test_wit_EvaluateCompletes :
    let d := { FilterData.reset with baseline := some 60, history := List.replicate 8 (100, 62) }
    let s := { run with flt := { run.flt with
      supply := { Filter.reset with data := d }, runHours := 1300
      check := { run.flt.check with
        phase := .sample, samples := 16, supplyDp := 1344, supplyQ := 2304, extractDp := 1344, extractQ := 2304 } } }
    exec .evaluate s = .next (after .evaluate s)
      ∧ s.flt.check.phase = .sample ∧ 16 ≤ s.flt.check.samples ∧ 1344 / 16 = 84 ∧ 2304 / 16 = 144
      ∧ 91 = min 1200 ((84 * 150 ^ 2 + 144 ^ 2 / 2) / 144 ^ 2)
      ∧ s.flt.supply.data.baseline = some 60 ∧ s.flt.extract.data.baseline = none ∧ s.setting 62 = 150
      ∧ s.flt.supply.data.history.length = 8 ∧ s.flt.extract.data.history.length < 8
      ∧ (after .evaluate s).flt.supply.data.history = List.replicate 7 (100, 62) ++ [(1300, 91)]
      ∧ s.flt.check.scheduledDue = false ∧ s.flt.writing = none :=
  ⟨rfl, by decide⟩

/-- RunHourAndServiceTimer: a full hour, the hour of a check, the 24th hour, the last run hour, and the timer's end with
the door closed and open. -/
theorem test_wit_RunHourAndServiceTimer :
    let s := { run with flt := { run.flt with hoursDue := 1, runHours := 22 } }
    let u := { run with flt := { run.flt with hoursDue := 1, runHours := 23 } }
    { u.flt with runHours := 4294967295 }.runHours = 4294967295 ∧ 0 < s.flt.hoursDue ∧ s.flt.check.scheduledDue = false
      ∧ min (s.flt.check.hoursSinceCheck + 1) 65535 < s.setting 65
      ∧ s.setting 65 ≤ min ({ s.flt.check with hoursSinceCheck := s.setting 65 - 1 }.hoursSinceCheck + 1) 65535
      ∧ (after .runHour s).flt.runHours % 24 ≠ 0 ∧ (after .runHour u).flt.runHours % 24 = 0 ∧ u.flt.writing = none
      ∧ (inState .filterService).osc.device = .filterService
      ∧ { run.flt with serviceEndDue := true }.serviceEndDue = true ∧ run.flt.door = .closed
      ∧ { run.flt with door := .opened }.door = .opened := by decide

/-- ZeroingCompletes: the eighth reading in STARTING and WAKING, means of 20 and 21, hard frost, a suspended defrost. -/
theorem test_wit_ZeroingCompletes :
    State.reset.osc.device = .starting ∧ (inState .waking).osc.device = .waking
      ∧ 18 ≤ { State.reset.osc with stoppedSecs := 18 }.stoppedSecs
      ∧ (-20 ≤ Int.tdiv 167 8 ∧ Int.tdiv 167 8 ≤ 20) ∧ 20 < Int.tdiv 168 8
      ∧ State.reset.afc.extract.flow = some 0 ∧ State.reset.frg.load = 0 ∧ State.reset.setting 32 ≤ 30000
      ∧ (cold (good 0) 0).frg.odaInUse < -100 ∧ (withDefrost .suspended).frg.defrost.phase = .suspended := by decide

theorem test_wit_demandsOk : State.reset.demandsOk :=
  ⟨{ placed := by intro x; cases x <;> decide
     apart := by decide
     top := by intro x w h; cases h
     base := ⟨.baseReset, rfl, rfl, rfl, rfl, rfl⟩ }, rfl, rfl, rfl⟩

/-- Channel 1 with function `f`, its contact `c` and its raw contact `r`. -/
def withInput (f : InputFunction) (c : Option Contact) (r : Contact) : State :=
  { run with dio := { run.dio with channels := [⟨f, .level, .closedActive, c, 0, r⟩] } }

/-- InputsDebounced: for each function an assertion, a deassertion and a contact established, in a posting state. -/
theorem test_wit_InputsDebounced :
    let flip (s : State) := s.dio.updChannel 1 fun k => { k with contact := some k.raw, debounce := 0 }
    run.atRest ∧ (∀ f ∈ [InputFunction.boost, .hood, .fire, .filterDoor],
        (withInput f (some .opened) .closed).dio.asserted f = false
          ∧ (flip (withInput f (some .opened) .closed)).asserted f = true
          ∧ (withInput f (some .closed) .opened).dio.asserted f = true
          ∧ (flip (withInput f (some .closed) .opened)).asserted f = false
          ∧ (withInput f none .closed).dio.asserted f = false ∧ (flip (withInput f none .closed)).asserted f = true
          ∧ (flip (withInput f none .opened)).asserted f = (withInput f none .opened).dio.asserted f)
      ∧ (withInput .boost (some .opened) .closed).dio.channel 1 = some ⟨.boost, .level, .closedActive, some .opened, 0, .closed⟩
      ∧ run.osc.device.posting = true ∧ (inState .stopping).osc.device.posting = false ∧ run.arb.watch.enabled = false
      ∧ 0 < run.setting 15 ∧ 0 < run.setting 16 ∧ (withInput .boost none .closed).dio.level .boost = true
      ∧ { run.dio with boostMark := true }.boostMark = true
      ∧ run.dio.cutRaw = .closed ∧ run.dio.cutContact ≠ some .closed ∧ run.sup.capture = none :=
  ⟨rests (by decide), by decide⟩

/-- InputsDebounced: a watch that blocks both slots, an assertion and a renewal by deassertion; the cutout opens with the
heater on. -/
theorem test_wit_InputsDebounced_watched :
    let w (s : State) : State := { s with arb := { s.arb with watch := { Watch.reset with
      enabled := true, slots := [.inputBoost, .inputHood], action := .block } } }
    let marked (s : State) : State := { w s with dio := { s.dio with boostMark := true } }
    (w run).atRest ∧ (w run).sup.capture = none
      ∧ (∀ x ∈ [(Slot.inputBoost, (w run).setting 13), (.inputHood, (w run).setting 14)],
        (w run).arb.watch.hits x.1 ((w run).arb.isFree x.1) x.2 = true) ∧ (w run).arb.watch.action = .block
      ∧ (marked (withInput .boost (some .closed) .opened)).dio.boostMark = true
      ∧ (marked (withInput .boost (some .closed) .opened)).dio.level .boost = true
      ∧ (heated 500).cutCondition = none ∧ (heated 500).flt.startTestDue = false ∧ (heated 500).sup.capture = none
      ∧ (heated 500).dio.cutContact ≠ some .opened ∧ (heated 500).frg.applied = 500 :=
  ⟨rests (by decide), by decide⟩

/-! ### Targets, extract humidity, relays, notices -/

/-- SCHEDULE at flows of 300 and 150 is active over BASE. -/
def scheduled : State :=
  { run with arb := { run.arb with
    table := { run.arb.table with schedule := some { demand 3 none with carry := .flows 300 150 } }
    active := some .schedule, stack := [.base] } }

/-- TargetsMovePaths: fans stopped, no demand, MANUAL, a demand with flows, BASE, an imbalance and a run-on, and an extract
path that is FAILED. -/
theorem test_wit_TargetsMovePaths :
    (inState .doorOpen).osc.device = .doorOpen ∧ State.reset.arb.active = none
      ∧ (manualRun.arb.active = some .manual
        ∧ manualRun.arb.table.manual = some { demand 14 (some 60) with carry := .duties 500 500 })
      ∧ (scheduled.arb.active = some .schedule
        ∧ scheduled.arb.table.get .schedule = some { demand 3 none with carry := .flows 300 150 })
      ∧ run.arb.table.get .base = some .baseReset ∧ Demand.baseReset.carry = .baseFlow
      ∧ 0 < { run.frg with imbalance := 10 }.imbalance ∧ 0 < { run.frg with runOn := 1 }.runOn
      ∧ { FanPath.reset with state := .failed }.state = .failed := by decide

/-- TargetsMovePaths: a path that is asked for a flow, for nothing and for a duty, in the states that tell apart. -/
theorem test_wit_TargetsMovePaths_serve :
    let v : Serve := run.serveArgs .supply
    let hold := { regulating with state := .hold, target := some 100, duty := 300 }
    let manual := { regulating with state := .manual, speed := 300 }
    v.manual = none ∧ v.target = some (run.setting 1) ∧ 0 < run.setting 1 ∧ v.minDuty ≤ 1000
      ∧ { v with target := some 0 }.target = some 0 ∧ { v with manual := some 0 }.manual = some 0
      ∧ FanPath.reset.state = .off ∧ (hold.target = some 100 ∧ 100 ≠ { v with target := some 110 }.target.getD 0)
      ∧ v.stallSpeed ≤ manual.speed ∧ { manual with speed := 299 }.speed < v.stallSpeed
      ∧ v.becameManual = false ∧ { v with becameManual := true }.becameManual = true := by decide

/-- BASE is active at 113, both paths are in HOLD at duty 283, and BOOST (level 7) and HOOD (level 8) stand asserted. -/
def held : State :=
  let p : FanPath := { FanPath.reset with state := .hold, duty := 283, target := some 113, faulted := true, flow := none }
  { inState .stopping with
    osc := { (inState .stopping).osc with working := settingSet (settingSet settingDefaults 1 113) 13 7 }
    afc := { run.afc with supply := p, extract := p }
    dio := { run.dio with channels := [⟨.boost, .level, .closedActive, some .closed, 0, .closed⟩,
      ⟨.hood, .level, .closedActive, some .closed, 0, .closed⟩] } }

/-- R29, R35: WAKE in STOPPING posts INPUT_BOOST (220), then INPUT_HOOD (250), and the held extract duty scales at each:
283 × 220 / 113 is 550, and 550 × 250 / 220 is 625, where 283 × 250 / 113 is 626. -/
theorem test_hold_scales_at_each_change :
    held.wakeFromStopping.afc.extract.duty = 625 ∧ held.wakeFromStopping.arb.active = some .inputHood := by decide

/-- R45: flows read 0 from the start of WAKING. -/
theorem test_waking_flow :
    (withSupply { FanPath.reset with flow := some 5 }).startWaking.afc.supply.flow = some 0 := by decide

/-- ExtractHumidityDerived: a fresh duct reading beside a fresh room reading, room readings alone, and none. -/
theorem test_wit_ExtractHumidityDerived :
    let fresh (r : Role) (h : Nat) : Sensor :=
      { Sensor.reset 8 r with state := .online, lastStatus := some .ok, lastGood := some 4970, lastHum := some h }
    (fresh .extractDuct 500).freshHum 5000 = some 500 ∧ (fresh .wetRoom 600).freshHum 5000 = some 600
      ∧ (fresh .wetRoom 600).freshHum 5001 = none ∧ (fresh .dryRoom 400).freshHum 5000 = some 400
      ∧ (withSensor wet).hum.active = true ∧ (withSensor wet).hum.sensor 1 = some wet ∧ wet.freshHum 5000 = none
      ∧ run.hum.active = false ∧ run.hum.extract = none ∧ run.osc.uptime < 4294967295 := by decide

/-- RelaysFollowFunction: a relay that is released, and a table that gives relay 1 each of its functions. -/
theorem test_wit_RelaysFollowFunction :
    run.dio.released = false ∧ { run.dio with released := true }.released = true
      ∧ ∀ f ∈ [0, 1, 2, 3, 4, 5],
        { run with osc := { run.osc with working := settingSet settingDefaults 79 (f : Nat) } }.setting (78 + 1) = f := by
  decide

/-- EventsRaiseNotices: an active slot that changes, goes and stays; a path that moves; the records whose events have
conditions of their own. -/
theorem test_wit_EventsRaiseNotices :
    scheduled.arb.active ≠ run.arb.active ∧ scheduled.arb.active = some .schedule ∧ State.reset.arb.active = none
      ∧ run.arb.active = some .base ∧ regulating.state ≠ (run.afc.path .supply).state
      ∧ (withDefrost .posted).frg.defrost.phase = .posted ∧ run.hum.humidityMark = false
      ∧ (withSensor { wet with boost := some { Boost.reset with state := .boost } }).hum.humidityDue = true
      ∧ { run.flt.check with outcome := some .door, trigger := some .requested }.outcome = some .door
      ∧ (({ run with flt := { run.flt with supply := { Filter.reset with state := .due } } }.deriveFilter .supply).flt.filter
        .supply).state ≠ .due
      ∧ run.sup.capture = none
      ∧ { run.osc with writing := some ⟨settingDefaults, .first, 1⟩ }.writing = some ⟨settingDefaults, .first, 1⟩ := by
  decide

/-- EventsRaiseNotices: a shortfall that is due, and each device state that a door report acts in. -/
theorem test_wit_EventsRaiseNotices_doors :
    let p := { regulating with state := .saturated, shortfallTime := 60, flow := some 98 }
    60 ≤ p.shortfallTime ∧ p.shortfallStanding = false ∧ p.state = .saturated ∧ p.flow = some 98 ∧ p.target = some 110
      ∧ 98 * 100 < 110 * 90 ∧ run.osc.device = .running ∧ (inState .servicePrepare).osc.device = .servicePrepare
      ∧ (inState .doorOpen).osc.device = .doorOpen
      ∧ ((inState .filterService).osc.device = .filterService ∧ (inState .filterService).flt.serviceTimer = 0)
      ∧ 0 < { run.flt with serviceTimer := 1 }.serviceTimer ∧ (inState .stopping).osc.device = .stopping := by decide

/-! ### Invariants: the state after reset, with a command waiting, meets each and steps -/

/-- The state after reset with a break of the main link waiting. -/
def first : State := { State.reset with pending := [.linkBreak .main] }

/-- What the first step answers. -/
def second : State := State.reset.updLink .main fun r => { r with spaceHeld := true }

/-- NoticeQueuesKept, its second clause. -/
theorem test_wit_NoticeQueuesKept_step : first.queuesOk ∧ step first = .next second :=
  ⟨⟨⟨by decide, List.nodup_nil⟩, ⟨by decide, List.nodup_nil⟩⟩, rfl⟩

theorem test_wit_SettingsTablesKept : first.tablesOk ∧ step first = .next second := ⟨⟨by decide, by decide⟩, rfl⟩

theorem test_wit_HeaterInterlockKept : first.heaterOk ∧ step first = .next second :=
  ⟨⟨by decide, by decide, by decide⟩, rfl⟩

theorem test_wit_PostersKeepSlots : first.manualOwned ∧ first.defrostPosted ∧ step first = .next second :=
  ⟨fun h => absurd rfl h, fun h => absurd rfl h, rfl⟩

theorem test_wit_DioMarksKept : first.marksOk ∧ step first = .next second := ⟨⟨by decide, by decide, by decide⟩, rfl⟩

theorem test_wit_RangesKept : first.historiesOk ∧ first.tablesOk ∧ first.frostOk ∧ first.zerosOk ∧ first.arb.runsOk
    ∧ first.flightOk ∧ first.dio.channels.length = 4 ∧ first.flt.accumulator < 3600 ∧ step first = .next second := by
  refine ⟨?_, test_wit_SettingsTablesKept.1, ⟨by decide, by decide⟩,
    ⟨by intro i; cases i <;> decide, by intro i; cases i <;> decide⟩, ⟨?_, nofun⟩, nofun, rfl, by decide, rfl⟩
  · refine ⟨?_, ?_, ?_, nofun⟩ <;> exact ⟨by decide, ⟨by decide, List.Pairwise.nil, nofun⟩, by decide, List.Pairwise.nil, nofun⟩
  · intro x d n h
    cases x <;> cases h
    exact nofun

theorem test_wit_DemandTableKept : first.demandsOk ∧ first.arb.runsOk ∧ first.serviceOk ∧ first.endMarked
    ∧ step first = .next second :=
  ⟨test_wit_demandsOk, test_wit_RangesKept.2.2.2.2.1, ⟨by decide, by decide⟩, fun h => absurd rfl h, rfl⟩

/-- NoticesFetched, ATTN: an empty main queue and one with an entry; a kind that it takes. -/
theorem test_wit_attn :
    run.attn = false ∧ { run with lnk := { run.lnk with mainQueue := ⟨[⟨.door, 0, 1, 3, 15⟩], 0⟩ } }.attn = true
      ∧ (run.raise .door 0 1).attn = true ∧ inMask (settingVal run.osc.working 83) NoticeKind.door.code = true := by decide

/-- NoticeQueuesKept: a queue with an entry of the kind and subject, one with neither, and a full one. -/
theorem test_wit_NoticeQueuesKept :
    let n : Notice := ⟨.door, 0, 0, 7, 1⟩
    let q : NoticeQueue := ⟨[⟨.stateChanged, 0, 1, 2, 1⟩, ⟨.door, 0, 1, 3, 15⟩], 0⟩
    q.ok 2 ∧ q.entries = [⟨.stateChanged, 0, 1, 2, 1⟩] ++ ⟨.door, 0, 1, 3, 15⟩ :: []
      ∧ (∀ e ∈ q.entries, e.kind ≠ .fanState ∨ e.subject ≠ n.subject) ∧ q.entries.length = 2
      ∧ State.reset.lnk.restarting = none ∧ Instr.demandExpiry ≠ .powerOn ∧ Instr.demandExpiry ≠ .getNotices .main := by
  exact ⟨⟨by decide, by decide⟩, by decide⟩

end Sys2Proof.Tests
end

section
/-! The frost evaluation (R52): what its margin and load steps compute, and what the steps after them leave of that. -/

namespace Sys2Proof.Machine

/-! ### The margin (R49, R50, R53) -/

/-- Step 1 of the evaluation: humidity and tier are taken over, and in SUBSTITUTE the exhaust substitute is computed. -/
def State.evaluateInputs (s : State) : State :=
  let s := s.updFrg fun g =>
    { g with rhEta := s.hum.extract.map fun v => min v.1 1000
             tier := s.hum.extract.map (·.2) }
  if s.frg.regime = .substitute then s.computeSubstitute else s

/-- Td and M from the values in use (R53), none in FIXED or without an exhaust or a humidity value. -/
def State.marginNow (s : State) : Option (Int × Int) :=
  match s.frg.regime, s.frg.ehaInUse, s.frg.rhEta with
  | .fixed, _, _ => none
  | _, some t, some rh => some (frostMargin s.frg.etaInUse t rh (settingVal s.osc.working 25))
  | _, _, _ => none

theorem State.evaluateMargin_eq (s : State) :
    s.evaluateMargin = s.evaluateInputs.updFrg fun g =>
      { g with td := s.evaluateInputs.marginNow.map (·.1), margin := s.evaluateInputs.marginNow.map (·.2) } := rfl

/-- Step 1 writes the humidity, the tier and the substitute of FRG alone. -/
theorem State.evaluateInputs_eq (s : State) :
    s.evaluateInputs = s.updFrg fun g => { g with
      rhEta := s.hum.extract.map fun v => min v.1 1000
      tier := s.hum.extract.map (·.2)
      substitute := s.evaluateInputs.frg.substitute } := by
  unfold State.evaluateInputs
  dsimp only
  split <;> rfl

/-- The margin steps write the humidity, tier, substitute, Td and M of FRG alone. -/
theorem State.evaluateMargin_frame (s : State) :
    s.evaluateMargin = s.updFrg fun g => { g with
      rhEta := s.hum.extract.map fun v => min v.1 1000
      tier := s.hum.extract.map (·.2)
      substitute := s.evaluateMargin.frg.substitute
      td := s.evaluateMargin.frg.td
      margin := s.evaluateMargin.frg.margin } := by
  rw [State.evaluateMargin_eq, State.evaluateInputs_eq]
  rfl

theorem State.evaluateMargin_rhEta (s : State) :
    s.evaluateMargin.frg.rhEta = s.hum.extract.map fun v => min v.1 1000 := by
  rw [State.evaluateMargin_frame]; rfl

/-- In SUBSTITUTE the exhaust substitute is computed from the values in use (R49). -/
theorem State.evaluateMargin_substitute {s : State} (h : s.frg.regime = .substitute) :
    s.evaluateMargin.frg.substitute
      = some (exhaustSubstitute s.frg.odaInUse s.frg.etaInUse (settingVal s.osc.working 31)) :=
  congrArg (fun u : State => u.frg.substitute) (if_pos h : s.evaluateInputs = State.computeSubstitute _)

theorem State.marginNow_fixed {s : State} (h : s.frg.regime = .fixed) : s.marginNow = none := by
  rw [State.marginNow, h]

theorem State.marginNow_measured {s : State} {eha : Int} {rh : Nat} (hr : s.frg.regime ≠ .fixed)
    (he : s.frg.ehaInUse = some eha) (hh : s.frg.rhEta = some rh) :
    s.marginNow = some (frostMargin s.frg.etaInUse eha rh (settingVal s.osc.working 25)) := by
  rw [State.marginNow, he, hh]
  cases h : s.frg.regime with
  | fixed => exact absurd h hr
  | normal | substitute => rfl

theorem State.evaluateMargin_td (s : State) : s.evaluateMargin.frg.td = s.evaluateInputs.marginNow.map (·.1) := rfl

theorem State.evaluateMargin_margin (s : State) :
    s.evaluateMargin.frg.margin = s.evaluateInputs.marginNow.map (·.2) := rfl

theorem State.evaluateMargin_fixed {s : State} (h : s.frg.regime = .fixed) :
    s.evaluateMargin.frg.td = none ∧ s.evaluateMargin.frg.margin = none := by
  have hm : s.evaluateInputs.marginNow = none := State.marginNow_fixed (by rw [State.evaluateInputs_eq]; exact h)
  rw [State.evaluateMargin_td, State.evaluateMargin_margin, hm]
  exact ⟨rfl, rfl⟩

/-- Td and M are those of R53 at the exhaust and humidity values that the evaluation itself derives. -/
theorem State.evaluateMargin_measured {s : State} {eha : Int} {rh : Nat} (hr : s.frg.regime ≠ .fixed)
    (he : s.evaluateMargin.frg.ehaInUse = some eha) (hh : s.evaluateMargin.frg.rhEta = some rh) :
    s.evaluateMargin.frg.td = some (frostMargin s.frg.etaInUse eha rh (settingVal s.osc.working 25)).1
      ∧ s.evaluateMargin.frg.margin = some (frostMargin s.frg.etaInUse eha rh (settingVal s.osc.working 25)).2 := by
  have hr' : s.evaluateInputs.frg.regime ≠ .fixed := by rw [State.evaluateInputs_eq]; exact hr
  have hm := State.marginNow_measured hr' he hh
  rw [State.evaluateMargin_td, State.evaluateMargin_margin, hm, State.evaluateInputs_eq]
  exact ⟨rfl, rfl⟩

/-! ### The load (R54) -/

theorem nextLoad_fixed (load : Nat) (m t : Option Int) (q : Nat) :
    nextLoad load .fixed m t q = if 0 < q then min 65535 (load + 40) else load := rfl

theorem nextLoad_measured {r : Regime} (h : r ≠ .fixed) (load : Nat) (m t : Int) (q : Nat) :
    nextLoad load r (some m) (some t) q
      = if m < 0 then min 65535 (load + ((-m).toNat * q + 50) / 100)
        else if 0 < t then load - (t.toNat * q + 100) / 200
        else load := by
  cases r with
  | fixed => exact absurd rfl h
  | normal | substitute => rfl

/-- The state whose load is the next one; the defrost record is yet to be told. -/
def State.loaded (s : State) : State :=
  s.updFrg fun g => { g with load := nextLoad g.load g.regime g.margin g.ehaInUse s.qEta }

/-- The load that follows on the margin steps. -/
def State.loadNow (s : State) : Nat :=
  nextLoad s.frg.load s.frg.regime s.evaluateMargin.frg.margin s.evaluateMargin.frg.ehaInUse s.qEta

theorem State.evaluateMargin_loaded_load (s : State) : s.evaluateMargin.loaded.frg.load = s.loadNow := by
  have hl : s.evaluateMargin.frg.load = s.frg.load := by rw [State.evaluateMargin_frame]; rfl
  have hr : s.evaluateMargin.frg.regime = s.frg.regime := by rw [State.evaluateMargin_frame]; rfl
  have hq : s.evaluateMargin.qEta = s.qEta := by rw [State.evaluateMargin_frame]; rfl
  rw [State.loadNow, ← hl, ← hr, ← hq]
  rfl

/-- The margin and the load write the humidity, tier, substitute, Td, M and load of FRG alone. -/
theorem State.evaluateMargin_loaded_frame (s : State) :
    s.evaluateMargin.loaded = s.updFrg fun g => { g with
      rhEta := s.hum.extract.map fun v => min v.1 1000
      tier := s.hum.extract.map (·.2)
      substitute := s.evaluateMargin.frg.substitute
      td := s.evaluateMargin.frg.td
      margin := s.evaluateMargin.frg.margin
      load := s.loadNow } := by
  rw [← s.evaluateMargin_loaded_load]
  exact congrArg (fun u : State => u.updFrg fun g => { g with load := s.evaluateMargin.loaded.frg.load })
    s.evaluateMargin_frame

/-! ### What the steps after the load leave alone -/

/-- FRG with the heater, the stage, the defrost record and the imbalance with its count blanked: what the steps after the
load leave alone. -/
def Frg.measures (g : Frg) : Frg :=
  { g with
    request := 0, applied := 0, outputOn := false, windowSecs := 0, runOn := 0, exhausted := 0, imbalance := 0,
    stage := .none, defrost := .reset }

@[simp] theorem Frg.measures_channel (g : Frg) (i : TempId) : g.measures.channel i = g.channel i := by cases i <;> rfl
@[simp] theorem Frg.measures_ehaInUse (g : Frg) : g.measures.ehaInUse = g.ehaInUse := rfl
@[simp] theorem Frg.measures_substitute (g : Frg) : g.measures.substitute = g.substitute := rfl
@[simp] theorem Frg.measures_rhEta (g : Frg) : g.measures.rhEta = g.rhEta := rfl
@[simp] theorem Frg.measures_tier (g : Frg) : g.measures.tier = g.tier := rfl
@[simp] theorem Frg.measures_td (g : Frg) : g.measures.td = g.td := rfl
@[simp] theorem Frg.measures_margin (g : Frg) : g.measures.margin = g.margin := rfl
@[simp] theorem Frg.measures_load (g : Frg) : g.measures.load = g.load := rfl
@[simp] theorem Frg.measures_cutout (g : Frg) : g.measures.cutout = g.cutout := rfl
@[simp] theorem Frg.measures_evalTimer (g : Frg) : g.measures.evalTimer = g.evalTimer := rfl

/-- A step that settles what lies outside FRG and keeps FRG's measures. -/
structure State.ActsFrom (s t : State) : Prop where
  settled : SettledFrom [] { s with frg := t.frg } t
  measures : t.frg.measures = s.frg.measures

/-- What settles still settles when both sides are given the same FRG. -/
theorem SettledFrom.setFrg {s t : State} (h : SettledFrom [] s t) (g : Frg) :
    SettledFrom [] { s with frg := g } { t with frg := g } :=
  { h with frost := rfl }

theorem State.ActsFrom.ofSettled {s t : State} (h : SettledFrom [] s t) : s.ActsFrom t where
  settled := h.setFrg t.frg
  measures := (congrArg Frg.measures h.frost : _ = s.frg.measures)

theorem State.ActsFrom.ofFrg (s : State) (f : Frg → Frg) (h : (f s.frg).measures = s.frg.measures) :
    s.ActsFrom (s.updFrg f) where
  settled := .refl _ _
  measures := h

theorem State.ActsFrom.trans {s t u : State} (h : s.ActsFrom t) (k : t.ActsFrom u) : s.ActsFrom u where
  settled := (h.settled.setFrg u.frg).next k.settled
  measures := k.measures.trans h.measures

theorem SettledFrom.defrostTrigger (s : State) : SettledFrom [] s s.defrostTrigger := by
  unfold State.defrostTrigger
  dsimp only
  split
  · exact ((SettledFrom.updDefrost s _).next (.settleBlocks _)).next (.tryDefrostPost _)
  · exact .refl _ _

theorem SettledFrom.confirmEntry (s : State) : SettledFrom [] s s.confirmEntry := by
  unfold State.confirmEntry
  extract_lets warm
  split
  · exact .updDefrost _ _
  · exact .refl _ _

theorem SettledFrom.checkCapped (s : State) : SettledFrom [] s s.checkCapped := by
  unfold State.checkCapped
  split
  · exact .updCheck _ _
  · exact .refl _ _

/-- What follows on the new load in step 3. -/
theorem State.evaluateLoad_acts (s : State) : s.loaded.ActsFrom s.evaluateLoad :=
  .ofSettled ((SettledFrom.defrostTrigger s.loaded).next (.confirmEntry _))

theorem State.evaluateRequest_acts (s : State) : s.ActsFrom s.evaluateRequest :=
  (State.ActsFrom.ofFrg s _ rfl).trans (.ofSettled (.settleBlocks _))

theorem State.setImbalance_acts (s : State) (n : Nat) : s.ActsFrom (s.setImbalance n) := by
  have h : s.ActsFrom (s.updFrg fun g => { g with imbalance := n }) := .ofFrg s _ rfl
  unfold State.setImbalance
  dsimp only
  split
  · exact h
  · split
    · exact h.trans (.ofSettled (.checkCapped _))
    · exact h.trans (.ofSettled (.trySettle _))

theorem State.evaluateImbalance_acts (s : State) : s.ActsFrom s.evaluateImbalance := by
  unfold State.evaluateImbalance
  split
  case h_1 | h_2 | h_3 => exact (State.ActsFrom.ofFrg s _ rfl).trans (State.setImbalance_acts _ _)
  all_goals exact .ofSettled (.refl _ _)

/-- After the margin and the load, an evaluation settles what lies outside FRG and keeps FRG's measures. -/
theorem State.evaluateFrost_acts (s : State) : s.evaluateMargin.loaded.ActsFrom s.evaluateFrost :=
  (((State.evaluateLoad_acts _).trans (State.evaluateRequest_acts _)).trans (State.evaluateImbalance_acts _)).trans
    (.ofSettled ((SettledFrom.deriveStage _).next (.propagate _)))

/-! ### The whole evaluation -/

/-- Of what lies outside FRG, an evaluation changes only what settles. -/
theorem SettledFrom.evaluateFrost (s : State) :
    SettledFrom [] { s with frg := s.evaluateFrost.frg } s.evaluateFrost := by
  have h := s.evaluateFrost_acts.settled
  rw [State.evaluateMargin_loaded_frame] at h
  exact h

/-- A quantity of FRG that goes by the measures alone is after an evaluation what the margin and the load make it. -/
theorem State.evaluateFrost_measure {α : Type} {f : Frg → α} (hf : ∀ g : Frg, f g.measures = f g) (s : State) :
    f s.evaluateFrost.frg = f { s.frg with
      rhEta := s.hum.extract.map fun v => min v.1 1000
      tier := s.hum.extract.map (·.2)
      substitute := s.evaluateMargin.frg.substitute
      td := s.evaluateMargin.frg.td
      margin := s.evaluateMargin.frg.margin
      load := s.loadNow } := by
  have h := congrArg f s.evaluateFrost_acts.measures
  rw [hf, hf, State.evaluateMargin_loaded_frame] at h
  exact h

theorem State.evaluateFrost_channel (s : State) (i : TempId) :
    s.evaluateFrost.frg.channel i = s.frg.channel i := by
  rw [State.evaluateFrost_measure (f := (Frg.channel · i)) (Frg.measures_channel · i)]
  cases i <;> rfl

theorem State.evaluateFrost_evalTimer (s : State) : s.evaluateFrost.frg.evalTimer = s.frg.evalTimer :=
  State.evaluateFrost_measure Frg.measures_evalTimer s

theorem State.evaluateFrost_cutout (s : State) : s.evaluateFrost.frg.cutout = s.frg.cutout :=
  State.evaluateFrost_measure Frg.measures_cutout s

theorem State.evaluateFrost_rhEta (s : State) :
    s.evaluateFrost.frg.rhEta = s.hum.extract.map fun v => min v.1 1000 :=
  State.evaluateFrost_measure Frg.measures_rhEta s

theorem State.evaluateFrost_tier (s : State) : s.evaluateFrost.frg.tier = s.hum.extract.map (·.2) :=
  State.evaluateFrost_measure Frg.measures_tier s

theorem State.evaluateFrost_substitute {s : State} (h : s.frg.regime = .substitute) :
    s.evaluateFrost.frg.substitute
      = some (exhaustSubstitute s.frg.odaInUse s.frg.etaInUse (settingVal s.osc.working 31)) :=
  (State.evaluateFrost_measure Frg.measures_substitute s).trans (State.evaluateMargin_substitute h)

theorem State.evaluateFrost_td (s : State) : s.evaluateFrost.frg.td = s.evaluateMargin.frg.td :=
  State.evaluateFrost_measure Frg.measures_td s

theorem State.evaluateFrost_margin (s : State) : s.evaluateFrost.frg.margin = s.evaluateMargin.frg.margin :=
  State.evaluateFrost_measure Frg.measures_margin s

theorem State.evaluateFrost_load (s : State) : s.evaluateFrost.frg.load = s.loadNow :=
  State.evaluateFrost_measure Frg.measures_load s

theorem State.evaluateFrost_ehaInUse (s : State) :
    s.evaluateFrost.frg.ehaInUse = s.evaluateMargin.frg.ehaInUse := by
  rw [State.evaluateFrost_measure Frg.measures_ehaInUse, State.evaluateMargin_frame]
  rfl

/-- In FIXED there is no Td and no M, and the load goes by the flow alone (R53, R54). -/
theorem State.evaluateFrost_fixed {s : State} (h : s.frg.regime = .fixed) :
    s.evaluateFrost.frg.td = none ∧ s.evaluateFrost.frg.margin = none
      ∧ s.evaluateFrost.frg.load = if 0 < s.qEta then min 65535 (s.frg.load + 40) else s.frg.load := by
  obtain ⟨htd, hm⟩ := State.evaluateMargin_fixed h
  refine ⟨s.evaluateFrost_td.trans htd, s.evaluateFrost_margin.trans hm, ?_⟩
  rw [State.evaluateFrost_load, State.loadNow, h, nextLoad_fixed]

/-- In NORMAL and SUBSTITUTE with an exhaust and a humidity value, Td, M and the load are those of R53 and R54. -/
theorem State.evaluateFrost_measured {s : State} {eha td m : Int} {rh : Nat} (hr : s.frg.regime ≠ .fixed)
    (he : s.evaluateFrost.frg.ehaInUse = some eha) (hh : s.evaluateFrost.frg.rhEta = some rh)
    (hf : frostMargin s.frg.etaInUse eha rh (settingVal s.osc.working 25) = (td, m)) :
    s.evaluateFrost.frg.td = some td ∧ s.evaluateFrost.frg.margin = some m
      ∧ s.evaluateFrost.frg.load = if m < 0 then min 65535 (s.frg.load + ((-m).toNat * s.qEta + 50) / 100)
        else if 0 < eha then s.frg.load - (eha.toNat * s.qEta + 100) / 200
        else s.frg.load := by
  rw [State.evaluateFrost_ehaInUse] at he
  rw [State.evaluateFrost_rhEta, ← State.evaluateMargin_rhEta] at hh
  obtain ⟨htd, hm⟩ := State.evaluateMargin_measured hr he hh
  rw [hf] at htd hm
  refine ⟨s.evaluateFrost_td.trans htd, s.evaluateFrost_margin.trans hm, ?_⟩
  rw [State.evaluateFrost_load, State.loadNow, hm, he, nextLoad_measured hr]

/-! ### FROST_EVALUATION -/

theorem exec_frostEvaluation (s : State) : exec .frostEvaluation s = execFrostEvaluation s := rfl

/-- A due evaluation takes its 10 s off the timer and is made (R52). -/
theorem exec_frostEvaluation_due {s : State} (hd : s.osc.device.zeroing = false) (ht : 10 ≤ s.frg.evalTimer) :
    exec .frostEvaluation s = .next (s.updFrg fun g => { g with evalTimer := g.evalTimer - 10 }).evaluateFrost :=
  (exec_frostEvaluation s).trans (if_pos ⟨hd, ht⟩)

/-- Settles O37: an evaluation is taken at the state with its timer brought back, and what the margin and the load make of
FRG's measures stands at its end. -/
theorem frostEvaluationMeasures : Obligations.FrostEvaluationMeasures := by
  unfold Obligations.FrostEvaluationMeasures
  intro s hd ht
  let e := s.updFrg fun g => { g with evalTimer := g.evalTimer - 10 }
  refine ⟨e.evaluateFrost, exec_frostEvaluation_due hd ht, .evaluateFrost e, ?_, fun i => ?_, e.evaluateFrost_cutout,
    e.evaluateFrost_rhEta, e.evaluateFrost_tier, ?_⟩
  · intro h
    rw [State.evaluateFrost_evalTimer]
    simp [e, h]
  · rw [State.evaluateFrost_channel]
    cases i <;> rfl
  · rintro oda eta rfl rfl
    refine ⟨State.evaluateFrost_substitute (s := e), ?_, ?_⟩
    · rintro eha rh q m hr he hh rfl rfl
      obtain ⟨htd, hm, hl⟩ := State.evaluateFrost_measured (s := e) hr he hh rfl
      refine ⟨htd, hm, fun hneg => ?_, fun hpos heha => ?_, fun hpos heha => ?_⟩
      · exact hl.trans (if_pos hneg)
      · exact hl.trans ((if_neg hpos.not_gt).trans (if_pos heha))
      · exact hl.trans ((if_neg hpos.not_gt).trans (if_neg heha.not_gt))
    · rintro q hr rfl
      obtain ⟨htd, hm, hl⟩ := State.evaluateFrost_fixed (s := e) hr
      exact ⟨htd, hm, fun hpos => hl.trans (if_pos hpos), fun hzero => hl.trans (if_neg hzero.not_gt)⟩

end Sys2Proof.Machine
end

section
/-! DIO's marks and the table (R146): a mark stands with the demand of its slot. What reports, posts, withdrawals and every
settling change do to the three slots that DIO posts. -/

namespace Sys2Proof.Machine

/-! ### The slots that DIO marks -/

/-- The slots that DIO posts (R146). -/
def dioSlots : List Slot := [.inputBoost, .inputHood, .fire]

@[simp] theorem mem_dioSlots {x : Slot} : x ∈ dioSlots ↔ x = .inputBoost ∨ x = .inputHood ∨ x = .fire := by
  simp [dioSlots]

/-- The posted mark of a slot; DIO holds none for a slot of another poster. -/
def Dio.slotMark (d : Dio) : Slot → Bool
  | .inputBoost => d.boostMark
  | .inputHood => d.hoodMark
  | .fire => d.fireMark
  | _ => false

/-- The mark of a slot says whether the slot is held. -/
def State.markRight (s : State) (x : Slot) : Prop := s.dio.slotMark x = true ↔ s.arb.table.get x ≠ none

theorem State.marksOk_iff {s : State} : s.marksOk ↔ ∀ x ∈ dioSlots, s.markRight x := by
  simp [State.marksOk, State.markRight, Dio.slotMark, DemandTable.get]

/-- Slot `x` is as free in `t` as in `s`, and its mark is the same. -/
structure State.SlotKept (x : Slot) (s t : State) : Prop where
  free : t.arb.table.get x = none ↔ s.arb.table.get x = none
  mark : t.dio.slotMark x = s.dio.slotMark x

theorem State.SlotKept.trans {x : Slot} {s t u : State} (h : s.SlotKept x t) (k : t.SlotKept x u) : s.SlotKept x u :=
  ⟨k.free.trans h.free, k.mark.trans h.mark⟩

theorem State.SlotKept.markRight_iff {x : Slot} {s t : State} (h : s.SlotKept x t) : t.markRight x ↔ s.markRight x := by
  rw [State.markRight, State.markRight, h.mark, ne_eq, ne_eq, h.free]

theorem State.marksOk_congr {s t : State} (h : ∀ x ∈ dioSlots, s.SlotKept x t) : t.marksOk ↔ s.marksOk := by
  rw [State.marksOk_iff, State.marksOk_iff]
  exact forall₂_congr fun x hx => (h x hx).markRight_iff

/-- A change that concerns one slot of DIO keeps the marks when it leaves that slot's mark right. -/
theorem State.marksOk.replace {s t : State} (h : s.marksOk) {x : Slot} (hx : t.markRight x)
    (others : ∀ y ∈ dioSlots, y ≠ x → s.SlotKept y t) : t.marksOk := by
  rw [State.marksOk_iff] at h ⊢
  intro y hy
  by_cases hyx : y = x
  · exact hyx ▸ hx
  · exact (others y hy hyx).markRight_iff.mpr (h y hy)

/-- Setting or clearing the mark of `x`. -/
def Dio.MarksSlot (f : Dio → Dio) (x : Slot) (v : Bool) : Prop :=
  ∀ d y, (f d).slotMark y = if y = x then v else d.slotMark y

theorem Dio.setMark_marksSlot (i : BoostInput) (v : Bool) : Dio.MarksSlot (·.setMark i v) i.slot v := by
  intro d y
  cases i <;> cases y <;> rfl

theorem Dio.fireMark_marksSlot (v : Bool) : Dio.MarksSlot (fun d => { d with fireMark := v }) .fire v := by
  intro d y
  cases y <;> rfl

theorem Dio.MarksSlot.slotKept {f : Dio → Dio} {x y : Slot} {v : Bool} (hf : Dio.MarksSlot f x v) (hy : y ≠ x) (s : State) :
    s.SlotKept y (s.updDio f) :=
  ⟨Iff.rfl, (hf s.dio y).trans (if_neg hy)⟩

/-! ### What settles -/

theorem SameDemand.none_iff {a b : Option Demand} (h : SameDemand a b) : b = none ↔ a = none := by
  cases a <;> cases b <;> simp_all [SameDemand]

/-- What settles keeps every slot of DIO outside `l`. -/
theorem SettledFrom.slotKept {l : List Slot} {s t : State} (h : SettledFrom l s t) {x : Slot} (hx : x ∈ dioSlots)
    (hl : x ∉ l) : s.SlotKept x t where
  free := (h.slots x hl (by rintro rfl; simp at hx) (by rintro rfl; simp at hx)).none_iff
  mark := by rw [h.dio]

theorem SettledFrom.marksOk_iff {l : List Slot} {s t : State} (h : SettledFrom l s t) (hl : ∀ x ∈ dioSlots, x ∉ l) :
    t.marksOk ↔ s.marksOk :=
  State.marksOk_congr fun x hx => h.slotKept hx (hl x hx)

/-- What settles without touching a slot keeps the marks as they are. -/
theorem SettledFrom.marks {s t : State} (h : SettledFrom [] s t) : t.marksOk ↔ s.marksOk :=
  h.marksOk_iff fun _ _ => List.not_mem_nil

theorem SettledFrom.checkFreedByStandby (s : State) : SettledFrom [] s s.checkFreedByStandby := by
  unfold State.checkFreedByStandby
  split
  · exact .refl _ _
  · exact ((SettledFrom.recordCheckEnd s _).next (.updCheck _ _)).next (.raiseFilterResult _)

/-! ### Reports (R16, R149) -/

/-- The report tells the poster of `x` that its slot has been freed by expiry or by standby. -/
def Report.frees (r : Report) (x : Slot) : Bool :=
  r.slot == x && (r.kind == .freedByExpiry || r.kind == .freedByStandby)

theorem Report.frees_eq_false {r : Report} (h : r.kind = .active ∨ r.kind = .suspended) (x : Slot) :
    r.frees x = false := by
  rcases h with h | h <;> simp [Report.frees, h]

/-- A report frees no slot, and clears the mark of a slot of DIO that it tells to be freed. -/
theorem State.takeReport_slot (s : State) (r : Report) {x : Slot} (hx : x ∈ dioSlots) :
    ((s.takeReport r).arb.table.get x = none ↔ s.arb.table.get x = none)
      ∧ (s.takeReport r).dio.slotMark x = (s.dio.slotMark x && !r.frees x) := by
  have settled {t : State} (h : SettledFrom [] s t) (hr : r.frees x = false) :
      (t.arb.table.get x = none ↔ s.arb.table.get x = none) ∧ t.dio.slotMark x = (s.dio.slotMark x && !r.frees x) := by
    obtain ⟨hfree, hmark⟩ := h.slotKept hx List.not_mem_nil
    exact ⟨hfree, by simp [hmark, hr]⟩
  obtain ⟨kind, slot⟩ := r
  cases kind with
  | active => exact settled (.takeReport s _ (.inl rfl)) (Report.frees_eq_false (.inl rfl) x)
  | suspended => exact settled (.takeReport s _ (.inr rfl)) (Report.frees_eq_false (.inr rfl) x)
  | freedByExpiry =>
    refine ⟨by cases slot <;> rfl, ?_⟩
    rcases mem_dioSlots.mp hx with rfl | rfl | rfl <;> cases slot <;>
      simp [State.takeReport, Dio.slotMark, Report.frees]
  | freedByStandby =>
    cases slot with
    | filterCheck => exact settled (.checkFreedByStandby s) (by rcases mem_dioSlots.mp hx with rfl | rfl | rfl <;> rfl)
    | _ =>
      refine ⟨.rfl, ?_⟩
      rcases mem_dioSlots.mp hx with rfl | rfl | rfl <;> simp [State.takeReport, Dio.slotMark, Report.frees]

theorem State.takeReports_slot (s : State) (l : List Report) {x : Slot} (hx : x ∈ dioSlots) :
    ((l.foldl State.takeReport s).arb.table.get x = none ↔ s.arb.table.get x = none)
      ∧ (l.foldl State.takeReport s).dio.slotMark x = (s.dio.slotMark x && !l.any (·.frees x)) := by
  induction l generalizing s with
  | nil => simp
  | cons r l ih =>
    obtain ⟨hfree, hmark⟩ := s.takeReport_slot r hx
    obtain ⟨ihfree, ihmark⟩ := ih (s.takeReport r)
    refine ⟨ihfree.trans hfree, ?_⟩
    rw [List.foldl_cons, ihmark, hmark, List.any_cons, Bool.not_or, Bool.and_assoc]

/-- A slot of DIO is internal, so no report that frees it is left out. -/
theorem any_frees_internal (l : List Report) {x : Slot} (hx : x ∈ dioSlots) :
    (l.filter (·.slot.internal)).any (·.frees x) = l.any (·.frees x) := by
  have hi : x.internal = true := by rcases mem_dioSlots.mp hx with rfl | rfl | rfl <;> rfl
  rw [List.any_filter]
  congr 1
  funext r
  by_cases hr : r.slot = x
  · simp [hr, hi]
  · simp [Report.frees, hr]

/-- A change of the demand table leaves a slot of DIO as the new table has it, and clears the mark of one that it reports
as freed. -/
theorem State.applyArb_slot (s : State) (r : Arb × List Report) {x : Slot} (hx : x ∈ dioSlots) :
    ((s.applyArb r).arb.table.get x = none ↔ r.1.table.get x = none)
      ∧ (s.applyArb r).dio.slotMark x = (s.dio.slotMark x && !r.2.any (·.frees x)) := by
  have told (t : State) := any_frees_internal r.2 hx ▸ t.takeReports_slot (r.2.filter (·.slot.internal)) hx
  unfold State.applyArb
  dsimp only
  split
  · exact told (s.updArb fun _ => r.1)
  · simpa only [State.raise_arb, State.raise_dio, State.updArb_arb, State.updArb_dio] using told ((s.updArb fun _ => r.1).raise _ _ _)

/-- The marks are right after a change of the demand table when each slot that DIO holds and does not hear of as freed is
held in the new table, and no other. -/
theorem State.marksOk.applyArb {s : State} (h : s.marksOk) {r : Arb × List Report}
    (hr : ∀ x ∈ dioSlots, r.1.table.get x = none ↔ s.arb.table.get x = none ∨ r.2.any (·.frees x) = true) :
    (s.applyArb r).marksOk := by
  rw [State.marksOk_iff] at h ⊢
  intro x hx
  obtain ⟨hfree, hmark⟩ := s.applyArb_slot r hx
  have hs := h x hx
  rw [State.markRight, ne_eq] at hs ⊢
  rw [hfree, hmark, hr x hx]
  simp [hs]

/-! ### Posts and withdrawals -/

/-- A preemption leaves each slot as held as it was. -/
theorem Arb.preempt_get_none (a : Arb) (o x y : Slot) :
    (a.preempt o x).1.table.get y = none ↔ a.table.get y = none := by
  simp only [Arb.preempt, Arb.push, DemandTable.get_put]
  split
  · next h => simp [h]
  · rfl

/-- A post leaves its slot held (R8, R9). -/
theorem Arb.post_held (a : Arb) (x : Slot) (p : PostArgs) (now : Nat) : (a.post x p now).1.table.get x ≠ none := by
  unfold Arb.post
  split
  · unfold Arb.postFresh
    dsimp only
    split
    · split <;> simp [Arb.preempt_get_none]
    · simp
  · unfold Arb.renew
    dsimp only
    split
    · simp
    · split
      · split
        · simp
        · split <;> simp [Arb.preempt_get_none, Arb.leave]
      · split <;> simp [Arb.preempt_get_none, Arb.leave]

theorem Arb.reselect_table (a : Arb) : a.reselect.1.table = a.table := by
  unfold Arb.reselect
  split <;> rfl

/-- A slot that is freed is FREE (R12, R13). -/
theorem Arb.free_get_self (a : Arb) (x : Slot) : (a.free x).1.table.get x = none := by
  unfold Arb.free
  dsimp only
  split
  · next h => simpa [Arb.isFree] using h
  · split <;> simp [Arb.reselect_table, Arb.leave]

theorem Arb.free_get_ne (a : Arb) {x y : Slot} (h : y ≠ x) : (a.free x).1.table.get y = a.table.get y := by
  unfold Arb.free
  dsimp only
  split
  · rfl
  · split <;> simp [Arb.reselect_table, Arb.leave, DemandTable.get_put, h]

/-- A post that is answered OK leaves its slot held. -/
theorem State.postCore_held (s : State) {x : Slot} (hx : x ∈ dioSlots) (n : Nat) (p : PostArgs) (l : Option Link)
    (h : (s.postCore x n p l).2 = .ok) : (s.postCore x n p l).1.arb.table.get x ≠ none := by
  unfold State.postCore at h ⊢
  dsimp only at h ⊢
  split
  · split
    · simp_all
    · exact fun hn => Arb.post_held _ _ _ _ ((State.applyArb_slot _ _ hx).1.mp hn)
  · simp_all

/-- A post that is not answered OK leaves the demand table alone. -/
theorem State.postCore_rejected (s : State) (x : Slot) (n : Nat) (p : PostArgs) (l : Option Link)
    (h : (s.postCore x n p l).2 ≠ .ok) : SettledFrom [] s (s.postCore x n p l).1 := by
  unfold State.postCore at h ⊢
  dsimp only at h ⊢
  split
  · split
    · exact .watchTest _ _ _ _ _
    · simp_all
  · exact .refl _ _

/-- A post of DIO that sets its mark where it is answered OK keeps the marks (R147, R148, R150). -/
theorem State.marksOk.markedPost {s : State} (h : s.marksOk) {x : Slot} (hx : x ∈ dioSlots) {f : Dio → Dio}
    (hf : Dio.MarksSlot f x true) (n : Nat) (c : Carry) (t : Option Nat) :
    (if (s.internalPost x n c t).2 = .ok then (s.internalPost x n c t).1.updDio f
      else (s.internalPost x n c t).1).marksOk := by
  split
  · next ok =>
    refine h.replace (x := x) ?_ fun y hy hyx => ?_
    · have held : (s.internalPost x n c t).1.arb.table.get x ≠ none := s.postCore_held hx _ _ _ ok
      simp [State.markRight, hf _ x, held]
    · exact ((SettledFrom.internalPost s x n c t).slotKept hy (by simpa using hyx)).trans (hf.slotKept hyx _)
  · next rejected => exact (State.postCore_rejected s _ _ _ _ rejected).marks.mpr h

/-- A slot of DIO that is withdrawn with its mark cleared keeps the marks (R148, R150). -/
theorem State.marksOk.unmarkWithdraw {s : State} (h : s.marksOk) {x : Slot} (hx : x ∈ dioSlots) {f : Dio → Dio}
    (hf : Dio.MarksSlot f x false) : ((s.updDio f).withdraw x).marksOk := by
  obtain ⟨hfree, hmark⟩ := (s.updDio f).applyArb_slot ((s.updDio f).arb.free x) hx
  refine h.replace (x := x) ?_ fun y hy hyx => ?_
  · have clear : ((s.updDio f).withdraw x).dio.slotMark x = false := hmark.trans (by simp [hf _ x])
    have free : ((s.updDio f).withdraw x).arb.table.get x = none := hfree.mpr (Arb.free_get_self _ _)
    simp [State.markRight, clear, free]
  · exact (hf.slotKept hyx s).trans ((SettledFrom.withdraw (s.updDio f) x).slotKept hy (by simpa using hyx))

/-- The expiry of a demand keeps the marks: DIO hears of the slot that is freed (R14, R149). -/
theorem State.marksOk.expire {s : State} (h : s.marksOk) (x : Slot) : (s.applyArb (s.arb.expire x)).marksOk := by
  refine h.applyArb fun y _ => ?_
  have quiet : ((s.arb.free x).2.any fun r => r.frees y) = false :=
    List.any_eq_false.mpr fun r hr => by simp [Report.frees_eq_false (Arb.free_reports _ _ r hr)]
  by_cases hyx : y = x
  · subst hyx
    simp [Arb.expire, Arb.free_get_self, Report.frees]
  · have other : (⟨.freedByExpiry, x⟩ : Report).frees y = false := by simp [Report.frees, Ne.symm hyx]
    rw [Arb.expire, List.any_cons, quiet, other, Arb.free_get_ne _ hyx]
    simp

theorem mem_allSlots (x : Slot) : x ∈ allSlots := by
  cases x <;> decide

theorem Arb.clearForStandby_get (a : Arb) (straight : Bool) {x : Slot} (hx : x ≠ .base) :
    (a.clearForStandby straight).1.table.get x = none := by
  cases x with
  | base => exact absurd rfl hx
  | _ => rfl

/-- STANDBY reports every slot but BASE that it frees. -/
theorem Arb.clearForStandby_frees (a : Arb) (straight : Bool) {x : Slot} (hx : x ≠ .base) (h : a.table.get x ≠ none) :
    (a.clearForStandby straight).2.any (·.frees x) = true := by
  have held : x ∈ a.heldButBase := by
    simp [Arb.heldButBase, mem_allSlots, hx, Arb.isFree, Option.isSome_iff_ne_none.mpr h]
  exact List.any_eq_true.mpr ⟨⟨.freedByStandby, x⟩, List.mem_map.mpr ⟨x, held, rfl⟩, by simp [Report.frees]⟩

/-- The acceptance of STANDBY keeps the marks: DIO hears of each of its slots that is freed (R23, R149). -/
theorem State.marksOk.clearForStandby {s : State} (h : s.marksOk) (straight : Bool) :
    (s.applyArb (s.arb.clearForStandby straight)).marksOk := by
  refine h.applyArb fun x hx => ?_
  have hb : x ≠ .base := by rintro rfl; simp at hx
  have told := s.arb.clearForStandby_frees straight hb
  simp only [Arb.clearForStandby_get _ _ hb, true_iff]
  tauto

end Sys2Proof.Machine
end

section
/-! What the blocks' operations do to the marks (R146): all but those of DIO, of an expiry and of STANDBY leave them as right
or as wrong as they were. -/

namespace Sys2Proof.Machine

/-! ### The shared operations -/

@[simp] theorem State.marksOk_updOsc (s : State) (f : Osc → Osc) : (s.updOsc f).marksOk ↔ s.marksOk := .rfl
@[simp] theorem State.marksOk_updAfc (s : State) (f : Afc → Afc) : (s.updAfc f).marksOk ↔ s.marksOk := .rfl
@[simp] theorem State.marksOk_updFrg (s : State) (f : Frg → Frg) : (s.updFrg f).marksOk ↔ s.marksOk := .rfl
@[simp] theorem State.marksOk_updDefrost (s : State) (f : Defrost → Defrost) :
    (s.updDefrost f).marksOk ↔ s.marksOk := .rfl
@[simp] theorem State.marksOk_updHum (s : State) (f : Hum → Hum) : (s.updHum f).marksOk ↔ s.marksOk := .rfl
@[simp] theorem State.marksOk_updSensor (s : State) (n : Nat) (f : Sensor → Sensor) :
    (s.updSensor n f).marksOk ↔ s.marksOk := .rfl
@[simp] theorem State.marksOk_updFlt (s : State) (f : Flt → Flt) : (s.updFlt f).marksOk ↔ s.marksOk := .rfl
@[simp] theorem State.marksOk_updCheck (s : State) (f : Check → Check) : (s.updCheck f).marksOk ↔ s.marksOk := .rfl
@[simp] theorem State.marksOk_updSup (s : State) (f : Sup → Sup) : (s.updSup f).marksOk ↔ s.marksOk := .rfl
@[simp] theorem State.marksOk_updLnk (s : State) (f : Lnk → Lnk) : (s.updLnk f).marksOk ↔ s.marksOk := .rfl
@[simp] theorem State.marksOk_updLink (s : State) (l : Link) (f : LinkRec → LinkRec) :
    (s.updLink l f).marksOk ↔ s.marksOk := .rfl
@[simp] theorem State.marksOk_useFree (s : State) : s.useFree.marksOk ↔ s.marksOk := .rfl
@[simp] theorem State.marksOk_setFlag (s : State) (g : Flag) : (s.setFlag g).marksOk ↔ s.marksOk := .rfl

/-- A change of DIO that leaves its three marks. -/
theorem State.marksOk_updDio (s : State) {f : Dio → Dio} (hb : (f s.dio).boostMark = s.dio.boostMark)
    (hh : (f s.dio).hoodMark = s.dio.hoodMark) (hf : (f s.dio).fireMark = s.dio.fireMark) :
    (s.updDio f).marksOk ↔ s.marksOk := by
  simp [State.marksOk, hb, hh, hf]

@[simp] theorem State.marksOk_raise (s : State) (k : NoticeKind) (x : Nat) (v : Int) :
    (s.raise k x v).marksOk ↔ s.marksOk := (SettledFrom.raise s k x v).marks

@[simp] theorem State.marksOk_faultEvent (s : State) (g : Flag) (x : Nat) (v : Int) :
    (s.faultEvent g x v).marksOk ↔ s.marksOk := (SettledFrom.offerCapture (s.setFlag g) _).marks

@[simp] theorem State.marksOk_setDevice (s : State) (d : DevState) : (s.setDevice d).marksOk ↔ s.marksOk := by
  simp [State.setDevice]

@[simp] theorem State.marksOk_movePath (s : State) (i : PathId) (p : FanPath) :
    (s.movePath i p).marksOk ↔ s.marksOk := by
  unfold State.movePath
  dsimp only
  split
  · exact .rfl
  · exact State.marksOk_raise _ _ _ _

@[simp] theorem State.marksOk_propagate (s : State) : s.propagate.marksOk ↔ s.marksOk := (SettledFrom.propagate s).marks

/-- A post or withdrawal of a slot that is none of DIO's. -/
theorem SettledFrom.marksOf {x : Slot} {s t : State} (h : SettledFrom [x] s t) (hx : x ∉ dioSlots) :
    t.marksOk ↔ s.marksOk :=
  h.marksOk_iff fun _ hy hyx => hx (List.mem_singleton.mp hyx ▸ hy)

@[simp] theorem State.marksOk_postCore (s : State) {x : Slot} (hx : x ∉ dioSlots) (n : Nat) (p : PostArgs)
    (l : Option Link) : (s.postCore x n p l).1.marksOk ↔ s.marksOk := (SettledFrom.postCore s x n p l).marksOf hx

@[simp] theorem State.marksOk_internalPost (s : State) {x : Slot} (hx : x ∉ dioSlots) (n : Nat) (c : Carry)
    (t : Option Nat) : (s.internalPost x n c t).1.marksOk ↔ s.marksOk := (SettledFrom.internalPost s x n c t).marksOf hx

@[simp] theorem State.marksOk_withdraw (s : State) {x : Slot} (hx : x ∉ dioSlots) :
    (s.withdraw x).marksOk ↔ s.marksOk := (SettledFrom.withdraw s x).marksOf hx

theorem State.marksOk_foldl {α : Type} {f : State → α → State} (hf : ∀ s a, (f s a).marksOk ↔ s.marksOk) (l : List α)
    (s : State) : (l.foldl f s).marksOk ↔ s.marksOk := by
  induction l generalizing s with
  | nil => rfl
  | cons a l ih => exact (ih _).trans (hf s a)

/-! ### ARB -/

/-- A second of a run time frees no slot (R14). -/
theorem Arb.countRun_get_none (a : Arb) (x : Slot) : a.countRun.table.get x = none ↔ a.table.get x = none := by
  unfold Arb.countRun
  split
  · rfl
  · split
    · rfl
    · next held =>
      split
      · rfl
      · split
        · rfl
        · simp only [DemandTable.get_put]
          split
          · next h => simp [h, held]
          · rfl

@[simp] theorem State.marksOk_countRun (s : State) : (s.updArb Arb.countRun).marksOk ↔ s.marksOk :=
  State.marksOk_congr fun x _ => ⟨s.arb.countRun_get_none x, rfl⟩

@[simp] theorem State.marksOk_reselect (s : State) : (s.applyArb s.arb.reselect).marksOk ↔ s.marksOk :=
  (SettledFrom.applyArb s _ (.reselect _) (Arb.reselect_reports _)).marks

theorem State.marksOk_linkPost (s : State) (l : Link) (o : Origin) {x : Slot} (hx : x ∉ dioSlots) (p : LinkPost) :
    (s.linkPost l o x p).1.marksOk ↔ s.marksOk := by
  unfold State.linkPost
  dsimp only
  split <;> simp only [State.marksOk_propagate, State.marksOk_postCore _ hx]

theorem State.marksOk_cancel (s : State) {x : Slot} (hx : x ∉ dioSlots) : (s.cancel x).marksOk ↔ s.marksOk :=
  (State.marksOk_propagate _).trans (State.marksOk_withdraw s hx)

/-- A link writes no slot of DIO (R3). -/
theorem Origin.mayWrite_not_dio {o : Origin} {x : Slot} (h : o.mayWrite x ≠ false) : x ∉ dioSlots := by
  intro hx
  rcases mem_dioSlots.mp hx with rfl | rfl | rfl <;> cases o <;> exact h rfl

/-! ### AFC -/

@[simp] theorem State.marksOk_readNozzle (s : State) (i : PathId) (r : Reading) :
    (s.readNozzle i r).marksOk ↔ s.marksOk := by
  unfold State.readNozzle
  dsimp only
  split_ifs <;> simp

@[simp] theorem State.marksOk_sensePath (s : State) (i : PathId) (r : Reading) (n : Nat) :
    (s.sensePath i r n).marksOk ↔ s.marksOk := by
  simp [State.sensePath]

@[simp] theorem State.marksOk_regulatePath (s : State) (i : PathId) (old : FanPath) :
    (s.regulatePath i old).marksOk ↔ s.marksOk := by
  simp [State.regulatePath]

@[simp] theorem State.marksOk_stallPath (s : State) (i : PathId) (failed : Bool) :
    (s.stallPath i failed).marksOk ↔ s.marksOk := by
  simp [State.stallPath]

@[simp] theorem State.marksOk_startCheck (s : State) (c : CheckTrigger) : (s.startCheck c).1.marksOk ↔ s.marksOk :=
  (SettledFrom.startCheck s c).marks

@[simp] theorem State.marksOk_shortfallPrompt (s : State) : s.shortfallPrompt.marksOk ↔ s.marksOk := by
  unfold State.shortfallPrompt
  dsimp only
  split_ifs
  · exact s.marksOk_startCheck _
  · rfl

@[simp] theorem State.marksOk_zeroNozzle (s : State) (i : PathId) : (s.zeroNozzle i).marksOk ↔ s.marksOk := by
  unfold State.zeroNozzle
  dsimp only
  split <;> simp

@[simp] theorem State.marksOk_releasePath (s : State) (i : PathId) : (s.releasePath i).marksOk ↔ s.marksOk := by
  unfold State.releasePath
  dsimp only
  split
  · exact s.marksOk_movePath _ _
  · rfl

/-! ### FRG -/

@[simp] theorem State.marksOk_confirmExit (s : State) : s.confirmExit.marksOk ↔ s.marksOk := by
  unfold State.confirmExit
  dsimp only
  split_ifs <;> rfl

@[simp] theorem State.marksOk_afterRegime (s : State) (r : Regime) : (s.afterRegime r).marksOk ↔ s.marksOk := by
  unfold State.afterRegime
  split_ifs <;> simp [State.computeSubstitute]

@[simp] theorem State.marksOk_readTemp (s : State) (i : TempId) (r : TempReading) :
    (s.readTemp i r).marksOk ↔ s.marksOk := by
  unfold State.readTemp
  dsimp only
  split_ifs <;> simp

@[simp] theorem State.marksOk_invalidate (s : State) (i : TempId) : (s.invalidate i).marksOk ↔ s.marksOk := by
  simp [State.invalidate]

@[simp] theorem State.marksOk_setImbalance (s : State) (n : Nat) : (s.setImbalance n).marksOk ↔ s.marksOk :=
  (State.setImbalance_acts s n).settled.marks

@[simp] theorem State.marksOk_evaluateFrost (s : State) : s.evaluateFrost.marksOk ↔ s.marksOk :=
  (SettledFrom.evaluateFrost s).marks.trans (s.marksOk_updFrg fun _ => s.evaluateFrost.frg)

@[simp] theorem State.marksOk_confirmEntry (s : State) : s.confirmEntry.marksOk ↔ s.marksOk :=
  (SettledFrom.confirmEntry s).marks

@[simp] theorem State.marksOk_defrostSecond (s : State) : s.defrostSecond.marksOk ↔ s.marksOk := by
  unfold State.defrostSecond
  dsimp only
  split
  · split_ifs <;> simp
  · split_ifs <;> simp
  · rfl
  all_goals rfl

@[simp] theorem State.marksOk_endDefrost (s : State) (e : DefrostEnd) (n : Nat) :
    (s.endDefrost e n).marksOk ↔ s.marksOk := by
  simp [State.endDefrost]

@[simp] theorem State.marksOk_startLoad (s : State) : s.startLoad.marksOk ↔ s.marksOk := by
  unfold State.startLoad
  split <;> rfl

@[simp] theorem State.marksOk_reportCutout (s : State) (c : Contact) : (s.reportCutout c).marksOk ↔ s.marksOk := by
  cases c <;> simp [State.reportCutout]

@[simp] theorem State.marksOk_runOnEnded (s : State) : s.runOnEnded.marksOk ↔ s.marksOk :=
  (SettledFrom.runOnEnded s).marks

@[simp] theorem State.marksOk_repostDefrost (s : State) (found : DefrostPhase) :
    (s.repostDefrost found).marksOk ↔ s.marksOk := by
  unfold State.repostDefrost
  split_ifs
  · exact (SettledFrom.postDefrost s).marks
  · exact (SettledFrom.postDefrost (s.updDefrost _)).marks
  · rfl

/-! ### HUM -/

@[simp] theorem State.marksOk_deriveHumidity (s : State) : s.deriveHumidity.marksOk ↔ s.marksOk := by
  unfold State.deriveHumidity
  dsimp only
  split_ifs <;> rfl

@[simp] theorem State.marksOk_tryHumidity (s : State) : s.tryHumidity.marksOk ↔ s.marksOk := by
  unfold State.tryHumidity
  dsimp only
  split_ifs <;> simp

@[simp] theorem State.marksOk_tryDryness (s : State) : s.tryDryness.marksOk ↔ s.marksOk := by
  unfold State.tryDryness
  dsimp only
  split_ifs <;> simp

@[simp] theorem State.marksOk_endHumidity (s : State) : s.endHumidity.marksOk ↔ s.marksOk := by
  unfold State.endHumidity
  split <;> simp

@[simp] theorem State.marksOk_endDryness (s : State) : s.endDryness.marksOk ↔ s.marksOk := by
  unfold State.endDryness
  split <;> simp

@[simp] theorem State.marksOk_startBoost (s : State) (n : Nat) (t : BoostTrigger) (pre : Nat) :
    (s.startBoost n t pre).marksOk ↔ s.marksOk := by
  unfold State.startBoost
  dsimp only
  split <;> simp

@[simp] theorem State.marksOk_endBoost (s : State) (n : Nat) (f : Boost → Boost) :
    (s.endBoost n f).marksOk ↔ s.marksOk := by
  simp [State.endBoost]

@[simp] theorem State.marksOk_freshReading (s : State) (n rh : Nat) : (s.freshReading n rh).marksOk ↔ s.marksOk := by
  unfold State.freshReading
  dsimp only
  split
  · rw [State.marksOk_deriveHumidity]
    split
    · split
      · split
        · split <;> simp
        · split <;> simp
        · rfl
      · rfl
    · rfl
  · rfl

@[simp] theorem State.marksOk_entryLost (s : State) (n : Nat) : (s.entryLost n).marksOk ↔ s.marksOk := by
  unfold State.entryLost
  dsimp only
  split
  · split <;> simp
  · rfl

@[simp] theorem State.marksOk_evaluateDryness (s : State) : s.evaluateDryness.marksOk ↔ s.marksOk := by
  simp [State.evaluateDryness]

@[simp] theorem State.marksOk_boostSecond (s : State) : s.boostSecond.marksOk ↔ s.marksOk := .rfl

@[simp] theorem State.marksOk_offerBus (s : State) (n : Nat) (k : BusKind) : (s.offerBus n k).marksOk ↔ s.marksOk := .rfl

@[simp] theorem State.marksOk_setSensor (s : State) (n : Nat) (st : SensorState) (f : Sensor → Sensor) :
    (s.setSensor n st f).marksOk ↔ s.marksOk := by
  simp [State.setSensor]

@[simp] theorem State.marksOk_enterProbing (s : State) (n : Nat) : (s.enterProbing n).marksOk ↔ s.marksOk := by
  simp [State.enterProbing]

@[simp] theorem State.marksOk_loseSensor (s : State) (n o : Nat) : (s.loseSensor n o).marksOk ↔ s.marksOk := by
  unfold State.loseSensor
  dsimp only
  split <;> simp

@[simp] theorem State.marksOk_probed (s : State) (n : Nat) (o : BusOutcome) : (s.probed n o).marksOk ↔ s.marksOk := by
  unfold State.probed
  dsimp only
  split
  · split_ifs <;> simp
  · rfl

@[simp] theorem State.marksOk_measured (s : State) (n : Nat) (o : BusOutcome) (m : Option Measured) :
    (s.measured n o m).marksOk ↔ s.marksOk := by
  unfold State.measured
  dsimp only
  split
  · split
    · split <;> split <;> simp
    · rfl
  · rfl

@[simp] theorem State.marksOk_completeHead (s : State) (n : Nat) (o : BusOutcome) (sent : List BusItem) :
    (s.completeHead n o sent).marksOk ↔ s.marksOk := by
  have fault (t : State) : (t.busFault n).marksOk ↔ t.marksOk := State.marksOk_faultEvent _ _ _ _
  unfold State.completeHead
  dsimp only
  split_ifs <;> simp [fault]

@[simp] theorem State.marksOk_stretched (s : State) (n : Nat) : (s.stretched n).marksOk ↔ s.marksOk := by
  simp [State.stretched]

@[simp] theorem State.marksOk_pollRound (s : State) : s.pollRound.marksOk ↔ s.marksOk :=
  State.marksOk_foldl (fun s n => s.marksOk_offerBus n .measure) _ s

@[simp] theorem State.marksOk_busSecond (s : State) : s.busSecond.marksOk ↔ s.marksOk := .rfl

/-! ### FLT -/

@[simp] theorem State.marksOk_deriveFilter (s : State) (i : PathId) : (s.deriveFilter i).marksOk ↔ s.marksOk := by
  unfold State.deriveFilter State.flagDue
  dsimp only
  split_ifs <;> simp

@[simp] theorem State.marksOk_deriveFilters (s : State) : s.deriveFilters.marksOk ↔ s.marksOk := by
  simp [State.deriveFilters]

@[simp] theorem State.marksOk_persist (s : State) : s.persist.marksOk ↔ s.marksOk := .rfl

@[simp] theorem State.marksOk_recordCheckEnd (s : State) (o : CheckOutcome) :
    (s.recordCheckEnd o).marksOk ↔ s.marksOk := .rfl

@[simp] theorem State.marksOk_raiseFilterResult (s : State) : s.raiseFilterResult.marksOk ↔ s.marksOk :=
  s.marksOk_raise _ _ _

@[simp] theorem State.marksOk_abandonCheck (s : State) (o : CheckOutcome) : (s.abandonCheck o).marksOk ↔ s.marksOk := by
  unfold State.abandonCheck
  split <;> simp

@[simp] theorem State.marksOk_dueStartTest (s : State) : s.dueStartTest.marksOk ↔ s.marksOk := .rfl

@[simp] theorem State.marksOk_dueCheck (s : State) : s.dueCheck.marksOk ↔ s.marksOk := .rfl

@[simp] theorem State.marksOk_startTest (s : State) : s.startTest.marksOk ↔ s.marksOk := (SettledFrom.startTest s).marks

@[simp] theorem State.marksOk_checkSecond (s : State) : s.checkSecond.marksOk ↔ s.marksOk := .rfl

@[simp] theorem State.marksOk_evaluateFilters (s : State) : s.evaluateFilters.marksOk ↔ s.marksOk := .rfl

@[simp] theorem State.marksOk_completeCheck (s : State) : s.completeCheck.marksOk ↔ s.marksOk := by
  simp [State.completeCheck]

@[simp] theorem State.marksOk_runHour (s : State) : s.runHour.marksOk ↔ s.marksOk := by
  unfold State.runHour
  dsimp only
  split_ifs <;> simp

@[simp] theorem State.marksOk_accumulate (s : State) : s.accumulate.marksOk ↔ s.marksOk := by
  unfold State.accumulate
  split <;> rfl

@[simp] theorem State.marksOk_readFilter (s : State) (i : PathId) (r : Reading) :
    (s.readFilter i r).marksOk ↔ s.marksOk := by
  unfold State.readFilter
  dsimp only
  split_ifs <;> simp

@[simp] theorem State.marksOk_zeroFilter (s : State) (i : PathId) : (s.zeroFilter i).marksOk ↔ s.marksOk := by
  unfold State.zeroFilter
  dsimp only
  split <;> simp

@[simp] theorem State.marksOk_enterFilterService (s : State) : s.enterFilterService.marksOk ↔ s.marksOk := by
  simp [State.enterFilterService]

@[simp] theorem State.marksOk_returnToRunning (s : State) : s.returnToRunning.marksOk ↔ s.marksOk := by
  simp [State.returnToRunning]

@[simp] theorem State.marksOk_enterDoorOpen (s : State) : s.enterDoorOpen.marksOk ↔ s.marksOk := by
  simp [State.enterDoorOpen]

@[simp] theorem State.marksOk_doorReport (s : State) (c : Contact) : (s.doorReport c).marksOk ↔ s.marksOk := by
  unfold State.doorReport
  dsimp only
  split
  case h_4 => split <;> simp
  all_goals simp

@[simp] theorem State.marksOk_doorTest (s : State) : s.doorTest.marksOk ↔ s.marksOk := by
  unfold State.doorTest
  split <;> simp

@[simp] theorem State.marksOk_filterOpen (s : State) : s.filterOpen.marksOk ↔ s.marksOk := by
  unfold State.filterOpen
  dsimp only
  split <;> simp

@[simp] theorem State.marksOk_filtersChanged (s : State) (l : List PathId) : (s.filtersChanged l).marksOk ↔ s.marksOk := by
  have changed : (l.foldl State.changeFilter s).marksOk ↔ s.marksOk := 
    State.marksOk_foldl (f := State.changeFilter) (fun s _ => s.marksOk_updFlt _) l s
  have derived (t : State) : (l.foldl State.deriveFilter t).marksOk ↔ t.marksOk :=
    State.marksOk_foldl State.marksOk_deriveFilter l t
  simp [State.filtersChanged, changed, derived]

/-! ### SUP -/

@[simp] theorem State.marksOk_releaseFor (s : State) (was : FlagSet) (named : List Flag) (i : PathId) :
    (s.releaseFor was named i).marksOk ↔ s.marksOk := by
  unfold State.releaseFor
  split <;> simp

@[simp] theorem State.marksOk_clearFlags (s : State) (named : List Flag) : (s.clearFlags named).marksOk ↔ s.marksOk := by
  simp [State.clearFlags]

@[simp] theorem State.marksOk_releaseOwner (s : State) : s.releaseOwner.marksOk ↔ s.marksOk := by
  simp [State.releaseOwner]

@[simp] theorem State.marksOk_postManual (s : State) (l : Link) (m : ManualOutputs) :
    (s.postManual l m).1.marksOk ↔ s.marksOk := by
  unfold State.postManual
  dsimp only
  split <;> simp

end Sys2Proof.Machine
end

section
/-! Every step keeps DIO's marks (R146): DIO's own changes, the device's states, the requests, and every row of the opcode
table. -/

namespace Sys2Proof.Machine

/-! ### DIO -/

theorem Dio.updChannel_marks (d : Dio) (n : Nat) (f : Channel → Channel) :
    (d.updChannel n f).boostMark = d.boostMark ∧ (d.updChannel n f).hoodMark = d.hoodMark
      ∧ (d.updChannel n f).fireMark = d.fireMark := by
  unfold Dio.updChannel
  split <;> exact ⟨rfl, rfl, rfl⟩

@[simp] theorem State.marksOk_updChannel (s : State) (n : Nat) (f : Channel → Channel) :
    (s.updDio fun d => d.updChannel n f).marksOk ↔ s.marksOk := by
  obtain ⟨hb, hh, hf⟩ := s.dio.updChannel_marks n f
  exact s.marksOk_updDio hb hh hf

theorem BoostInput.slot_mem_dioSlots (i : BoostInput) : i.slot ∈ dioSlots := by
  cases i <;> simp [BoostInput.slot]

theorem State.marksOk.postInput {s : State} (h : s.marksOk) (i : BoostInput) (t : Option Nat) :
    (s.postInput i t).1.marksOk :=
  h.markedPost i.slot_mem_dioSlots (Dio.setMark_marksSlot i true) _ _ t

theorem State.marksOk.postFire {s : State} (h : s.marksOk) : s.postFire.marksOk :=
  h.markedPost (by simp) (Dio.fireMark_marksSlot true) _ _ _

theorem State.marksOk.propagate {s : State} (h : s.marksOk) : s.propagate.marksOk := s.marksOk_propagate.mpr h

theorem State.marksOk.inputAsserted {s : State} (h : s.marksOk) (i : BoostInput) : (s.inputAsserted i).marksOk := by
  unfold State.inputAsserted
  split
  · exact (h.postInput i _).propagate
  · exact h

/-- A renewal that the watch blocks leaves the mark cleared and the slot withdrawn (R148). -/
theorem State.marksOk.inputDeasserted {s : State} (h : s.marksOk) (i : BoostInput) : (s.inputDeasserted i).marksOk := by
  have posted := h.postInput i (some (s.setting 16))
  unfold State.inputDeasserted
  split
  · dsimp only
    split
    · exact posted.propagate
    · exact (posted.unmarkWithdraw i.slot_mem_dioSlots (Dio.setMark_marksSlot i false)).propagate
  · exact h

theorem State.marksOk.functionChanged {s : State} (h : s.marksOk) (f : InputFunction) (on : Bool) :
    (s.functionChanged f on).marksOk := by
  cases f with
  | none => exact h
  | boost => cases on with
    | true => exact h.inputAsserted .boost
    | false => exact h.inputDeasserted .boost
  | hood => cases on with
    | true => exact h.inputAsserted .hood
    | false => exact h.inputDeasserted .hood
  | fire => cases on with
    | true => exact (State.marksOk.postFire ((s.marksOk_setFlag .fireInput).mpr h)).propagate
    | false => exact (h.unmarkWithdraw (by simp) (Dio.fireMark_marksSlot false)).propagate
  | filterDoor => cases on <;> exact (s.marksOk_doorReport _).mpr h

@[simp] theorem State.marksOk_functionEstablished (s : State) (f : InputFunction) :
    (s.functionEstablished f).marksOk ↔ s.marksOk := by
  cases f with
  | filterDoor => exact s.marksOk_doorReport .opened
  | _ => rfl

theorem State.marksOk.debounced {s : State} (h : s.marksOk) (n : Nat) (ch : Channel) : (s.debounced n ch).marksOk := by
  have settled := (s.marksOk_updChannel n Channel.settle).mpr h
  unfold State.debounced
  dsimp only
  split_ifs
  · exact settled
  · exact (State.marksOk_functionEstablished _ _).mpr settled
  · exact settled.functionChanged _ _

/-- The post of BOOST or HOOD at an entry into RUNNING, where it is an asserted LEVEL function (R149). -/
def State.entryInput (s : State) (i : BoostInput) : State :=
  if s.dio.asserted i.function && s.dio.level i.function then (s.postInput i none).1.propagate else s

/-- The post of FIRE at an entry into RUNNING, where it is asserted (R149). -/
def State.entryFire (s : State) : State :=
  if s.dio.asserted .fire then s.postFire.propagate else s

theorem State.inputPosts_eq (s : State) : s.inputPosts = ((s.entryInput .boost).entryInput .hood).entryFire := rfl

theorem State.marksOk.entryInput {s : State} (h : s.marksOk) (i : BoostInput) : (s.entryInput i).marksOk := by
  unfold State.entryInput
  split
  · exact (h.postInput i none).propagate
  · exact h

theorem State.marksOk.entryFire {s : State} (h : s.marksOk) : s.entryFire.marksOk := by
  unfold State.entryFire
  split
  · exact h.postFire.propagate
  · exact h

theorem State.marksOk.inputPosts {s : State} (h : s.marksOk) : s.inputPosts.marksOk :=
  s.inputPosts_eq ▸ ((h.entryInput .boost).entryInput .hood).entryFire

@[simp] theorem State.marksOk_elapseInputs (s : State) : s.elapseInputs.marksOk ↔ s.marksOk := .rfl

/-! ### The device's states -/

/-- After a reset every slot but BASE is FREE and no mark is set. -/
theorem State.marksOk_coldStart (s : State) : s.coldStart.marksOk := by
  refine ⟨?_, ?_, ?_⟩ <;> simp [State.coldStart, Dio.reset, State.reset, Arb.reset, DemandTable.reset]

@[simp] theorem State.marksOk_loadTable (s : State) : s.loadTable.marksOk ↔ s.marksOk := by
  unfold State.loadTable
  dsimp only
  split <;> rfl

@[simp] theorem State.marksOk_loadChannel (s : State) (n : Nat) : (s.loadChannel n).marksOk ↔ s.marksOk :=
  s.marksOk_updChannel n _

@[simp] theorem State.marksOk_loadSensor (s : State) (n : Nat) : (s.loadSensor n).marksOk ↔ s.marksOk := by
  unfold State.loadSensor
  dsimp only
  split <;> simp

@[simp] theorem State.marksOk_loadFilters (s : State) : s.loadFilters.marksOk ↔ s.marksOk := by
  have derived (t : State) (i : PathId) : (t.deriveLoaded i).marksOk ↔ t.marksOk := by
    unfold State.deriveLoaded
    dsimp only
    split <;> rfl
  unfold State.loadFilters
  dsimp only
  split <;> simp [derived]

theorem State.marksOk_powerUp (s : State) : s.powerUp.marksOk := by
  unfold State.powerUp
  rw [State.marksOk_loadFilters, State.marksOk_foldl State.marksOk_loadSensor,
    State.marksOk_foldl State.marksOk_loadChannel, State.marksOk_loadTable]
  exact s.marksOk_coldStart

theorem State.marksOk.finishEntry {s : State} (h : s.marksOk) (found : DefrostPhase) : (s.finishEntry found).marksOk := by
  simpa [State.finishEntry, State.entryPosts] using h.inputPosts

@[simp] theorem State.marksOk_zeroAll (s : State) : s.zeroAll.marksOk ↔ s.marksOk := by
  simp [State.zeroAll]

theorem State.marksOk.enterFromStarting {s : State} (h : s.marksOk) : s.enterFromStarting.marksOk := by
  have released (t : State) : (t.updDio fun d => { d with released := true }).marksOk ↔ t.marksOk := .rfl
  refine State.marksOk.finishEntry ?_ .idle
  simpa [State.entryEvaluation, State.activateHumidity, released] using h

theorem State.marksOk.enterFromWaking {s : State} (h : s.marksOk) : s.enterFromWaking.marksOk := by
  refine State.marksOk.finishEntry ?_ _
  simpa [State.entryEvaluation] using h

theorem State.marksOk.acceptStandby {s : State} (h : s.marksOk) : s.acceptStandby.marksOk := by
  unfold State.acceptStandby
  dsimp only
  rw [State.marksOk_propagate, State.marksOk_setDevice, State.marksOk_updDefrost]
  exact State.marksOk.clearForStandby ((s.marksOk_updSup _).mpr h) _

@[simp] theorem State.marksOk_startWaking (s : State) : s.startWaking.marksOk ↔ s.marksOk := by
  simp [State.startWaking]

theorem State.marksOk.wakeFromStopping {s : State} (h : s.marksOk) : s.wakeFromStopping.marksOk :=
  ((s.marksOk_setDevice .running).mpr h).finishEntry _

theorem State.marksOk.restartIfSent {s : State} (h : s.marksOk) : s.restartIfSent.marksOk := by
  unfold State.restartIfSent
  split
  · split
    · exact s.marksOk_powerUp
    · exact h
  · exact h

@[simp] theorem State.marksOk_settingChanged (s : State) (id : Nat) : (s.settingChanged id).marksOk ↔ s.marksOk := by
  unfold State.settingChanged
  dsimp only
  split_ifs <;> simp

@[simp] theorem State.marksOk_takeSetting (s : State) (id : Nat) (table : List Int) :
    (s.takeSetting id table).marksOk ↔ s.marksOk := by
  unfold State.takeSetting
  split <;> simp

@[simp] theorem State.marksOk_countSecond (s : State) : s.countSecond.marksOk ↔ s.marksOk := by
  unfold State.countSecond
  dsimp only
  split <;> simp

@[simp] theorem State.marksOk_airSecond (s : State) (r : SecondReadings) : (s.airSecond r).marksOk ↔ s.marksOk := by
  simp [State.airSecond]

@[simp] theorem State.marksOk_readSecond (s : State) (r : SecondReadings) : (s.readSecond r).marksOk ↔ s.marksOk := by
  simp [State.readSecond]

@[simp] theorem State.marksOk_recordSecond (s : State) : s.recordSecond.marksOk ↔ s.marksOk := by
  simp [State.recordSecond]

/-! ### Requests -/

/-- A block's part of a request keeps the marks. -/
def ActKeepsMarks (act : State → Origin → List Byte → State × Reply) : Prop :=
  ∀ s o fields, s.marksOk → (act s o fields).1.marksOk

@[simp] theorem State.marksOk_answerUnknown (s : State) (l : Link) : (s.answerUnknown l).marksOk ↔ s.marksOk := by
  unfold State.answerUnknown
  split <;> rfl

theorem State.marksOk.checked {s : State} (h : s.marksOk) (l : Link) (k : RequestKind) (f : Frame)
    {act : State → Origin → List Byte → State × Reply} (hact : ActKeepsMarks act) : (s.checked l k f act).1.marksOk := by
  unfold State.checked
  split
  · exact h
  · split
    · exact h
    · dsimp only
      split_ifs
      · exact h
      · exact h
      · exact hact _ _ _ h

/-- A request row keeps the marks when the block's part does (R170 to R172). -/
theorem State.marksOk.request {s : State} (h : s.marksOk) (l : Link) (k : RequestKind)
    {act : State → Origin → List Byte → State × Reply} (hact : ActKeepsMarks act) : (s.request l k act).marksOk := by
  unfold State.request
  split
  · exact h
  · split
    · exact (State.marksOk_answerUnknown _ _).mpr (((s.marksOk_updLink l _).mpr h).checked l k _ hact)
    · exact h

theorem State.marksOk.requireOrigin {s : State} (h : s.marksOk) (need o : Origin) {a : State × Reply}
    (ha : a.1.marksOk) : (requireOrigin need o s a).1.marksOk := by
  unfold Machine.requireOrigin
  split
  · exact h
  · exact ha

/-- A read changes nothing. -/
theorem ActKeepsMarks.ofRead {act : State → Origin → List Byte → State × Reply}
    (hact : ∀ s o fields, (act s o fields).1 = s) : ActKeepsMarks act :=
  fun s o fields h => by rwa [hact]

theorem actReadDemands_state (s : State) (o : Origin) (fields : List Byte) : (actReadDemands s o fields).1 = s := by
  unfold actReadDemands
  split
  · rfl
  · split <;> rfl

theorem actReadSensors_state (s : State) (o : Origin) (fields : List Byte) : (actReadSensors s o fields).1 = s := by
  unfold actReadSensors
  split
  · rfl
  · split
    · rfl
    · split <;> rfl

theorem actReadFilters_state (s : State) (o : Origin) (fields : List Byte) : (actReadFilters s o fields).1 = s := by
  unfold actReadFilters
  split
  · rfl
  · split_ifs <;> rfl

theorem actGetSetting_state (s : State) (o : Origin) (fields : List Byte) : (actGetSetting s o fields).1 = s := by
  unfold actGetSetting
  split
  · dsimp only
    split <;> rfl
  · rfl

theorem actPostDemand_marks (l : Link) : ActKeepsMarks (actPostDemand l) := by
  intro s o fields h
  unfold actPostDemand
  split
  · split
    · exact h
    · split
      · exact h
      · split
        · exact h
        · next writable => simpa [s.marksOk_linkPost l o (Origin.mayWrite_not_dio writable)] using h
  · exact h

theorem actCancelDemand_marks : ActKeepsMarks actCancelDemand := by
  intro s o fields h
  unfold actCancelDemand
  split
  · split
    · exact h
    · split
      · exact h
      · split
        · exact h
        · next writable => simpa [s.marksOk_cancel (Origin.mayWrite_not_dio writable)] using h
  · exact h

theorem actProbeSensor_marks : ActKeepsMarks actProbeSensor := by
  intro s o fields h
  unfold actProbeSensor
  split
  · refine h.requireOrigin _ _ ?_
    dsimp only
    split
    · exact h
    · split <;> simpa using h
  · exact h

theorem actCheckFilters_marks : ActKeepsMarks actCheckFilters := by
  intro s o fields h
  unfold actCheckFilters
  split
  · exact h
  · refine h.requireOrigin _ _ ?_
    split <;> simpa using h

theorem actFilterOpen_marks : ActKeepsMarks actFilterOpen := by
  intro s o fields h
  unfold actFilterOpen
  split
  · exact h
  · refine h.requireOrigin _ _ ?_
    split <;> simpa using h

theorem actFilterClose_marks : ActKeepsMarks actFilterClose := by
  intro s o fields h
  unfold actFilterClose
  split
  · exact h
  · refine h.requireOrigin _ _ ?_
    split <;> simpa using h

theorem actFilterChanged_marks : ActKeepsMarks actFilterChanged := by
  intro s o fields h
  unfold actFilterChanged
  split
  · split
    · exact h
    · refine h.requireOrigin _ _ ?_
      split <;> simpa using h
  · exact h

theorem actClearFlags_marks : ActKeepsMarks actClearFlags := by
  intro s o fields h
  refine h.requireOrigin _ _ ?_
  split <;> simpa using h

theorem actSetWatch_marks : ActKeepsMarks actSetWatch := by
  intro s o fields h
  unfold actSetWatch
  split
  · refine h.requireOrigin _ _ ?_
    split <;> exact h
  · exact h

theorem actClaimManual_marks (l : Link) : ActKeepsMarks (actClaimManual l) := by
  intro s o fields h
  unfold actClaimManual
  split
  · exact h
  · refine h.requireOrigin _ _ ?_
    split
    · exact h
    · split
      · exact h
      · split <;> exact h

theorem actReleaseManual_marks (l : Link) : ActKeepsMarks (actReleaseManual l) := by
  intro s o fields h
  refine h.requireOrigin _ _ ?_
  split <;> simpa using h

theorem actManualOutputs_marks (l : Link) : ActKeepsMarks (actManualOutputs l) := by
  intro s o fields h
  unfold actManualOutputs
  split
  · split
    · exact h
    · refine h.requireOrigin _ _ ?_
      split_ifs <;> simpa using h
  · exact h

theorem actSetSetting_marks : ActKeepsMarks actSetSetting := by
  intro s o fields h
  unfold actSetSetting
  split
  · dsimp only
    split <;> simpa using h
  · exact h

theorem actStoreSettings_marks : ActKeepsMarks actStoreSettings := by
  intro s o fields h
  refine h.requireOrigin _ _ ?_
  split <;> exact h

theorem actStandby_marks : ActKeepsMarks actStandby := by
  intro s o fields h
  unfold actStandby
  split
  · exact h
  · refine h.requireOrigin _ _ ?_
    simpa using h.acceptStandby

theorem actWake_marks : ActKeepsMarks actWake := by
  intro s o fields h
  unfold actWake
  split
  · refine h.requireOrigin _ _ ?_
    simpa using h.wakeFromStopping
  · refine h.requireOrigin _ _ ?_
    simpa using h
  all_goals exact h

/-! ### The rows -/

/-- Whatever state a command answers has its marks right. -/
def AnswersMarked (a : Answer) : Prop := ∀ t, a = .next t → t.marksOk

@[simp] theorem answersMarked_next {t : State} : AnswersMarked (.next t) ↔ t.marksOk :=
  ⟨fun h => h t rfl, fun h _ ht => by cases ht; exact h⟩

/-- A row that makes a change which leaves the marks as they are, where the row is due, and nothing otherwise (log 1). -/
theorem AnswersMarked.guarded {s t : State} {c : Prop} [Decidable c] (h : s.marksOk) (ht : t.marksOk ↔ s.marksOk) :
    AnswersMarked (if c then .next t else .next s) := by
  split
  · exact answersMarked_next.mpr (ht.mpr h)
  · exact answersMarked_next.mpr h

section Rows

variable {s : State}

theorem execPowerOn_marked (s : State) : AnswersMarked (execPowerOn s) := by
  unfold execPowerOn
  exact answersMarked_next.mpr s.marksOk_powerUp

theorem execDemandExpiry_marked (h : s.marksOk) : AnswersMarked (execDemandExpiry s) := by
  unfold execDemandExpiry
  split
  · exact answersMarked_next.mpr (h.expire _).propagate
  · exact answersMarked_next.mpr h

theorem execUptimeTick_marked (h : s.marksOk) (r : SecondReadings) : AnswersMarked (execUptimeTick r s) :=
  .guarded h (by simp)

theorem execSpinupEnd_marked (h : s.marksOk) (i : PathId) : AnswersMarked (execSpinupEnd i s) := by
  unfold execSpinupEnd
  dsimp only
  split_ifs <;> simpa using h

theorem execStallDetected_marked (h : s.marksOk) (i : PathId) : AnswersMarked (execStallDetected i s) :=
  .guarded h (by simp)

theorem execRetryEnd_marked (h : s.marksOk) (i : PathId) : AnswersMarked (execRetryEnd i s) :=
  .guarded h (by simp)

theorem execGoodTimeComplete_marked (h : s.marksOk) (i : PathId) : AnswersMarked (execGoodTimeComplete i s) :=
  .guarded h (by simp)

theorem execShortfallReported_marked (h : s.marksOk) (i : PathId) : AnswersMarked (execShortfallReported i s) :=
  .guarded h (by simp)

theorem execHoldExpired_marked (h : s.marksOk) (i : TempId) : AnswersMarked (execHoldExpired i s) :=
  .guarded h (by simp)

theorem execFrostEvaluation_marked (h : s.marksOk) : AnswersMarked (execFrostEvaluation s) :=
  .guarded h (by simp)

theorem execRunOnEnd_marked (h : s.marksOk) : AnswersMarked (execRunOnEnd s) :=
  .guarded h (by simp)

theorem execHeaterWindowEnd_marked (h : s.marksOk) : AnswersMarked (execHeaterWindowEnd s) :=
  .guarded h (by simp)

theorem execHeaterOnTimeEnd_marked (h : s.marksOk) : AnswersMarked (execHeaterOnTimeEnd s) :=
  .guarded h (by simp)

theorem execDefrostCleared_marked (h : s.marksOk) : AnswersMarked (execDefrostCleared s) := by
  unfold execDefrostCleared
  split <;> simpa using h

theorem execDefrostIncomplete_marked (h : s.marksOk) : AnswersMarked (execDefrostIncomplete s) := by
  unfold execDefrostIncomplete
  dsimp only
  split <;> simpa using h

theorem execLockoutEnd_marked (h : s.marksOk) : AnswersMarked (execLockoutEnd s) :=
  .guarded h (by simp)

theorem execTransactionStart_marked (h : s.marksOk) : AnswersMarked (execTransactionStart s) :=
  .guarded h (by simp)

theorem execProbeComplete_marked (h : s.marksOk) (r : ProbeReply) : AnswersMarked (execProbeComplete r s) := by
  unfold execProbeComplete
  split <;> simpa using h

theorem execMeasureComplete_marked (h : s.marksOk) (m : MeasureReply) : AnswersMarked (execMeasureComplete m s) := by
  unfold execMeasureComplete
  split <;> simpa using h

theorem execStretchTimeout_marked (h : s.marksOk) : AnswersMarked (execStretchTimeout s) := by
  unfold execStretchTimeout
  split <;> simpa using h

theorem execRecoveryEnd_marked (h : s.marksOk) : AnswersMarked (execRecoveryEnd s) :=
  .guarded h (by simp)

theorem execPollRound_marked (h : s.marksOk) : AnswersMarked (execPollRound s) := by
  unfold execPollRound
  split
  · exact .guarded h (by simp)
  · exact answersMarked_next.mpr h

theorem execProbePauseEnd_marked (h : s.marksOk) (n : Nat) : AnswersMarked (execProbePauseEnd n s) := by
  unfold execProbePauseEnd
  split
  · exact .guarded h (by simp)
  · exact answersMarked_next.mpr h

theorem execLostTimeEnd_marked (h : s.marksOk) (n : Nat) : AnswersMarked (execLostTimeEnd n s) := by
  unfold execLostTimeEnd
  split
  · exact .guarded h (by simp)
  · exact answersMarked_next.mpr h

theorem execBoostLimit_marked (h : s.marksOk) (n : Nat) : AnswersMarked (execBoostLimit n s) := by
  unfold execBoostLimit
  split
  · exact .guarded h (by simp)
  · exact answersMarked_next.mpr h

theorem execHoldoffEnd_marked (h : s.marksOk) (n : Nat) : AnswersMarked (execHoldoffEnd n s) := by
  unfold execHoldoffEnd
  split
  · exact .guarded h (by simp)
  · exact answersMarked_next.mpr h

theorem execRingTick_marked (h : s.marksOk) : AnswersMarked (execRingTick s) :=
  .guarded h (by simp)

theorem execRunHour_marked (h : s.marksOk) : AnswersMarked (execRunHour s) :=
  .guarded h (by simp)

theorem execSettleStable_marked (h : s.marksOk) : AnswersMarked (execSettleStable s) :=
  .guarded h (by simp)

theorem execSettleTimeout_marked (h : s.marksOk) : AnswersMarked (execSettleTimeout s) :=
  .guarded h (by simp)

theorem execCheckWaitingExpired_marked (h : s.marksOk) : AnswersMarked (execCheckWaitingExpired s) :=
  .guarded h (by simp)

theorem execEvaluate_marked (h : s.marksOk) : AnswersMarked (execEvaluate s) :=
  .guarded h (by simp)

theorem execServiceTimerEnd_marked (h : s.marksOk) : AnswersMarked (execServiceTimerEnd s) := by
  unfold execServiceTimerEnd
  split
  · split <;> simpa using h
  · exact answersMarked_next.mpr h

theorem execFilterWriteComplete_marked (h : s.marksOk) (ok : Bool) : AnswersMarked (execFilterWriteComplete ok s) := by
  unfold execFilterWriteComplete
  split
  · exact answersMarked_next.mpr h
  · cases ok <;> simpa using h

theorem execStoreComplete_marked (h : s.marksOk) (ok : Bool) : AnswersMarked (execStoreComplete ok s) := by
  unfold execStoreComplete
  split
  · exact answersMarked_next.mpr h
  · cases ok <;> simpa using h

theorem execZeroingComplete_marked (h : s.marksOk) : AnswersMarked (execZeroingComplete s) := by
  have zeroed : s.zeroAll.marksOk := s.marksOk_zeroAll.mpr h
  unfold execZeroingComplete
  split
  · split
    · exact answersMarked_next.mpr zeroed.enterFromStarting
    · exact answersMarked_next.mpr zeroed.enterFromWaking
    all_goals exact answersMarked_next.mpr h
  · exact answersMarked_next.mpr h

theorem execRawContactChange_marked (h : s.marksOk) (line : InputLine) (c : Contact) :
    AnswersMarked (execRawContactChange line c s) := by
  cases line with
  | input n => exact answersMarked_next.mpr ((s.marksOk_updChannel n _).mpr h)
  | cutout => exact answersMarked_next.mpr h

theorem execInputDebounced_marked (h : s.marksOk) (n : Nat) : AnswersMarked (execInputDebounced n s) := by
  unfold execInputDebounced
  split
  · split
    · exact answersMarked_next.mpr h
    · exact answersMarked_next.mpr (h.debounced n _)
  · exact answersMarked_next.mpr h

theorem execCutoutDebounced_marked (h : s.marksOk) : AnswersMarked (execCutoutDebounced s) := by
  unfold execCutoutDebounced
  split
  · exact answersMarked_next.mpr h
  · exact answersMarked_next.mpr ((State.marksOk_reportCutout _ _).mpr h)

theorem execFrameArrived_marked (h : s.marksOk) (l : Link) (b : Byte) (stopOk : Bool) :
    AnswersMarked (execFrameArrived l b stopOk s) := by
  unfold execFrameArrived
  split <;> simpa using h

theorem execFrameError_marked (h : s.marksOk) (l : Link) (b : Byte) (stopOk : Bool) :
    AnswersMarked (execFrameError l b stopOk s) := by
  unfold execFrameError
  split <;> simpa using h

theorem execFrameTimeout_marked (h : s.marksOk) (l : Link) : AnswersMarked (execFrameTimeout l s) :=
  .guarded h (by simp)

theorem execByteReceived_marked (h : s.marksOk) (l : Link) (b : Byte) (stopOk : Bool) :
    AnswersMarked (execByteReceived l b stopOk s) := by
  unfold execByteReceived
  split <;> simpa using h

theorem execLinkBreak_marked (h : s.marksOk) (l : Link) : AnswersMarked (execLinkBreak l s) := by
  unfold execLinkBreak
  split
  · exact answersMarked_next.mpr h
  · refine answersMarked_next.mpr (State.marksOk.restartIfSent ?_)
    split <;> simpa using h

theorem execReplyTransmitted_marked (h : s.marksOk) (l : Link) : AnswersMarked (execReplyTransmitted l s) := by
  unfold execReplyTransmitted
  split
  · exact answersMarked_next.mpr h
  · exact answersMarked_next.mpr (State.marksOk.restartIfSent ((s.marksOk_updLink l _).mpr h))

theorem request_marked (h : s.marksOk) (l : Link) (k : RequestKind) {act : State → Origin → List Byte → State × Reply}
    (hact : ActKeepsMarks act) : AnswersMarked (.next (s.request l k act)) :=
  answersMarked_next.mpr (h.request l k hact)

/-- Every command keeps the marks. -/
theorem exec_marked (h : s.marksOk) (c : Instr) : AnswersMarked (exec c s) := by
  cases c with
  | powerOn => exact execPowerOn_marked s
  | queryStatus l => exact request_marked h l _ fun s _ _ hs => s.marksOk_elapseInputs.mpr hs
  | readDemands l => exact request_marked h l _ (.ofRead actReadDemands_state)
  | postDemand l => exact request_marked h l _ (actPostDemand_marks l)
  | cancelDemand l => exact request_marked h l _ actCancelDemand_marks
  | readAirflow l => exact request_marked h l _ (.ofRead fun _ _ _ => rfl)
  | readFrost l => exact request_marked h l _ (.ofRead fun _ _ _ => rfl)
  | readSensors l => exact request_marked h l _ (.ofRead actReadSensors_state)
  | probeSensor l => exact request_marked h l _ actProbeSensor_marks
  | readFilters l => exact request_marked h l _ (.ofRead actReadFilters_state)
  | checkFilters l => exact request_marked h l _ actCheckFilters_marks
  | filterOpen l => exact request_marked h l _ actFilterOpen_marks
  | filterClose l => exact request_marked h l _ actFilterClose_marks
  | filterChanged l => exact request_marked h l _ actFilterChanged_marks
  | getNotices l => exact request_marked h l _ fun s _ _ hs => (s.marksOk_updLnk _).mpr hs
  | readFlags l => exact request_marked h l _ (.ofRead fun _ _ _ => rfl)
  | clearFlags l => exact request_marked h l _ actClearFlags_marks
  | readCapture l => exact request_marked h l _ (.ofRead fun _ _ _ => rfl)
  | releaseCapture l =>
    exact request_marked h l _ fun s o _ hs => hs.requireOrigin .system o ((s.marksOk_updSup _).mpr hs)
  | setWatch l => exact request_marked h l _ actSetWatch_marks
  | claimManual l => exact request_marked h l _ (actClaimManual_marks l)
  | releaseManual l => exact request_marked h l _ (actReleaseManual_marks l)
  | manualOutputs l => exact request_marked h l _ (actManualOutputs_marks l)
  | getSetting l => exact request_marked h l _ (.ofRead actGetSetting_state)
  | setSetting l => exact request_marked h l _ actSetSetting_marks
  | storeSettings l => exact request_marked h l _ actStoreSettings_marks
  | standby l => exact request_marked h l _ actStandby_marks
  | wake l => exact request_marked h l _ actWake_marks
  | restart l =>
    exact request_marked h l _ fun s o _ hs => hs.requireOrigin .system o ((s.marksOk_updLnk _).mpr hs)
  | frameArrived l b stopOk => exact execFrameArrived_marked h l b stopOk
  | frameError l b stopOk => exact execFrameError_marked h l b stopOk
  | frameTimeout l => exact execFrameTimeout_marked h l
  | linkBreak l => exact execLinkBreak_marked h l
  | replyTransmitted l => exact execReplyTransmitted_marked h l
  | uptimeTick r => exact execUptimeTick_marked h r
  | demandExpiry => exact execDemandExpiry_marked h
  | spinupEnd p => exact execSpinupEnd_marked h p
  | stallDetected p => exact execStallDetected_marked h p
  | retryEnd p => exact execRetryEnd_marked h p
  | goodTimeComplete p => exact execGoodTimeComplete_marked h p
  | shortfallReported p => exact execShortfallReported_marked h p
  | holdExpired i => exact execHoldExpired_marked h i
  | frostEvaluation => exact execFrostEvaluation_marked h
  | runOnEnd => exact execRunOnEnd_marked h
  | heaterWindowEnd => exact execHeaterWindowEnd_marked h
  | heaterOnTimeEnd => exact execHeaterOnTimeEnd_marked h
  | defrostCleared => exact execDefrostCleared_marked h
  | defrostIncomplete => exact execDefrostIncomplete_marked h
  | lockoutEnd => exact execLockoutEnd_marked h
  | transactionStart => exact execTransactionStart_marked h
  | probeComplete ack => exact execProbeComplete_marked h ack
  | measureComplete m => exact execMeasureComplete_marked h m
  | stretchTimeout => exact execStretchTimeout_marked h
  | recoveryEnd => exact execRecoveryEnd_marked h
  | pollRound => exact execPollRound_marked h
  | probePauseEnd n => exact execProbePauseEnd_marked h n
  | lostTimeEnd n => exact execLostTimeEnd_marked h n
  | boostLimit n => exact execBoostLimit_marked h n
  | holdoffEnd n => exact execHoldoffEnd_marked h n
  | ringTick => exact execRingTick_marked h
  | runHour => exact execRunHour_marked h
  | settleStable => exact execSettleStable_marked h
  | settleTimeout => exact execSettleTimeout_marked h
  | checkWaitingExpired => exact execCheckWaitingExpired_marked h
  | evaluate => exact execEvaluate_marked h
  | serviceTimerEnd => exact execServiceTimerEnd_marked h
  | filterWriteComplete ok => exact execFilterWriteComplete_marked h ok
  | storeComplete ok => exact execStoreComplete_marked h ok
  | zeroingComplete => exact execZeroingComplete_marked h
  | rawContactChange line c => exact execRawContactChange_marked h line c
  | inputDebounced n => exact execInputDebounced_marked h n
  | cutoutDebounced => exact execCutoutDebounced_marked h
  | byteReceived l b stopOk => exact execByteReceived_marked h l b stopOk
  | lineReturnsToMark l => exact answersMarked_next.mpr ((s.marksOk_updLink l _).mpr h)

end Rows

/-- Settles O59: on an empty queue the step answers the state itself, and every command keeps the marks. -/
theorem dioMarksKept : Obligations.DioMarksKept := by
  unfold Obligations.DioMarksKept
  intro s t h ht
  unfold step at ht
  split at ht
  · cases ht
    exact h
  · next c rest _ =>
      have hrest : State.marksOk { s with pending := rest } := h
      exact exec_marked hrest c t ht

end Sys2Proof.Machine
end

section
/-! The notice queues (R179): what an offer makes of a queue, what a raised notice makes of the state, and what any number of
offers keeps. -/

namespace Sys2Proof.Machine

/-! ### One offer -/

/-- What two entries of a queue may not share (R179). -/
def Notice.key (n : Notice) : NoticeKind × Nat := (n.kind, n.subject)

/-- The kinds and subjects in a queue, oldest first. -/
def NoticeQueue.keys (q : NoticeQueue) : List (NoticeKind × Nat) := q.entries.map Notice.key

theorem NoticeQueue.ok_iff {q : NoticeQueue} {cap : Nat} : q.ok cap ↔ q.keys.length ≤ cap ∧ q.keys.Nodup := by
  rw [NoticeQueue.keys, List.length_map]
  rfl

theorem Notice.same_iff {a b : Notice} : a.same b = true ↔ a.key = b.key := by
  simp [Notice.same, Notice.key]

@[simp] theorem Notice.key_merge (a b : Notice) : (a.merge b).key = a.key := rfl

theorem NoticeQueue.any_same_iff {q : NoticeQueue} {n : Notice} : q.entries.any (·.same n) = true ↔ n.key ∈ q.keys := by
  simp [NoticeQueue.keys, Notice.same_iff]

/-- A notice of a kind and subject in the queue is merged into the entries of that kind and subject. -/
theorem NoticeQueue.offer_of_mem {q : NoticeQueue} {n : Notice} (h : n.key ∈ q.keys) (cap : Nat) :
    q.offer cap n = ({ q with entries := q.entries.map fun e => if e.same n then e.merge n else e }, false) :=
  if_pos (NoticeQueue.any_same_iff.mpr h)

theorem NoticeQueue.offer_of_room {q : NoticeQueue} {n : Notice} {cap : Nat} (h : n.key ∉ q.keys)
    (room : q.entries.length < cap) : q.offer cap n = ({ q with entries := q.entries ++ [n] }, false) :=
  (if_neg (mt NoticeQueue.any_same_iff.mp h)).trans (if_pos room)

theorem NoticeQueue.offer_of_full {q : NoticeQueue} {n : Notice} {cap : Nat} (h : n.key ∉ q.keys)
    (full : cap ≤ q.entries.length) : q.offer cap n = ({ q with lost := bump q.lost 255 }, true) :=
  (if_neg (mt NoticeQueue.any_same_iff.mp h)).trans (if_neg full.not_gt)

/-- Entries of other kinds and subjects stand as they are when a notice is merged. -/
theorem map_merge_eq_self {l : List Notice} {n : Notice} (h : n.key ∉ l.map Notice.key) :
    (l.map fun e => if e.same n then e.merge n else e) = l := by
  refine (List.map_congr_left fun e he => if_neg fun hs => ?_).trans l.map_id
  exact h (Notice.same_iff.mp hs ▸ List.mem_map_of_mem he)

/-- In a queue without two entries alike, a merge concerns the one entry. -/
theorem NoticeQueue.offer_merges {q : NoticeQueue} {cap : Nat} {e n : Notice} {before after : List Notice} (hq : q.ok cap)
    (he : q.entries = before ++ e :: after) (hn : e.key = n.key) :
    q.offer cap n = (⟨before ++ e.merge n :: after, q.lost⟩, false) := by
  have distinct := (NoticeQueue.ok_iff.mp hq).2
  have here : n.key ∈ q.keys := by simp [NoticeQueue.keys, he, hn]
  rw [NoticeQueue.keys, he, List.map_append, List.map_cons, hn, List.nodup_middle, List.nodup_cons, List.mem_append,
    not_or] at distinct
  obtain ⟨⟨notBefore, notAfter⟩, -⟩ := distinct
  rw [NoticeQueue.offer_of_mem here, he, List.map_append, List.map_cons, map_merge_eq_self notBefore,
    map_merge_eq_self notAfter, if_pos (Notice.same_iff.mpr hn)]

/-- An offer keeps the kinds and subjects of a queue, or puts its own at the tail where it is new and there is room. -/
theorem NoticeQueue.offer_keys (q : NoticeQueue) (cap : Nat) (n : Notice) :
    (q.offer cap n).1.keys = q.keys
      ∨ n.key ∉ q.keys ∧ q.keys.length < cap ∧ (q.offer cap n).1.keys = q.keys ++ [n.key] := by
  by_cases h : n.key ∈ q.keys
  · refine .inl ?_
    rw [NoticeQueue.offer_of_mem h, NoticeQueue.keys, List.map_map]
    exact List.map_congr_left fun e _ => by dsimp only [Function.comp]; split <;> rfl
  · by_cases room : q.entries.length < cap
    · refine .inr ⟨h, by simpa [NoticeQueue.keys] using room, ?_⟩
      simp [NoticeQueue.offer_of_room h room, NoticeQueue.keys]
    · exact .inl (by rw [NoticeQueue.offer_of_full h (not_lt.mp room)]; rfl)

theorem NoticeQueue.ok.offer {q : NoticeQueue} {cap : Nat} (h : q.ok cap) (n : Notice) : (q.offer cap n).1.ok cap := by
  rw [NoticeQueue.ok_iff] at h ⊢
  rcases q.offer_keys cap n with same | ⟨new, room, grown⟩
  · rwa [same]
  · rw [grown, List.length_append]
    exact ⟨room, h.2.append (List.nodup_singleton _) (by simpa using new)⟩

theorem NoticeQueue.offer_places (q : NoticeQueue) (cap : Nat) (n : Notice) : q.keys <+: (q.offer cap n).1.keys := by
  rcases q.offer_keys cap n with same | ⟨-, -, grown⟩
  · rw [same]
  · exact ⟨[n.key], grown.symm⟩

/-! ### A raised notice (R178) -/

/-- A queue after a notice, where its setting holds the kind, and whether it was dropped. -/
def NoticeQueue.offerIf (q : NoticeQueue) (cap : Nat) (takes : Bool) (n : Notice) : NoticeQueue × Bool :=
  if takes then q.offer cap n else (q, false)

theorem State.offerMain_eq (s : State) (n : Notice) {r : NoticeQueue × Bool}
    (hr : r = s.lnk.mainQueue.offerIf 32 (inMask (settingVal s.osc.working 83) n.kind.code) n) :
    s.offerMain n = { s with
      lnk := { s.lnk with mainQueue := r.1 }
      sup := { s.sup with flags := if r.2 then s.sup.flags.put .noticesLost true else s.sup.flags } } := by
  subst hr
  unfold State.offerMain NoticeQueue.offerIf
  cases inMask (settingVal s.osc.working 83) n.kind.code with
  | false => rfl
  | true =>
    unfold Config.mainCapacity
    obtain ⟨r, dropped⟩ := s.lnk.mainQueue.offer 32 n
    cases dropped <;> rfl

theorem State.offerService_eq (s : State) (n : Notice) {r : NoticeQueue × Bool}
    (hr : r = s.lnk.serviceQueue.offerIf 8 (inMask (settingVal s.osc.working 84) n.kind.code) n) :
    s.offerService n = { s with
      lnk := { s.lnk with serviceQueue := r.1 }
      sup := { s.sup with flags := if r.2 then s.sup.flags.put .noticesLost true else s.sup.flags } } := by
  subst hr
  unfold State.offerService NoticeQueue.offerIf
  cases inMask (settingVal s.osc.working 84) n.kind.code with
  | false => rfl
  | true =>
    unfold Config.serviceCapacity
    obtain ⟨r, dropped⟩ := s.lnk.serviceQueue.offer 8 n
    cases dropped <;> rfl

/-- A raised notice is offered to both queues; either that drops it sets NOTICES_LOST. -/
theorem State.raise_eq (s : State) (k : NoticeKind) (x : Nat) (v : Int) {n : Notice} {main service : NoticeQueue × Bool}
    (hn : n = { kind := k, subject := x, value := v, uptime := s.osc.uptime, repeats := 1 })
    (hm : main = s.lnk.mainQueue.offerIf 32 (inMask (settingVal s.osc.working 83) k.code) n)
    (hs : service = s.lnk.serviceQueue.offerIf 8 (inMask (settingVal s.osc.working 84) k.code) n) :
    s.raise k x v = { s with
      lnk := { s.lnk with mainQueue := main.1, serviceQueue := service.1 }
      sup := { s.sup with flags := if main.2 || service.2 then s.sup.flags.put .noticesLost true else s.sup.flags } } := by
  have raised : s.raise k x v = (s.offerMain n).offerService n := by rw [hn]; rfl
  have code : n.kind.code = k.code := by rw [hn]
  rw [← code] at hm hs
  have main_eq := State.offerMain_eq s n hm
  have service_eq := State.offerService_eq (s.offerMain n) n (r := service) (by rw [main_eq]; exact hs)
  rw [raised, service_eq, main_eq]
  cases main.2 <;> cases service.2 <;> rfl

/-! ### Any number of offers -/

/-- `r` is `q` after some offers. -/
def NoticeQueue.Fills (cap : Nat) : NoticeQueue → NoticeQueue → Prop :=
  Relation.ReflTransGen fun q r => ∃ n, r = (q.offer cap n).1

theorem NoticeQueue.Fills.ok {cap : Nat} {q r : NoticeQueue} (h : q.Fills cap r) (hq : q.ok cap) : r.ok cap := by
  induction h with
  | refl => exact hq
  | tail _ offer ih =>
    obtain ⟨n, rfl⟩ := offer
    exact ih.offer n

theorem NoticeQueue.Fills.places {cap : Nat} {q r : NoticeQueue} (h : q.Fills cap r) : q.keys <+: r.keys := by
  induction h with
  | refl => exact ⟨[], List.append_nil _⟩
  | tail _ offer ih =>
    obtain ⟨n, rfl⟩ := offer
    exact ih.trans (NoticeQueue.offer_places _ cap n)

theorem NoticeQueue.Fills.offerIf {cap : Nat} {q r : NoticeQueue} (h : q.Fills cap r) (takes : Bool) (n : Notice) :
    q.Fills cap (r.offerIf cap takes n).1 := by
  cases takes
  · exact h
  · exact h.tail ⟨n, rfl⟩

/-- The queues of `m` are those of `k` after some notices have been raised. -/
structure Lnk.Raises (k m : Lnk) : Prop where
  main : k.mainQueue.Fills 32 m.mainQueue
  service : k.serviceQueue.Fills 8 m.serviceQueue

theorem Lnk.Raises.refl (k : Lnk) : k.Raises k := ⟨.refl, .refl⟩

theorem Lnk.Raises.raise {k : Lnk} {s : State} {n : NoticeKind} {x : Nat} {v : Int}
    (h : k.Raises s.lnk) :
    k.Raises (s.raise n x v).lnk := by
  rw [State.raise_eq s n x v rfl rfl rfl]
  exact ⟨h.main.offerIf _ _, h.service.offerIf _ _⟩

/-- The capacities, and no two entries alike, in both queues. -/
def Lnk.QueuesOk (k : Lnk) : Prop := k.mainQueue.ok 32 ∧ k.serviceQueue.ok 8

theorem State.queuesOk_iff {s : State} : s.queuesOk ↔ s.lnk.QueuesOk := .rfl

theorem Lnk.Raises.queuesOk {k m : Lnk} (h : k.Raises m) (hk : k.QueuesOk) : m.QueuesOk :=
  ⟨h.main.ok hk.1, h.service.ok hk.2⟩

theorem Lnk.Raises.places {k m : Lnk} (h : k.Raises m) (l : Link) : (k.queue l).keys <+: (m.queue l).keys := by
  cases l
  · exact h.main.places
  · exact h.service.places

end Sys2Proof.Machine
end

section
/-! What the shared operations do to the notice queues: they raise notices and leave the queues alone otherwise. An update of
another block leaves LNK as it is, so there the hypothesis itself stands for the updated state. -/

namespace Sys2Proof.Machine

variable {k : Lnk} {s : State}

/-! ### Notices, flags, captures, links -/

theorem Lnk.Raises.setLink {m : Lnk} {l : Link} {r : LinkRec} (h : k.Raises m) : k.Raises (m.setLink l r) := by
  cases l <;> exact ⟨h.main, h.service⟩

theorem Lnk.Raises.updLink {l : Link} {f : LinkRec → LinkRec} (h : k.Raises s.lnk) : k.Raises (s.updLink l f).lnk :=
  h.setLink

theorem Lnk.Raises.foldl {α : Type} {f : State → α → State} (hf : ∀ t a, k.Raises t.lnk → k.Raises (f t a).lnk)
    (l : List α) (h : k.Raises s.lnk) : k.Raises (l.foldl f s).lnk := by
  induction l generalizing s with
  | nil => exact h
  | cons a l ih => exact ih (hf s a h)

theorem Lnk.Raises.offerCapture {c : Capture} (h : k.Raises s.lnk) : k.Raises (s.offerCapture c).lnk := by
  unfold State.offerCapture
  dsimp only
  split
  · exact .raise h
  · exact h

theorem Lnk.Raises.setFlag {g : Flag} (h : k.Raises s.lnk) : k.Raises (s.setFlag g).lnk := h

theorem Lnk.Raises.faultEvent {g : Flag} {x : Nat} {v : Int} (h : k.Raises s.lnk) : k.Raises (s.faultEvent g x v).lnk :=
  .offerCapture h.setFlag

theorem Lnk.Raises.raiseFilterResult (h : k.Raises s.lnk) : k.Raises s.raiseFilterResult.lnk := .raise h

theorem Lnk.Raises.setDevice {d : DevState} (h : k.Raises s.lnk) : k.Raises (s.setDevice d).lnk :=
  .raise (s := s.updOsc _) h

/-! ### Reports (R16) -/

theorem Lnk.Raises.trySettle (h : k.Raises s.lnk) : k.Raises s.trySettle.lnk := by
  unfold State.trySettle
  split <;> exact h

theorem Lnk.Raises.checkPreempted (h : k.Raises s.lnk) : k.Raises s.checkPreempted.lnk := by
  unfold State.checkPreempted
  dsimp only
  split
  · split
    · exact .raiseFilterResult h
    · exact h
  · exact h

theorem Lnk.Raises.checkFreedByStandby (h : k.Raises s.lnk) : k.Raises s.checkFreedByStandby.lnk := by
  unfold State.checkFreedByStandby
  split
  · exact h
  · exact .raiseFilterResult h

theorem Lnk.Raises.defrostActive (h : k.Raises s.lnk) : k.Raises s.defrostActive.lnk := by
  unfold State.defrostActive
  split
  · exact .raise h
  all_goals exact h

theorem Lnk.Raises.defrostPreempted (h : k.Raises s.lnk) : k.Raises s.defrostPreempted.lnk := by
  unfold State.defrostPreempted
  split <;> exact h

theorem Lnk.Raises.takeReport {r : Report} (h : k.Raises s.lnk) : k.Raises (s.takeReport r).lnk := by
  unfold State.takeReport
  split
  · exact .defrostActive h
  · exact .defrostPreempted h
  · exact .trySettle h
  · exact .checkPreempted h
  · exact .checkFreedByStandby h
  all_goals exact h

/-! ### The demand table -/

theorem Lnk.Raises.applyArb {r : Arb × List Report} (h : k.Raises s.lnk) : k.Raises (s.applyArb r).lnk := by
  unfold State.applyArb
  refine .foldl (fun _ _ ht => ht.takeReport) _ ?_
  split
  · exact h
  · exact .raise h

theorem Lnk.Raises.withdraw {x : Slot} (h : k.Raises s.lnk) : k.Raises (s.withdraw x).lnk := .applyArb h

theorem Lnk.Raises.watchTest {x : Slot} {n : Nat} {p : PostArgs} {l : Option Link} (h : k.Raises s.lnk) :
    k.Raises (s.watchTest x n p l).1.lnk := by
  unfold State.watchTest
  split
  · split
    · exact h
    · exact .offerCapture h
  · exact h

theorem Lnk.Raises.postCore {x : Slot} {n : Nat} {p : PostArgs} {l : Option Link} (h : k.Raises s.lnk) :
    k.Raises (s.postCore x n p l).1.lnk := by
  have watched : k.Raises (s.watchTest x n p l).1.lnk := h.watchTest
  unfold State.postCore
  dsimp only
  split
  · split
    · exact watched
    · exact .applyArb watched
  · exact h

theorem Lnk.Raises.internalPost {x : Slot} {n : Nat} {c : Carry} {t : Option Nat} (h : k.Raises s.lnk) :
    k.Raises (s.internalPost x n c t).1.lnk := .postCore h

/-! ### Fans and preheater -/

theorem Lnk.Raises.movePath {i : PathId} {p : FanPath} (h : k.Raises s.lnk) : k.Raises (s.movePath i p).lnk := by
  unfold State.movePath
  dsimp only
  split
  · exact h
  · exact .raise h

theorem Lnk.Raises.servePath {i : PathId} (h : k.Raises s.lnk) : k.Raises (s.servePath i).lnk := .movePath h

theorem Lnk.Raises.serveFans (h : k.Raises s.lnk) : k.Raises s.serveFans.lnk := by
  have served : k.Raises ((s.servePath .extract).servePath .supply).lnk := h.servePath.servePath
  exact served

theorem Lnk.Raises.forceRequest (h : k.Raises s.lnk) : k.Raises s.forceRequest.lnk := by
  unfold State.forceRequest
  split <;> exact h

theorem Lnk.Raises.deriveDuty (h : k.Raises s.lnk) : k.Raises s.deriveDuty.lnk := by
  unfold State.deriveDuty State.applyDuty
  dsimp only
  split_ifs <;> exact h

/-! ### What waits for the run-on -/

theorem Lnk.Raises.enterStandby (h : k.Raises s.lnk) : k.Raises s.enterStandby.lnk := .applyArb h.setDevice

theorem Lnk.Raises.enterFilterService (h : k.Raises s.lnk) : k.Raises s.enterFilterService.lnk := h.setDevice

theorem Lnk.Raises.postDefrost (h : k.Raises s.lnk) : k.Raises s.postDefrost.lnk := .internalPost h

theorem Lnk.Raises.tryDefrostPost (h : k.Raises s.lnk) : k.Raises s.tryDefrostPost.lnk := by
  unfold State.tryDefrostPost
  split
  · exact .postDefrost h
  · exact h

theorem Lnk.Raises.postDefrostBeforeStandby (h : k.Raises s.lnk) : k.Raises s.postDefrostBeforeStandby.lnk :=
  .applyArb (h.watchTest)

theorem Lnk.Raises.defrostTimerEnd (h : k.Raises s.lnk) : k.Raises s.defrostTimerEnd.lnk := by
  unfold State.defrostTimerEnd
  split
  · exact .postDefrostBeforeStandby h
  · exact .tryDefrostPost h

theorem Lnk.Raises.runOnEnded (h : k.Raises s.lnk) : k.Raises s.runOnEnded.lnk := by
  have timed := h.defrostTimerEnd
  unfold State.runOnEnded
  dsimp only
  split
  · exact .enterStandby timed
  · exact .enterFilterService timed
  all_goals exact timed

theorem Lnk.Raises.cutRunOn (h : k.Raises s.lnk) : k.Raises s.cutRunOn.lnk := by
  unfold State.cutRunOn
  split
  · exact h
  · dsimp only
    split
    · exact .runOnEnded (.faultEvent h)
    · exact h

/-! ### A check start -/

theorem Lnk.Raises.startCheck {c : CheckTrigger} (h : k.Raises s.lnk) : k.Raises (s.startCheck c).1.lnk := by
  unfold State.startCheck
  dsimp only
  split
  · exact .raiseFilterResult h
  · split
    · exact .trySettle (.internalPost h)
    · exact .internalPost h

theorem Lnk.Raises.startTest (h : k.Raises s.lnk) : k.Raises s.startTest.lnk := by
  unfold State.startTest
  dsimp only
  split
  · split
    · exact .startCheck h
    · exact h
  · exact h

/-! ### Propagation -/

theorem Lnk.Raises.round (h : k.Raises s.lnk) : k.Raises s.round.lnk :=
  h.forceRequest.serveFans.deriveDuty.cutRunOn.startTest

theorem Lnk.Raises.settleBlocks (h : k.Raises s.lnk) : k.Raises s.settleBlocks.lnk := h.round.round.round.round

theorem Lnk.Raises.deriveStage (h : k.Raises s.lnk) : k.Raises s.deriveStage.lnk := by
  unfold State.deriveStage
  dsimp only
  split
  · exact h
  · exact .raise h

theorem Lnk.Raises.stagedRound (h : k.Raises s.lnk) : k.Raises s.stagedRound.lnk := h.round.deriveStage

theorem Lnk.Raises.propagate (h : k.Raises s.lnk) : k.Raises s.propagate.lnk :=
  h.deriveStage.stagedRound.stagedRound.stagedRound.stagedRound

end Sys2Proof.Machine
end

section
/-! What the blocks' operations do to the notice queues: they raise notices and leave the queues alone otherwise. -/

namespace Sys2Proof.Machine

variable {k : Lnk} {s : State}

/-! ### ARB and AFC -/

theorem Lnk.Raises.linkPost {l : Link} {o : Origin} {x : Slot} {p : LinkPost} (h : k.Raises s.lnk) :
    k.Raises (s.linkPost l o x p).1.lnk := by
  unfold State.linkPost
  extract_lets t r
  have posted : k.Raises r.1.lnk := h.postCore
  split
  · exact posted.propagate
  · exact posted

theorem Lnk.Raises.readNozzle {i : PathId} {r : Reading} (h : k.Raises s.lnk) : k.Raises (s.readNozzle i r).lnk := by
  unfold State.readNozzle
  extract_lets path zeroed reading
  split
  · exact .movePath h
  · split
    · exact .movePath h
    · exact .movePath (.faultEvent h)

theorem Lnk.Raises.sensePath {i : PathId} {r : Reading} {n : Nat} (h : k.Raises s.lnk) :
    k.Raises (s.sensePath i r n).lnk := .movePath h.readNozzle

theorem Lnk.Raises.stallPath {i : PathId} {failed : Bool} (h : k.Raises s.lnk) : k.Raises (s.stallPath i failed).lnk :=
  .propagate (.movePath h.faultEvent)

theorem Lnk.Raises.shortfallPrompt (h : k.Raises s.lnk) : k.Raises s.shortfallPrompt.lnk := by
  unfold State.shortfallPrompt
  extract_lets quiet
  split
  · exact .startCheck h
  · exact h

theorem Lnk.Raises.zeroNozzle {i : PathId} (h : k.Raises s.lnk) : k.Raises (s.zeroNozzle i).lnk := by
  unfold State.zeroNozzle
  dsimp only
  split
  · exact .faultEvent h
  · exact h

theorem Lnk.Raises.releasePath {i : PathId} (h : k.Raises s.lnk) : k.Raises (s.releasePath i).lnk := by
  unfold State.releasePath
  dsimp only
  split
  · exact .movePath h
  · exact h

/-! ### FRG -/

theorem Lnk.Raises.confirmExit (h : k.Raises s.lnk) : k.Raises s.confirmExit.lnk := by
  unfold State.confirmExit
  extract_lets warm
  split_ifs <;> exact h

theorem Lnk.Raises.afterRegime {r : Regime} (h : k.Raises s.lnk) : k.Raises (s.afterRegime r).lnk := by
  unfold State.afterRegime
  split
  · exact h
  · refine .confirmExit ?_
    split <;> exact h

theorem Lnk.Raises.readTemp {i : TempId} {r : TempReading} (h : k.Raises s.lnk) : k.Raises (s.readTemp i r).lnk := by
  unfold State.readTemp
  extract_lets before t u v w
  have faulted : k.Raises v.lnk := by
    unfold v
    split
    · exact .faultEvent h
    · exact h
  have derived : k.Raises w.lnk := faulted.afterRegime
  split
  · exact derived.confirmExit
  · exact derived

theorem Lnk.Raises.invalidate {i : TempId} (h : k.Raises s.lnk) : k.Raises (s.invalidate i).lnk := .afterRegime h

theorem Lnk.Raises.confirmEntry (h : k.Raises s.lnk) : k.Raises s.confirmEntry.lnk := by
  unfold State.confirmEntry
  extract_lets warm
  split <;> exact h

theorem Lnk.Raises.defrostTrigger (h : k.Raises s.lnk) : k.Raises s.defrostTrigger.lnk := by
  unfold State.defrostTrigger
  split
  · exact .tryDefrostPost (.settleBlocks h)
  · exact h

theorem Lnk.Raises.setImbalance {n : Nat} (h : k.Raises s.lnk) : k.Raises (s.setImbalance n).lnk := by
  unfold State.setImbalance
  dsimp only
  split
  · exact h
  · split
    · unfold State.checkCapped
      split <;> exact h
    · exact .trySettle h

theorem Lnk.Raises.evaluateImbalance (h : k.Raises s.lnk) : k.Raises s.evaluateImbalance.lnk := by
  unfold State.evaluateImbalance
  split
  case h_1 | h_2 | h_3 => exact .setImbalance h
  all_goals exact h

theorem Lnk.Raises.evaluateMargin (h : k.Raises s.lnk) : k.Raises s.evaluateMargin.lnk := by
  rwa [State.evaluateMargin_frame]

theorem Lnk.Raises.evaluateLoad (h : k.Raises s.lnk) : k.Raises s.evaluateLoad.lnk := by
  have loaded : k.Raises s.loaded.lnk := h
  exact loaded.defrostTrigger.confirmEntry

theorem Lnk.Raises.evaluateRequest (h : k.Raises s.lnk) : k.Raises s.evaluateRequest.lnk := .settleBlocks h

theorem Lnk.Raises.evaluateFrost (h : k.Raises s.lnk) : k.Raises s.evaluateFrost.lnk :=
  h.evaluateMargin.evaluateLoad.evaluateRequest.evaluateImbalance.deriveStage.propagate

theorem Lnk.Raises.defrostSecond (h : k.Raises s.lnk) : k.Raises s.defrostSecond.lnk := by
  unfold State.defrostSecond
  extract_lets d
  split
  case h_1 | h_2 =>
    split
    · exact h
    · split
      · exact h
      · split
        · exact h
        · exact .confirmEntry h
  all_goals exact h

theorem Lnk.Raises.endDefrost {e : DefrostEnd} {n : Nat} (h : k.Raises s.lnk) : k.Raises (s.endDefrost e n).lnk :=
  .propagate (.raise h.withdraw)

theorem Lnk.Raises.startLoad (h : k.Raises s.lnk) : k.Raises s.startLoad.lnk := by
  unfold State.startLoad
  split <;> exact h

theorem Lnk.Raises.reportCutout {c : Contact} (h : k.Raises s.lnk) : k.Raises (s.reportCutout c).lnk := by
  cases c with
  | opened => exact .faultEvent (.propagate h)
  | closed => exact .propagate h

theorem Lnk.Raises.repostDefrost {found : DefrostPhase} (h : k.Raises s.lnk) : k.Raises (s.repostDefrost found).lnk := by
  unfold State.repostDefrost
  split
  · refine .postDefrost ?_
    split <;> exact h
  · exact h

/-! ### HUM -/

theorem Lnk.Raises.deriveHumidity (h : k.Raises s.lnk) : k.Raises s.deriveHumidity.lnk := by
  unfold State.deriveHumidity
  dsimp only
  split_ifs <;> exact h

theorem Lnk.Raises.tryHumidity (h : k.Raises s.lnk) : k.Raises s.tryHumidity.lnk := by
  unfold State.tryHumidity
  dsimp only
  split
  · split <;> exact h.internalPost
  · exact h

theorem Lnk.Raises.tryDryness (h : k.Raises s.lnk) : k.Raises s.tryDryness.lnk := by
  unfold State.tryDryness
  dsimp only
  split
  · split <;> exact h.internalPost
  · exact h

theorem Lnk.Raises.endHumidity (h : k.Raises s.lnk) : k.Raises s.endHumidity.lnk := by
  unfold State.endHumidity
  split
  · exact .withdraw h
  · exact h

theorem Lnk.Raises.endDryness (h : k.Raises s.lnk) : k.Raises s.endDryness.lnk := by
  unfold State.endDryness
  split
  · exact .withdraw h
  · exact h

theorem Lnk.Raises.startBoost {n : Nat} {t : BoostTrigger} {pre : Nat} (h : k.Raises s.lnk) :
    k.Raises (s.startBoost n t pre).lnk := by
  unfold State.startBoost
  dsimp only
  split
  · exact .raise h
  · exact .tryHumidity (.raise h)

theorem Lnk.Raises.endBoost {n : Nat} {f : Boost → Boost} (h : k.Raises s.lnk) : k.Raises (s.endBoost n f).lnk :=
  .endHumidity (.raise h)

theorem Lnk.Raises.freshReading {n rh : Nat} (h : k.Raises s.lnk) : k.Raises (s.freshReading n rh).lnk := by
  unfold State.freshReading
  split
  · refine .deriveHumidity ?_
    split
    · split
      · split
        · split
          · exact .startBoost h
          · exact h
        · split
          · exact .endBoost h
          · exact h
        · exact h
      · exact h
    · exact h
  · exact h

theorem Lnk.Raises.entryLost {n : Nat} (h : k.Raises s.lnk) : k.Raises (s.entryLost n).lnk := by
  unfold State.entryLost
  dsimp only
  split
  · split
    · exact .endBoost h
    · exact h
    · exact h
  · exact h

theorem Lnk.Raises.setSensor {n : Nat} {st : SensorState} {f : Sensor → Sensor} (h : k.Raises s.lnk) :
    k.Raises (s.setSensor n st f).lnk := .raise (s := s.updSensor _ _) h

theorem Lnk.Raises.enterProbing {n : Nat} (h : k.Raises s.lnk) : k.Raises (s.enterProbing n).lnk :=
  .deriveHumidity h.setSensor

theorem Lnk.Raises.loseSensor {n o : Nat} (h : k.Raises s.lnk) : k.Raises (s.loseSensor n o).lnk := by
  unfold State.loseSensor
  refine .propagate (.deriveHumidity ?_)
  split
  · exact .entryLost (.faultEvent (.setSensor h))
  · exact .faultEvent (.setSensor h)

theorem Lnk.Raises.probed {n : Nat} {o : BusOutcome} (h : k.Raises s.lnk) : k.Raises (s.probed n o).lnk := by
  unfold State.probed
  dsimp only
  split
  · split
    · split
      · exact .deriveHumidity (.setSensor h)
      · split
        · exact .deriveHumidity (.setSensor h)
        · exact h
    · exact h
  · exact h

theorem Lnk.Raises.measured {n : Nat} {o : BusOutcome} {m : Option Measured} (h : k.Raises s.lnk) :
    k.Raises (s.measured n o m).lnk := by
  unfold State.measured
  dsimp only
  split
  · split
    · split
      · split
        · exact .propagate (.freshReading h)
        · exact h
      · split
        · exact .loseSensor h
        · exact h
    · exact h
  · exact h

theorem Lnk.Raises.completeHead {n : Nat} {o : BusOutcome} {sent : List BusItem} (h : k.Raises s.lnk) :
    k.Raises (s.completeHead n o sent).lnk := by
  unfold State.completeHead
  extract_lets timeouts t
  split
  · exact .faultEvent (s := t) h
  · exact h

theorem Lnk.Raises.stretched {n : Nat} (h : k.Raises s.lnk) : k.Raises (s.stretched n).lnk := by
  have completed : k.Raises (s.completeHead n .stretchTimeout (s.hum.bus.stretchSent s.freeCount)).lnk := h.completeHead
  exact completed

theorem Lnk.Raises.pollRound (h : k.Raises s.lnk) : k.Raises s.pollRound.lnk := 
  .foldl (f := fun s n => s.offerBus n .measure) (fun _ _ ht => ht) _ h

/-! ### FLT -/

theorem Lnk.Raises.persist (h : k.Raises s.lnk) : k.Raises s.persist.lnk := h

theorem Lnk.Raises.dueStartTest (h : k.Raises s.lnk) : k.Raises s.dueStartTest.lnk := h

theorem Lnk.Raises.dueCheck (h : k.Raises s.lnk) : k.Raises s.dueCheck.lnk := h

theorem Lnk.Raises.deriveFilter {i : PathId} (h : k.Raises s.lnk) : k.Raises (s.deriveFilter i).lnk := by
  unfold State.deriveFilter State.flagDue
  dsimp only
  split
  · exact h
  · split <;> exact .raise (s := s.updFlt _) h

theorem Lnk.Raises.deriveFilters (h : k.Raises s.lnk) : k.Raises s.deriveFilters.lnk := h.deriveFilter.deriveFilter

theorem Lnk.Raises.abandonCheck {o : CheckOutcome} (h : k.Raises s.lnk) : k.Raises (s.abandonCheck o).lnk := by
  unfold State.abandonCheck
  split
  · exact h
  · exact .raiseFilterResult (.withdraw h)

theorem Lnk.Raises.completeCheck (h : k.Raises s.lnk) : k.Raises s.completeCheck.lnk := by
  unfold State.completeCheck
  extract_lets a b c
  have derived : k.Raises b.lnk := .deriveFilters h
  clear_value b
  exact .raiseFilterResult (.persist (.withdraw derived))

theorem Lnk.Raises.runHour (h : k.Raises s.lnk) : k.Raises s.runHour.lnk := by
  unfold State.runHour
  extract_lets a b c d
  have due : k.Raises b.lnk := by
    unfold b
    split <;> exact h
  have derived : k.Raises d.lnk := due.startTest.deriveFilters
  refine .propagate ?_
  split <;> exact derived

theorem Lnk.Raises.accumulate (h : k.Raises s.lnk) : k.Raises s.accumulate.lnk := by
  unfold State.accumulate
  split <;> exact h

theorem Lnk.Raises.readFilter {i : PathId} {r : Reading} (h : k.Raises s.lnk) : k.Raises (s.readFilter i r).lnk := by
  unfold State.readFilter
  extract_lets filter zeroed reading faulted abandoned
  split
  · split
    · exact .startTest (.dueCheck (.deriveFilter h))
    · exact h
  · split
    · exact h
    · exact .deriveFilter (s := State.updCheck _ _) (.abandonCheck (.faultEvent h))

theorem Lnk.Raises.zeroFilter {i : PathId} (h : k.Raises s.lnk) : k.Raises (s.zeroFilter i).lnk := by
  unfold State.zeroFilter
  dsimp only
  split
  · exact .faultEvent h
  · exact h

theorem Lnk.Raises.returnToRunning (h : k.Raises s.lnk) : k.Raises s.returnToRunning.lnk := by
  have running : k.Raises (s.setDevice .running).lnk := h.setDevice
  unfold State.returnToRunning
  extract_lets t
  have entered : k.Raises t.lnk := running
  exact entered.propagate.tryHumidity.propagate.tryDryness.propagate.dueStartTest.propagate

theorem Lnk.Raises.enterDoorOpen (h : k.Raises s.lnk) : k.Raises s.enterDoorOpen.lnk :=
  h.abandonCheck.setDevice.propagate.faultEvent.propagate

theorem Lnk.Raises.doorReport {c : Contact} (h : k.Raises s.lnk) : k.Raises (s.doorReport c).lnk := by
  have reported (f : Flt → Flt) : k.Raises ((s.updFlt f).raise .door 0 (doorCode c)).lnk := .raise h
  unfold State.doorReport
  dsimp only
  split
  · exact (reported _).enterDoorOpen
  · exact (reported _).returnToRunning
  · exact (reported _).enterFilterService.propagate
  · split
    · exact (reported _).returnToRunning
    · exact reported _
  · exact reported _

theorem Lnk.Raises.doorTest (h : k.Raises s.lnk) : k.Raises s.doorTest.lnk := by
  unfold State.doorTest
  split
  · exact h.enterDoorOpen
  · exact h

theorem Lnk.Raises.filterOpen (h : k.Raises s.lnk) : k.Raises s.filterOpen.lnk := by
  unfold State.filterOpen
  refine .propagate ?_
  split
  · exact h.abandonCheck.enterFilterService
  · exact h.abandonCheck.setDevice

theorem Lnk.Raises.filtersChanged {l : List PathId} (h : k.Raises s.lnk) : k.Raises (s.filtersChanged l).lnk := by
  have changed : k.Raises (l.foldl State.changeFilter s).lnk := 
    .foldl (f := State.changeFilter) (fun _ _ ht => ht) _ h
  have derived : k.Raises (l.foldl State.deriveFilter (l.foldl State.changeFilter s)).lnk :=
    .foldl (fun _ _ ht => ht.deriveFilter) _ changed
  exact derived.dueCheck.persist.propagate

/-! ### SUP -/

theorem Lnk.Raises.releaseFor {was : FlagSet} {named : List Flag} {i : PathId} (h : k.Raises s.lnk) :
    k.Raises (s.releaseFor was named i).lnk := by
  unfold State.releaseFor
  split
  · exact h.releasePath
  · exact h

theorem Lnk.Raises.clearFlags {named : List Flag} (h : k.Raises s.lnk) : k.Raises (s.clearFlags named).lnk :=
  Lnk.Raises.releaseFor (.releaseFor (s := s.updSup _) h)

theorem Lnk.Raises.releaseOwner (h : k.Raises s.lnk) : k.Raises s.releaseOwner.lnk := .propagate (.withdraw h)

theorem Lnk.Raises.postManual {l : Link} {m : ManualOutputs} (h : k.Raises s.lnk) :
    k.Raises (s.postManual l m).1.lnk := by
  unfold State.postManual
  extract_lets r
  have posted : k.Raises r.1.lnk := h.postCore
  split
  · exact posted.propagate
  · exact posted

/-! ### DIO -/

theorem Lnk.Raises.postInput {i : BoostInput} {t : Option Nat} (h : k.Raises s.lnk) :
    k.Raises (s.postInput i t).1.lnk := by
  unfold State.postInput
  dsimp only
  split <;> exact h.internalPost

theorem Lnk.Raises.postFire (h : k.Raises s.lnk) : k.Raises s.postFire.lnk := by
  unfold State.postFire
  dsimp only
  split <;> exact h.internalPost

theorem Lnk.Raises.inputAsserted {i : BoostInput} (h : k.Raises s.lnk) : k.Raises (s.inputAsserted i).lnk := by
  unfold State.inputAsserted
  split
  · exact h.postInput.propagate
  · exact h

theorem Lnk.Raises.inputDeasserted {i : BoostInput} (h : k.Raises s.lnk) : k.Raises (s.inputDeasserted i).lnk := by
  unfold State.inputDeasserted
  split
  · dsimp only
    split
    · exact h.postInput.propagate
    · exact .propagate (.withdraw (s := State.updDio _ _) h.postInput)
  · exact h

theorem Lnk.Raises.functionChanged {f : InputFunction} {on : Bool} (h : k.Raises s.lnk) :
    k.Raises (s.functionChanged f on).lnk := by
  unfold State.functionChanged
  split
  · exact h.inputAsserted
  · exact h.inputDeasserted
  · exact h.inputAsserted
  · exact h.inputDeasserted
  · exact .propagate (.postFire h)
  · exact .propagate (.withdraw h)
  · exact h.doorReport
  · exact h.doorReport
  · exact h

theorem Lnk.Raises.functionEstablished {f : InputFunction} (h : k.Raises s.lnk) :
    k.Raises (s.functionEstablished f).lnk := by
  cases f with
  | filterDoor => exact h.doorReport
  | _ => exact h

theorem Lnk.Raises.debounced {n : Nat} {ch : Channel} (h : k.Raises s.lnk) : k.Raises (s.debounced n ch).lnk := by
  unfold State.debounced
  dsimp only
  split
  · exact h
  · split
    · exact .functionEstablished h
    · exact .functionChanged h

theorem Lnk.Raises.entryInput {i : BoostInput} (h : k.Raises s.lnk) : k.Raises (s.entryInput i).lnk := by
  unfold State.entryInput
  split
  · exact h.postInput.propagate
  · exact h

theorem Lnk.Raises.entryFire (h : k.Raises s.lnk) : k.Raises s.entryFire.lnk := by
  unfold State.entryFire
  split
  · exact h.postFire.propagate
  · exact h

theorem Lnk.Raises.inputPosts (h : k.Raises s.lnk) : k.Raises s.inputPosts.lnk :=
  s.inputPosts_eq ▸ h.entryInput.entryInput.entryFire

end Sys2Proof.Machine
end

section
/-! What every command does to the notice queues (R179): it raises notices into the queues as they were, into those that a
GET_NOTICES has fetched from, or into the empty queues of a reset. -/

namespace Sys2Proof.Machine

variable {k : Lnk} {s : State}

/-! ### A reset -/

theorem Lnk.Raises.loadChannel {n : Nat} (h : k.Raises s.lnk) : k.Raises (s.loadChannel n).lnk := h

theorem Lnk.Raises.loadTable (h : k.Raises s.lnk) : k.Raises s.loadTable.lnk := by
  unfold State.loadTable
  dsimp only
  split <;> exact h

theorem Lnk.Raises.loadSensor {n : Nat} (h : k.Raises s.lnk) : k.Raises (s.loadSensor n).lnk := by
  unfold State.loadSensor
  dsimp only
  split
  · exact h
  · exact .setSensor h

theorem Lnk.Raises.deriveLoaded {i : PathId} (h : k.Raises s.lnk) : k.Raises (s.deriveLoaded i).lnk := by
  unfold State.deriveLoaded
  dsimp only
  split <;> exact h

theorem Lnk.Raises.loadFilters (h : k.Raises s.lnk) : k.Raises s.loadFilters.lnk := by
  unfold State.loadFilters
  refine .deriveLoaded (.deriveLoaded ?_)
  split <;> exact h

/-- A reset empties both queues; the probing that it starts raises notices. -/
theorem State.powerUp_raises (s : State) : Lnk.reset.Raises s.powerUp.lnk := by
  have cold : Lnk.reset.Raises s.coldStart.lnk := ⟨.refl, .refl⟩
  have channels : Lnk.reset.Raises ([1, 2, 3, 4].foldl State.loadChannel s.coldStart.loadTable).lnk :=
    .foldl (fun _ _ h => h.loadChannel) _ cold.loadTable
  have sensors := Lnk.Raises.foldl (f := State.loadSensor) (fun _ _ h => h.loadSensor) sensorIndexes channels
  exact sensors.loadFilters

/-! ### The device's states -/

theorem Lnk.Raises.finishEntry {found : DefrostPhase} (h : k.Raises s.lnk) : k.Raises (s.finishEntry found).lnk :=
  h.inputPosts.tryHumidity.propagate.tryDryness.propagate.repostDefrost.dueStartTest.propagate.doorTest.propagate

theorem Lnk.Raises.entryEvaluation (h : k.Raises s.lnk) : k.Raises s.entryEvaluation.lnk := .evaluateFrost h

theorem Lnk.Raises.zeroAll (h : k.Raises s.lnk) : k.Raises s.zeroAll.lnk :=
  h.zeroNozzle.zeroNozzle.zeroFilter.zeroFilter

theorem Lnk.Raises.activateHumidity (h : k.Raises s.lnk) : k.Raises s.activateHumidity.lnk := .deriveHumidity h

theorem Lnk.Raises.enterFromStarting (h : k.Raises s.lnk) : k.Raises s.enterFromStarting.lnk := by
  have running : k.Raises (s.setDevice .running).lnk := h.setDevice
  unfold State.enterFromStarting
  extract_lets a b c d
  have selected : k.Raises b.lnk := .propagate running.applyArb
  have evaluated : k.Raises c.lnk := selected.startLoad.activateHumidity.entryEvaluation
  clear_value c
  exact .finishEntry (.pollRound evaluated)

theorem Lnk.Raises.enterFromWaking (h : k.Raises s.lnk) : k.Raises s.enterFromWaking.lnk := by
  have running : k.Raises (s.setDevice .running).lnk := h.setDevice
  exact running.applyArb.propagate.entryEvaluation.finishEntry

theorem Lnk.Raises.acceptStandby (h : k.Raises s.lnk) : k.Raises s.acceptStandby.lnk := by
  unfold State.acceptStandby
  extract_lets straight a b c
  have cleared : k.Raises b.lnk := .applyArb (s := a) h
  exact .propagate (.setDevice (s := c) cleared)

theorem Lnk.Raises.startWaking (h : k.Raises s.lnk) : k.Raises s.startWaking.lnk := by
  have waking : k.Raises (s.setDevice .waking).lnk := h.setDevice
  unfold State.startWaking
  extract_lets a b
  exact .propagate (s := b.updFlt _) waking

theorem Lnk.Raises.wakeFromStopping (h : k.Raises s.lnk) : k.Raises s.wakeFromStopping.lnk := .finishEntry h.setDevice

theorem Lnk.Raises.settingChanged {id : Nat} (h : k.Raises s.lnk) : k.Raises (s.settingChanged id).lnk := by
  unfold State.settingChanged
  extract_lets a b
  have limited : k.Raises a.lnk := by
    unfold a
    split
    · exact h.setImbalance
    · exact h
  have derived : k.Raises b.lnk := by
    unfold b
    split
    · exact limited.deriveFilters
    · exact limited
  exact derived.propagate

theorem Lnk.Raises.takeSetting {id : Nat} {table : List Int} (h : k.Raises s.lnk) :
    k.Raises (s.takeSetting id table).lnk := by
  unfold State.takeSetting
  split
  · exact h
  · exact .settingChanged h

theorem Lnk.Raises.countSecond (h : k.Raises s.lnk) : k.Raises s.countSecond.lnk := by
  unfold State.countSecond
  extract_lets a b c
  have counted : k.Raises c.lnk := by
    unfold c
    split <;> exact h
  exact counted

theorem Lnk.Raises.airSecond {r : SecondReadings} (h : k.Raises s.lnk) : k.Raises (s.airSecond r).lnk :=
  .propagate (.movePath (.movePath h.sensePath.sensePath))

theorem Lnk.Raises.readSecond {r : SecondReadings} (h : k.Raises s.lnk) : k.Raises (s.readSecond r).lnk :=
  h.readTemp.readTemp.readTemp.readTemp.readFilter.propagate.readFilter.propagate

theorem Lnk.Raises.recordSecond (h : k.Raises s.lnk) : k.Raises s.recordSecond.lnk := by
  have accumulated : k.Raises s.defrostSecond.checkSecond.accumulate.lnk := .accumulate h.defrostSecond
  exact .propagate (.deriveHumidity (s := State.boostSecond _) accumulated)

/-! ### Requests -/

/-- What handing frames on and replying keeps of LNK, a request keeps where its block's part does; `P` may hold before that
part and `Q` after it. -/
theorem State.request_leads {P Q : Lnk → Prop} {l : Link} {q : RequestKind}
    {act : State → Origin → List Byte → State × Reply}
    (hP : ∀ m r, P m → P (m.setLink l r)) (hQ : ∀ m r, Q m → Q (m.setLink l r)) (hPQ : ∀ m, P m → Q m)
    (hact : ∀ t o fields, P t.lnk → Q (act t o fields).1.lnk) (h : P s.lnk) : Q (s.request l q act).lnk := by
  have answered (t : State) (ht : Q t.lnk) : Q (t.answerUnknown l).lnk := by
    unfold State.answerUnknown
    split
    · exact ht
    · exact hQ _ _ ht
  have checked (t : State) (f : Frame) (ht : P t.lnk) : Q (t.checked l q f act).1.lnk := by
    unfold State.checked
    split
    · exact hPQ _ ht
    · split
      · exact hPQ _ ht
      · dsimp only
        split
        · exact hPQ _ ht
        · split
          · exact hPQ _ ht
          · exact hact _ _ _ ht
  unfold State.request
  split
  · exact hPQ _ h
  · split
    · exact answered _ (hQ _ _ (checked _ _ (hP _ _ h)))
    · exact hPQ _ h

/-- A block's part of a request raises notices and leaves the queues alone otherwise. -/
def ActRaises (act : State → Origin → List Byte → State × Reply) : Prop :=
  ∀ (k : Lnk) (s : State) (o : Origin) (fields : List Byte), k.Raises s.lnk → k.Raises (act s o fields).1.lnk

theorem Lnk.Raises.request {l : Link} {q : RequestKind} {act : State → Origin → List Byte → State × Reply}
    (h : k.Raises s.lnk) (hact : ActRaises act) : k.Raises (s.request l q act).lnk :=
  State.request_leads (fun _ _ hm => hm.setLink) (fun _ _ hm => hm.setLink) (fun _ hm => hm) (hact k) h

theorem Lnk.Raises.requireOrigin {need o : Origin} {a : State × Reply} (h : k.Raises s.lnk) (ha : k.Raises a.1.lnk) :
    k.Raises (requireOrigin need o s a).1.lnk := by
  unfold Machine.requireOrigin
  split
  · exact h
  · exact ha

theorem ActRaises.ofRead {act : State → Origin → List Byte → State × Reply}
    (hact : ∀ s o fields, (act s o fields).1 = s) : ActRaises act :=
  fun k s o fields h => by rwa [hact]

theorem actPostDemand_raises (l : Link) : ActRaises (actPostDemand l) := by
  intro k s o fields h
  unfold actPostDemand
  split
  · split
    · exact h
    · split
      · exact h
      · split
        · exact h
        · exact h.linkPost
  · exact h

theorem actCancelDemand_raises : ActRaises actCancelDemand := by
  intro k s o fields h
  unfold actCancelDemand
  split
  · split
    · exact h
    · split
      · exact h
      · split
        · exact h
        · dsimp only
          exact h.withdraw.propagate
  · exact h

theorem actProbeSensor_raises : ActRaises actProbeSensor := by
  intro k s o fields h
  unfold actProbeSensor
  split
  · refine h.requireOrigin ?_
    dsimp only
    split
    · exact h
    · split
      case h_2 | h_3 => exact h.enterProbing
      all_goals exact h
  · exact h

theorem actCheckFilters_raises : ActRaises actCheckFilters := by
  intro k s o fields h
  unfold actCheckFilters
  split
  · exact h
  · refine h.requireOrigin ?_
    split
    · exact h
    · dsimp only
      exact h.startCheck.propagate

theorem actFilterOpen_raises : ActRaises actFilterOpen := by
  intro k s o fields h
  unfold actFilterOpen
  split
  · exact h
  · refine h.requireOrigin ?_
    split
    · exact h
    · exact h.filterOpen

theorem actFilterClose_raises : ActRaises actFilterClose := by
  intro k s o fields h
  unfold actFilterClose
  split
  · exact h
  · refine h.requireOrigin ?_
    split
    · exact h
    · exact h.returnToRunning

theorem actFilterChanged_raises : ActRaises actFilterChanged := by
  intro k s o fields h
  unfold actFilterChanged
  split
  · split
    · exact h
    · refine h.requireOrigin ?_
      split
      · exact h
      · dsimp only
        exact h.filtersChanged
  · exact h

theorem actClearFlags_raises : ActRaises actClearFlags := by
  intro k s o fields h
  refine h.requireOrigin ?_
  split
  · exact h
  · dsimp only
    exact h.clearFlags.propagate

theorem actSetWatch_raises : ActRaises actSetWatch := by
  intro k s o fields h
  unfold actSetWatch
  split
  · refine h.requireOrigin ?_
    split <;> exact h
  · exact h

theorem actClaimManual_raises (l : Link) : ActRaises (actClaimManual l) := by
  intro k s o fields h
  unfold actClaimManual
  split
  · exact h
  · refine h.requireOrigin ?_
    split
    · exact h
    · split
      · exact h
      · split <;> exact h

theorem actReleaseManual_raises (l : Link) : ActRaises (actReleaseManual l) := by
  intro k s o fields h
  refine h.requireOrigin ?_
  split
  · dsimp only
    exact h.releaseOwner
  · exact h

theorem actManualOutputs_raises (l : Link) : ActRaises (actManualOutputs l) := by
  intro k s o fields h
  unfold actManualOutputs
  split
  · split
    · exact h
    · refine h.requireOrigin ?_
      split
      · exact h
      · split
        · exact h
        · dsimp only
          exact h.postManual
  · exact h

theorem actSetSetting_raises : ActRaises actSetSetting := by
  intro k s o fields h
  unfold actSetSetting
  split
  · dsimp only
    split
    · exact h
    · exact h
    · exact h.takeSetting
    · exact h.takeSetting
  · exact h

theorem actStoreSettings_raises : ActRaises actStoreSettings := by
  intro k s o fields h
  refine h.requireOrigin ?_
  split <;> exact h

theorem actStandby_raises : ActRaises actStandby := by
  intro k s o fields h
  unfold actStandby
  split
  · exact h
  · exact h.requireOrigin h.acceptStandby

theorem actWake_raises : ActRaises actWake := by
  intro k s o fields h
  unfold actWake
  split
  · exact h.requireOrigin h.wakeFromStopping
  · exact h.requireOrigin h.startWaking
  all_goals exact h

theorem actRestart_raises (l : Link) : ActRaises (actRestart l) := by
  intro k s o fields h
  exact h.requireOrigin ⟨h.main, h.service⟩

end Sys2Proof.Machine
end

section
/-! Every row of the opcode table by what it does to the notice queues, and R179 as a whole. -/

namespace Sys2Proof.Machine

/-! ### Rows that raise notices -/

/-- Whatever state a command answers has raised notices since `k` and left the queues alone otherwise. -/
def AnswersRaised (k : Lnk) (a : Answer) : Prop := ∀ t, a = .next t → k.Raises t.lnk

theorem AnswersRaised.next {k : Lnk} {t : State} (h : k.Raises t.lnk) : AnswersRaised k (.next t) := by
  rintro _ ⟨⟩
  exact h

/-- A row that makes its change where it is due, and nothing otherwise (log 1). -/
theorem AnswersRaised.guarded {k : Lnk} {s t : State} {c : Prop} [Decidable c] (hs : k.Raises s.lnk)
    (ht : k.Raises t.lnk) : AnswersRaised k (if c then .next t else .next s) := by
  split
  · exact .next ht
  · exact .next hs

section Rows

variable {k : Lnk} {s : State}

theorem execDemandExpiry_raised (h : k.Raises s.lnk) : AnswersRaised k (execDemandExpiry s) := by
  unfold execDemandExpiry
  split
  · exact .next (.propagate h.applyArb)
  · exact .next h

theorem execUptimeTick_raised (h : k.Raises s.lnk) (r : SecondReadings) : AnswersRaised k (execUptimeTick r s) :=
  .guarded h h.countSecond.airSecond.readSecond.recordSecond

theorem execSpinupEnd_raised (h : k.Raises s.lnk) (i : PathId) : AnswersRaised k (execSpinupEnd i s) := by
  unfold execSpinupEnd
  dsimp only
  split
  · split
    · exact .next (.propagate h.movePath)
    · exact .next h.stallPath
  · exact .next h

theorem execStallDetected_raised (h : k.Raises s.lnk) (i : PathId) : AnswersRaised k (execStallDetected i s) :=
  .guarded h h.stallPath

theorem execRetryEnd_raised (h : k.Raises s.lnk) (i : PathId) : AnswersRaised k (execRetryEnd i s) :=
  .guarded h (.propagate h.movePath)

theorem execGoodTimeComplete_raised (h : k.Raises s.lnk) (i : PathId) : AnswersRaised k (execGoodTimeComplete i s) :=
  .guarded h h.movePath

theorem execShortfallReported_raised (h : k.Raises s.lnk) (i : PathId) : AnswersRaised k (execShortfallReported i s) := by
  unfold execShortfallReported
  dsimp only
  split
  · exact .next (.propagate (.shortfallPrompt (.raise (.setFlag h.movePath))))
  · exact .next h

theorem execHoldExpired_raised (h : k.Raises s.lnk) (i : TempId) : AnswersRaised k (execHoldExpired i s) :=
  .guarded h h.invalidate.propagate

theorem execFrostEvaluation_raised (h : k.Raises s.lnk) : AnswersRaised k (execFrostEvaluation s) :=
  .guarded h (.evaluateFrost h)

theorem execRunOnEnd_raised (h : k.Raises s.lnk) : AnswersRaised k (execRunOnEnd s) :=
  .guarded h h.runOnEnded.propagate

theorem execHeaterWindowEnd_raised (h : k.Raises s.lnk) : AnswersRaised k (execHeaterWindowEnd s) := .guarded h h

theorem execHeaterOnTimeEnd_raised (h : k.Raises s.lnk) : AnswersRaised k (execHeaterOnTimeEnd s) := .guarded h h

theorem execDefrostCleared_raised (h : k.Raises s.lnk) : AnswersRaised k (execDefrostCleared s) := by
  unfold execDefrostCleared
  split
  · exact .next (.endDefrost h)
  · exact .next h

theorem execDefrostIncomplete_raised (h : k.Raises s.lnk) : AnswersRaised k (execDefrostIncomplete s) := by
  unfold execDefrostIncomplete
  split
  · extract_lets a b c
    have faulted : k.Raises b.lnk := .faultEvent (s := a) h
    exact .next (.endDefrost (s := c) faulted)
  · exact .next h

theorem execLockoutEnd_raised (h : k.Raises s.lnk) : AnswersRaised k (execLockoutEnd s) := .guarded h h

theorem execTransactionStart_raised (h : k.Raises s.lnk) : AnswersRaised k (execTransactionStart s) := .guarded h h

theorem execProbeComplete_raised (h : k.Raises s.lnk) (r : ProbeReply) : AnswersRaised k (execProbeComplete r s) := by
  unfold execProbeComplete
  split
  · exact .next (.probed h.completeHead)
  · exact .next h

theorem execMeasureComplete_raised (h : k.Raises s.lnk) (m : MeasureReply) :
    AnswersRaised k (execMeasureComplete m s) := by
  unfold execMeasureComplete
  split
  · exact .next (.measured h.completeHead)
  · exact .next h

theorem execStretchTimeout_raised (h : k.Raises s.lnk) : AnswersRaised k (execStretchTimeout s) := by
  unfold execStretchTimeout
  split
  · exact .next (.probed h.stretched)
  · exact .next (.measured h.stretched)
  · exact .next h

theorem execRecoveryEnd_raised (h : k.Raises s.lnk) : AnswersRaised k (execRecoveryEnd s) := .guarded h h

theorem execPollRound_raised (h : k.Raises s.lnk) : AnswersRaised k (execPollRound s) := by
  unfold execPollRound
  split
  · exact .guarded h (.pollRound h)
  · exact .next h

theorem execProbePauseEnd_raised (h : k.Raises s.lnk) (n : Nat) : AnswersRaised k (execProbePauseEnd n s) := by
  unfold execProbePauseEnd
  split
  · exact .guarded h h
  · exact .next h

theorem execLostTimeEnd_raised (h : k.Raises s.lnk) (n : Nat) : AnswersRaised k (execLostTimeEnd n s) := by
  unfold execLostTimeEnd
  split
  · exact .guarded h h.enterProbing
  · exact .next h

theorem execBoostLimit_raised (h : k.Raises s.lnk) (n : Nat) : AnswersRaised k (execBoostLimit n s) := by
  unfold execBoostLimit
  split
  · exact .guarded h (.propagate h.endBoost)
  · exact .next h

theorem execHoldoffEnd_raised (h : k.Raises s.lnk) (n : Nat) : AnswersRaised k (execHoldoffEnd n s) := by
  unfold execHoldoffEnd
  split
  · exact .guarded h h
  · exact .next h

theorem execRingTick_raised (h : k.Raises s.lnk) : AnswersRaised k (execRingTick s) := by
  have evaluated (f : Hum → Hum) : k.Raises (s.updHum f).evaluateDryness.lnk := .endDryness h
  exact .guarded h (evaluated _).propagate.tryHumidity.propagate.tryDryness.propagate

theorem execRunHour_raised (h : k.Raises s.lnk) : AnswersRaised k (execRunHour s) := .guarded h h.runHour

theorem execSettleStable_raised (h : k.Raises s.lnk) : AnswersRaised k (execSettleStable s) := .guarded h h

theorem execSettleTimeout_raised (h : k.Raises s.lnk) : AnswersRaised k (execSettleTimeout s) :=
  .guarded h (.propagate (.abandonCheck h))

theorem execCheckWaitingExpired_raised (h : k.Raises s.lnk) : AnswersRaised k (execCheckWaitingExpired s) :=
  .guarded h (.propagate h.abandonCheck)

theorem execEvaluate_raised (h : k.Raises s.lnk) : AnswersRaised k (execEvaluate s) :=
  .guarded h (.propagate (.completeCheck h))

theorem execServiceTimerEnd_raised (h : k.Raises s.lnk) : AnswersRaised k (execServiceTimerEnd s) := by
  unfold execServiceTimerEnd
  split
  · split
    · exact .next h.returnToRunning
    · exact .next (.raise h)
  · exact .next h

theorem execFilterWriteComplete_raised (h : k.Raises s.lnk) (ok : Bool) :
    AnswersRaised k (execFilterWriteComplete ok s) := by
  unfold execFilterWriteComplete
  split
  · exact .next h
  · cases ok <;> exact .next h

theorem execStoreComplete_raised (h : k.Raises s.lnk) (ok : Bool) : AnswersRaised k (execStoreComplete ok s) := by
  unfold execStoreComplete
  split
  · exact .next h
  · cases ok with
    | false => exact .next h
    | true => exact .next (.raise h)

theorem execZeroingComplete_raised (h : k.Raises s.lnk) : AnswersRaised k (execZeroingComplete s) := by
  unfold execZeroingComplete
  split
  · split
    · exact .next h.zeroAll.enterFromStarting
    · exact .next h.zeroAll.enterFromWaking
    all_goals exact .next h
  · exact .next h

theorem execRawContactChange_raised (h : k.Raises s.lnk) (line : InputLine) (c : Contact) :
    AnswersRaised k (execRawContactChange line c s) := by
  cases line <;> exact .next h

theorem execInputDebounced_raised (h : k.Raises s.lnk) (n : Nat) : AnswersRaised k (execInputDebounced n s) := by
  unfold execInputDebounced
  split
  · split
    · exact .next h
    · exact .next h.debounced
  · exact .next h

theorem execCutoutDebounced_raised (h : k.Raises s.lnk) : AnswersRaised k (execCutoutDebounced s) := by
  unfold execCutoutDebounced
  split
  · exact .next h
  · exact .next (.reportCutout h)

/-! ### The rows of the links -/

theorem Lnk.Raises.answerUnknown {l : Link} (h : k.Raises s.lnk) : k.Raises (s.answerUnknown l).lnk := by
  unfold State.answerUnknown
  split
  · exact h
  · exact h.updLink

theorem execFrameArrived_raised (h : k.Raises s.lnk) (l : Link) (b : Byte) (stopOk : Bool) :
    AnswersRaised k (execFrameArrived l b stopOk s) := by
  unfold execFrameArrived
  split
  · exact .next (.answerUnknown h.updLink)
  · exact .next h

theorem execFrameError_raised (h : k.Raises s.lnk) (l : Link) (b : Byte) (stopOk : Bool) :
    AnswersRaised k (execFrameError l b stopOk s) := by
  unfold execFrameError
  split
  · exact .next h.updLink
  · exact .next h

theorem execFrameTimeout_raised (h : k.Raises s.lnk) (l : Link) : AnswersRaised k (execFrameTimeout l s) :=
  .guarded h h.updLink

theorem execByteReceived_raised (h : k.Raises s.lnk) (l : Link) (b : Byte) (stopOk : Bool) :
    AnswersRaised k (execByteReceived l b stopOk s) := by
  unfold execByteReceived
  split
  · exact .next h.updLink
  · exact .next h

theorem execLineReturnsToMark_raised (h : k.Raises s.lnk) (l : Link) : AnswersRaised k (execLineReturnsToMark l s) :=
  .next h.updLink

theorem request_raised (h : k.Raises s.lnk) (l : Link) (q : RequestKind)
    {act : State → Origin → List Byte → State × Reply} (hact : ActRaises act) :
    AnswersRaised k (.next (s.request l q act)) := .next (h.request hact)

end Rows

/-! ### Where the queues come from -/

/-- The LNK whose queues a command raises its notices into: as it was, after a reset, or after a GET_NOTICES. -/
inductive QueueSource (c : Instr) (s : State) : Lnk → Prop where
  | kept : QueueSource c s s.lnk
  | reset (h : c = .powerOn ∨ s.lnk.restarting ≠ none) : QueueSource c s .reset
  | fetched (l : Link) (h : c = .getNotices l) : QueueSource c s (s.lnk.setQueue l (s.lnk.queue l).fetch.1)

/-- Whatever state a command answers has raised notices into the queues of such a source. -/
def AnswersSourced (c : Instr) (s : State) (a : Answer) : Prop :=
  ∀ t, a = .next t → ∃ k, QueueSource c s k ∧ k.Raises t.lnk

theorem AnswersSourced.next {c : Instr} {s t : State} {k : Lnk} (hk : QueueSource c s k) (h : k.Raises t.lnk) :
    AnswersSourced c s (.next t) := by
  rintro _ ⟨⟩
  exact ⟨k, hk, h⟩

theorem AnswersRaised.sourced {c : Instr} {s : State} {a : Answer} (h : AnswersRaised s.lnk a) :
    AnswersSourced c s a :=
  fun t ht => ⟨s.lnk, .kept, h t ht⟩

/-- The reset that a RESTART waits for empties the queues; without one nothing happens (R191). -/
theorem State.restartIfSent_sourced {c : Instr} {s t : State} (h : s.lnk.Raises t.lnk)
    (hr : t.lnk.restarting = s.lnk.restarting) : AnswersSourced c s (.next t.restartIfSent) := by
  unfold State.restartIfSent
  split
  · next l restarting =>
    split
    · have taken : s.lnk.restarting ≠ none := by simp [← hr, restarting]
      exact .next (.reset (.inr taken)) t.powerUp_raises
    · exact .next .kept h
  · exact .next .kept h

theorem SettledFrom.restarting {l : List Slot} {s t : State} (h : SettledFrom l s t) :
    t.lnk.restarting = s.lnk.restarting := h.links.2.2

theorem State.releaseOwner_restarting (s : State) : s.releaseOwner.lnk.restarting = s.lnk.restarting := by
  rw [State.releaseOwner, (SettledFrom.propagate _).restarting, (SettledFrom.withdraw _ _).restarting,
    State.updSup_lnk]

theorem execLinkBreak_sourced (l : Link) (s : State) : AnswersSourced (.linkBreak l) s (execLinkBreak l s) := by
  have broken : s.lnk.Raises (s.updLink l LinkRec.break).lnk := (Lnk.Raises.refl _).updLink
  have waits : (s.updLink l LinkRec.break).lnk.restarting = s.lnk.restarting := Lnk.restarting_setLink _ _ _
  unfold execLinkBreak
  split
  · exact .next .kept (.refl _)
  · refine State.restartIfSent_sourced ?_ ?_
    · split
      · exact broken.releaseOwner
      · exact broken
    · split
      · exact (State.releaseOwner_restarting _).trans waits
      · exact waits

theorem execReplyTransmitted_sourced (l : Link) (s : State) :
    AnswersSourced (.replyTransmitted l) s (execReplyTransmitted l s) := by
  unfold execReplyTransmitted
  split
  · exact .next .kept (.refl _)
  · exact State.restartIfSent_sourced (Lnk.Raises.refl _).updLink (Lnk.restarting_setLink _ _ _)

/-! ### GET_NOTICES (R180) -/

/-- Both queues of `m` are those of `k`. -/
def Lnk.SameQueues (k m : Lnk) : Prop := m.mainQueue = k.mainQueue ∧ m.serviceQueue = k.serviceQueue

theorem Lnk.SameQueues.raises {k m : Lnk} (h : k.SameQueues m) : k.Raises m where
  main := h.1 ▸ .refl
  service := h.2 ▸ .refl

theorem Lnk.SameQueues.setLink {k m : Lnk} (h : k.SameQueues m) (l : Link) (r : LinkRec) : k.SameQueues (m.setLink l r) := by
  cases l <;> exact h

theorem Lnk.SameQueues.fetch {k m : Lnk} (h : k.SameQueues m) (l : Link) :
    (k.setQueue l (k.queue l).fetch.1).SameQueues (m.setQueue l (m.queue l).fetch.1) := by
  obtain ⟨hm, hs⟩ := h
  cases l <;> simp [Lnk.SameQueues, Lnk.setQueue, Lnk.queue, hm, hs]

/-- GET_NOTICES leaves the queues, or takes from that of its link. -/
theorem execGetNotices_sourced (l : Link) (s : State) : AnswersSourced (.getNotices l) s (execGetNotices l s) := by
  let fetched := s.lnk.setQueue l (s.lnk.queue l).fetch.1
  have leads : s.lnk.SameQueues (s.request l .getNotices (actGetNotices l)).lnk
      ∨ fetched.SameQueues (s.request l .getNotices (actGetNotices l)).lnk := by
    refine State.request_leads (P := s.lnk.SameQueues) (Q := fun m => s.lnk.SameQueues m ∨ fetched.SameQueues m) ?_ ?_ ?_ ?_
      ⟨rfl, rfl⟩
    · exact fun m r hm => hm.setLink l r
    · exact fun m r hm => hm.imp (·.setLink l r) (·.setLink l r)
    · exact fun m hm => .inl hm
    · exact fun t _ _ ht => .inr (ht.fetch l)
  rcases leads with same | taken
  · exact .next .kept same.raises
  · exact .next (.fetched l rfl) taken.raises

/-- Every command raises notices into the queues as they were, of a reset, or after a GET_NOTICES. -/
theorem exec_sourced (c : Instr) (s : State) : AnswersSourced c s (exec c s) := by
  have h : s.lnk.Raises s.lnk := .refl _
  cases c with
  | powerOn => exact .next (.reset (.inl rfl)) s.powerUp_raises
  | queryStatus l => exact (request_raised h l _ fun _ _ _ _ ht => ht).sourced
  | readDemands l => exact (request_raised h l _ (.ofRead actReadDemands_state)).sourced
  | postDemand l => exact (request_raised h l _ (actPostDemand_raises l)).sourced
  | cancelDemand l => exact (request_raised h l _ actCancelDemand_raises).sourced
  | readAirflow l => exact (request_raised h l _ (.ofRead fun _ _ _ => rfl)).sourced
  | readFrost l => exact (request_raised h l _ (.ofRead fun _ _ _ => rfl)).sourced
  | readSensors l => exact (request_raised h l _ (.ofRead actReadSensors_state)).sourced
  | probeSensor l => exact (request_raised h l _ actProbeSensor_raises).sourced
  | readFilters l => exact (request_raised h l _ (.ofRead actReadFilters_state)).sourced
  | checkFilters l => exact (request_raised h l _ actCheckFilters_raises).sourced
  | filterOpen l => exact (request_raised h l _ actFilterOpen_raises).sourced
  | filterClose l => exact (request_raised h l _ actFilterClose_raises).sourced
  | filterChanged l => exact (request_raised h l _ actFilterChanged_raises).sourced
  | getNotices l => exact execGetNotices_sourced l s
  | readFlags l => exact (request_raised h l _ (.ofRead fun _ _ _ => rfl)).sourced
  | clearFlags l => exact (request_raised h l _ actClearFlags_raises).sourced
  | readCapture l => exact (request_raised h l _ (.ofRead fun _ _ _ => rfl)).sourced
  | releaseCapture l => exact (request_raised h l _ fun _ _ _ _ ht => ht.requireOrigin ht).sourced
  | setWatch l => exact (request_raised h l _ actSetWatch_raises).sourced
  | claimManual l => exact (request_raised h l _ (actClaimManual_raises l)).sourced
  | releaseManual l => exact (request_raised h l _ (actReleaseManual_raises l)).sourced
  | manualOutputs l => exact (request_raised h l _ (actManualOutputs_raises l)).sourced
  | getSetting l => exact (request_raised h l _ (.ofRead actGetSetting_state)).sourced
  | setSetting l => exact (request_raised h l _ actSetSetting_raises).sourced
  | storeSettings l => exact (request_raised h l _ actStoreSettings_raises).sourced
  | standby l => exact (request_raised h l _ actStandby_raises).sourced
  | wake l => exact (request_raised h l _ actWake_raises).sourced
  | restart l => exact (request_raised h l _ (actRestart_raises l)).sourced
  | frameArrived l b stopOk => exact (execFrameArrived_raised h l b stopOk).sourced
  | frameError l b stopOk => exact (execFrameError_raised h l b stopOk).sourced
  | frameTimeout l => exact (execFrameTimeout_raised h l).sourced
  | linkBreak l => exact execLinkBreak_sourced l s
  | replyTransmitted l => exact execReplyTransmitted_sourced l s
  | uptimeTick r => exact (execUptimeTick_raised h r).sourced
  | demandExpiry => exact (execDemandExpiry_raised h).sourced
  | spinupEnd p => exact (execSpinupEnd_raised h p).sourced
  | stallDetected p => exact (execStallDetected_raised h p).sourced
  | retryEnd p => exact (execRetryEnd_raised h p).sourced
  | goodTimeComplete p => exact (execGoodTimeComplete_raised h p).sourced
  | shortfallReported p => exact (execShortfallReported_raised h p).sourced
  | holdExpired i => exact (execHoldExpired_raised h i).sourced
  | frostEvaluation => exact (execFrostEvaluation_raised h).sourced
  | runOnEnd => exact (execRunOnEnd_raised h).sourced
  | heaterWindowEnd => exact (execHeaterWindowEnd_raised h).sourced
  | heaterOnTimeEnd => exact (execHeaterOnTimeEnd_raised h).sourced
  | defrostCleared => exact (execDefrostCleared_raised h).sourced
  | defrostIncomplete => exact (execDefrostIncomplete_raised h).sourced
  | lockoutEnd => exact (execLockoutEnd_raised h).sourced
  | transactionStart => exact (execTransactionStart_raised h).sourced
  | probeComplete ack => exact (execProbeComplete_raised h ack).sourced
  | measureComplete m => exact (execMeasureComplete_raised h m).sourced
  | stretchTimeout => exact (execStretchTimeout_raised h).sourced
  | recoveryEnd => exact (execRecoveryEnd_raised h).sourced
  | pollRound => exact (execPollRound_raised h).sourced
  | probePauseEnd n => exact (execProbePauseEnd_raised h n).sourced
  | lostTimeEnd n => exact (execLostTimeEnd_raised h n).sourced
  | boostLimit n => exact (execBoostLimit_raised h n).sourced
  | holdoffEnd n => exact (execHoldoffEnd_raised h n).sourced
  | ringTick => exact (execRingTick_raised h).sourced
  | runHour => exact (execRunHour_raised h).sourced
  | settleStable => exact (execSettleStable_raised h).sourced
  | settleTimeout => exact (execSettleTimeout_raised h).sourced
  | checkWaitingExpired => exact (execCheckWaitingExpired_raised h).sourced
  | evaluate => exact (execEvaluate_raised h).sourced
  | serviceTimerEnd => exact (execServiceTimerEnd_raised h).sourced
  | filterWriteComplete ok => exact (execFilterWriteComplete_raised h ok).sourced
  | storeComplete ok => exact (execStoreComplete_raised h ok).sourced
  | zeroingComplete => exact (execZeroingComplete_raised h).sourced
  | rawContactChange line c => exact (execRawContactChange_raised h line c).sourced
  | inputDebounced n => exact (execInputDebounced_raised h n).sourced
  | cutoutDebounced => exact (execCutoutDebounced_raised h).sourced
  | byteReceived l b stopOk => exact (execByteReceived_raised h l b stopOk).sourced
  | lineReturnsToMark l => exact (execLineReturnsToMark_raised h l).sourced

/-! ### R179 -/

theorem NoticeQueue.ok_empty (lost cap : Nat) : NoticeQueue.ok ⟨[], lost⟩ cap := ⟨cap.zero_le, List.nodup_nil⟩

/-- What is left after a fetch is a tail of a queue as R179 says. -/
theorem NoticeQueue.ok.fetch {q : NoticeQueue} {cap : Nat} (h : q.ok cap) : q.fetch.1.ok cap := by
  obtain ⟨short, distinct⟩ := h
  have tail : q.fetch.1.entries.Sublist q.entries := List.drop_sublist 8 q.entries
  exact ⟨tail.length_le.trans short, distinct.sublist (tail.map _)⟩

theorem Lnk.QueuesOk.fetch {k : Lnk} (h : k.QueuesOk) (l : Link) : (k.setQueue l (k.queue l).fetch.1).QueuesOk := by
  obtain ⟨main, service⟩ := h
  cases l with
  | main => exact ⟨main.fetch, service⟩
  | service => exact ⟨main, service.fetch⟩

theorem QueueSource.queuesOk {c : Instr} {s : State} {k : Lnk} (h : QueueSource c s k) (hs : s.queuesOk) : k.QueuesOk := by
  cases h with
  | kept => exact State.queuesOk_iff.mp hs
  | reset => exact ⟨NoticeQueue.ok_empty 0 32, NoticeQueue.ok_empty 0 8⟩
  | fetched l => exact (State.queuesOk_iff.mp hs).fetch l

theorem exec_queuesOk {c : Instr} {s t : State} (hs : s.queuesOk) (ht : exec c s = .next t) : t.queuesOk := by
  obtain ⟨k, source, raised⟩ := exec_sourced c s t ht
  exact State.queuesOk_iff.mpr (raised.queuesOk (source.queuesOk hs))

/-- On an empty queue of commands nothing changes (log 8); a command is run with the queue's rest. -/
theorem step_queuesOk {s t : State} (hs : s.queuesOk) (ht : step s = .next t) : t.queuesOk := by
  unfold step at ht
  split at ht
  · cases ht
    exact hs
  · next c rest _ =>
    have hrest : State.queuesOk { s with pending := rest } := hs
    exact exec_queuesOk hrest ht

/-- Without a reset, the queue of a link from which the command does not fetch is the source as it was. -/
theorem QueueSource.queue_eq {c : Instr} {s : State} {k : Lnk} {l : Link} (h : QueueSource c s k)
    (hr : s.lnk.restarting = none) (hp : c ≠ .powerOn) (hg : c ≠ .getNotices l) : k.queue l = s.lnk.queue l := by
  cases h with
  | kept => rfl
  | reset h => exact absurd h (by simp [hr, hp])
  | fetched x hx =>
    subst hx
    cases x <;> cases l
    case main.service | service.main => rfl
    all_goals exact absurd rfl hg

theorem exec_places {c : Instr} {s t : State} {l : Link} (hr : s.lnk.restarting = none) (hp : c ≠ .powerOn)
    (hg : c ≠ .getNotices l) (ht : exec c s = .next t) : (s.lnk.queue l).keys <+: (t.lnk.queue l).keys := by
  obtain ⟨k, source, raised⟩ := exec_sourced c s t ht
  exact source.queue_eq hr hp hg ▸ raised.places l

/-- Settles O54: an offer by whether the queue holds its kind and subject and has room, a raised notice as one offer to each
queue, and the steps by the source whose queues they raise their notices into. -/
theorem noticeQueuesKept : Obligations.NoticeQueuesKept := by
  unfold Obligations.NoticeQueuesKept
  refine ⟨?_, ?_, ?_, ?_⟩
  · intro q cap n hq
    refine ⟨?_, ?_⟩
    · intro before e after he hk hx
      exact NoticeQueue.offer_merges hq he (Prod.ext hk hx)
    · intro apart
      have new : n.key ∉ q.keys := by
        simpa [NoticeQueue.keys, Notice.key, ← not_and_or] using apart
      exact ⟨NoticeQueue.offer_of_room new, fun full => NoticeQueue.offer_of_full new full.ge⟩
  · intro s k x v n main service hn hm hs
    exact State.raise_eq s k x v hn hm hs
  · intro s t
    exact step_queuesOk
  · intro c s t l
    exact exec_places

end Sys2Proof.Machine
end

section
/-! The demand table under its own operations (R8 to R14): where each slot stands, which demand wins, and what a post, a
freeing and a reselection make of it. -/

namespace Sys2Proof.Machine

/-! ### The winner (R10) -/

/-- `w` is the first of the highest level in `l`. -/
def Arb.Leads (a : Arb) (l : List Slot) (w : Slot) : Prop :=
  ∃ pre post, l = pre ++ w :: post ∧ (∀ v ∈ pre, a.level v < a.level w) ∧ ∀ v ∈ post, a.level v ≤ a.level w

theorem Arb.Leads.mem {a : Arb} {l : List Slot} {w : Slot} (h : a.Leads l w) : w ∈ l := by
  obtain ⟨pre, post, rfl, -, -⟩ := h
  simp

theorem Arb.Leads.le {a : Arb} {l : List Slot} {w v : Slot} (h : a.Leads l w) (hv : v ∈ l) : a.level v ≤ a.level w := by
  obtain ⟨pre, post, rfl, hpre, hpost⟩ := h
  rcases List.mem_append.mp hv with hv | hv
  · exact (hpre v hv).le
  · rcases List.mem_cons.mp hv with rfl | hv
    · exact le_rfl
    · exact hpost v hv

/-- The leader of a longer list is the old leader, or the new slot where its level is strictly higher. -/
theorem Arb.Leads.concat {a : Arb} {l : List Slot} {w : Slot} (h : a.Leads l w) (s : Slot) :
    a.Leads (l ++ [s]) (if a.level w < a.level s then s else w) := by
  split
  · next hs => exact ⟨l, [], rfl, fun v hv => (h.le hv).trans_lt hs, by simp⟩
  · next hs =>
    obtain ⟨pre, post, rfl, hpre, hpost⟩ := h
    refine ⟨pre, post ++ [s], by simp, hpre, fun v hv => ?_⟩
    rcases List.mem_append.mp hv with hv | hv
    · exact hpost v hv
    · rw [List.mem_singleton.mp hv]
      exact not_lt.mp hs

theorem Arb.best_nil (a : Arb) : a.best [] = none := rfl

theorem Arb.best_leads (a : Arb) {l : List Slot} (h : l ≠ []) : ∃ w, a.best l = some w ∧ a.Leads l w := by
  induction l using List.reverseRecOn with
  | nil => exact absurd rfl h
  | append_singleton l s ih =>
    have concat : a.best (l ++ [s]) = match a.best l with
        | none => some s
        | some w => if a.level w < a.level s then some s else some w := List.foldl_concat ..
    by_cases hl : l = []
    · subst hl
      exact ⟨s, rfl, [], [], rfl, by simp, by simp⟩
    · obtain ⟨w, hw, leads⟩ := ih hl
      refine ⟨_, ?_, leads.concat s⟩
      rw [concat, hw]
      exact (apply_ite some _ _ _).symm

theorem Arb.winner_none {a : Arb} (h : a.winner = none) : a.stack ++ a.queue = [] := by
  by_contra hl
  obtain ⟨w, hw, -⟩ := a.best_leads hl
  exact absurd (h.symm.trans hw) (by simp)

theorem Arb.winner_leads {a : Arb} {w : Slot} (h : a.winner = some w) : a.Leads (a.stack ++ a.queue) w := by
  by_cases hl : a.stack ++ a.queue = []
  · rw [Arb.winner, hl] at h
    exact absurd h (by simp [Arb.best_nil])
  · obtain ⟨v, hv, leads⟩ := a.best_leads hl
    exact Option.some.inj (h.symm.trans hv) ▸ leads

theorem Arb.exists_winner {a : Arb} (h : a.stack ++ a.queue ≠ []) : ∃ w, a.winner = some w ∧ a.Leads (a.stack ++ a.queue) w :=
  a.best_leads h

/-! ### Levels -/

theorem Arb.level_some {a : Arb} {x : Slot} {d : Demand} (h : a.table.get x = some d) : a.level x = d.level := by
  rw [Arb.level, h]

/-- The level of a slot goes by its record alone. -/
theorem Arb.level_congr {a b : Arb} {x : Slot} (h : b.table.get x = a.table.get x) : b.level x = a.level x := by
  rw [Arb.level, Arb.level, h]

@[simp] theorem DemandTable.get_put_ne (t : DemandTable) {x y : Slot} (h : y ≠ x) (d : Option Demand) :
    (t.put x d).get y = t.get y := by rw [DemandTable.get_put, if_neg h]

/-- A push counts a suspension in the record of the slot pushed and leaves the others. -/
theorem Arb.push_get (a : Arb) (o y : Slot) :
    (a.push o).table.get y = if y = o then (a.table.get o).map Demand.pushed else a.table.get y := by
  rw [Arb.push, DemandTable.get_put]

@[simp] theorem Arb.push_level (a : Arb) (o y : Slot) : (a.push o).level y = a.level y := by
  by_cases h : y = o
  · subst h
    rw [Arb.level, Arb.level, Arb.push_get, if_pos rfl]
    cases a.table.get y <;> rfl
  · exact Arb.level_congr (by rw [Arb.push_get, if_neg h])

@[simp] theorem Arb.preempt_table (a : Arb) (o x : Slot) : (a.preempt o x).1.table = (a.push o).table := rfl
@[simp] theorem Arb.preempt_active (a : Arb) (o x : Slot) : (a.preempt o x).1.active = some x := rfl
@[simp] theorem Arb.preempt_stack (a : Arb) (o x : Slot) : (a.preempt o x).1.stack = o :: a.stack := rfl
@[simp] theorem Arb.preempt_queue (a : Arb) (o x : Slot) : (a.preempt o x).1.queue = a.queue := rfl
@[simp] theorem Arb.preempt_expiring (a : Arb) (o x : Slot) : (a.preempt o x).1.expiring = false := rfl
@[simp] theorem Arb.leave_table (a : Arb) (x : Slot) : (a.leave x).table = a.table := rfl
@[simp] theorem Arb.leave_active (a : Arb) (x : Slot) : (a.leave x).active = a.active := rfl
@[simp] theorem Arb.leave_stack (a : Arb) (x : Slot) : (a.leave x).stack = a.stack.filter (· != x) := rfl
@[simp] theorem Arb.leave_queue (a : Arb) (x : Slot) : (a.leave x).queue = a.queue.filter (· != x) := rfl
@[simp] theorem Arb.leave_expiring (a : Arb) (x : Slot) : (a.leave x).expiring = a.expiring := rfl
@[simp] theorem Arb.leave_level (a : Arb) (x y : Slot) : (a.leave x).level y = a.level y := rfl

/-! ### Where the slots stand (R7) -/

/-- A slot stands somewhere: it is active or waits. -/
def Arb.stands (a : Arb) (x : Slot) : Prop := a.active = some x ∨ x ∈ a.stack ∨ x ∈ a.queue

/-- No slot stands twice. -/
def Arb.single (a : Arb) : Prop :=
  a.stack.Nodup ∧ a.queue.Nodup ∧ (∀ x ∈ a.stack, x ∉ a.queue) ∧ ∀ x, a.active = some x → x ∉ a.stack ∧ x ∉ a.queue

/-- BASE's own record (R1, R2). -/
def DemandTable.baseOk (t : DemandTable) : Prop :=
  ∃ d, t.base = some d ∧ d.level = 1 ∧ d.origin = .internal ∧ d.carry = .baseFlow ∧ d.run = none

/-- The highest level is active (R10). -/
def Arb.topped (a : Arb) : Prop := ∀ x w, a.active = some x → w ∈ a.stack ++ a.queue → a.level w ≤ a.level x

/-- The demands that are held, but for `out`, are those that stand, each once. -/
structure Arb.Placed (out : Option Slot) (a : Arb) : Prop where
  held : ∀ x, a.table.get x ≠ none ↔ a.stands x ∨ out = some x
  away : ∀ x, out = some x → ¬ a.stands x
  single : a.single
  base : a.table.baseOk

theorem Arb.nodup_iff_single (a : Arb) : (a.active.toList ++ a.stack ++ a.queue).Nodup ↔ a.single := by
  cases h : a.active with
  | none => simp [Arb.single, h, List.nodup_append', List.disjoint_left]
  | some x =>
    simp only [Arb.single, h, Option.toList_some, List.cons_append, List.nil_append, List.nodup_cons, List.mem_append,
      List.nodup_append', List.disjoint_left, Option.some.injEq]
    constructor
    · rintro ⟨hx, hs, hq, hd⟩
      exact ⟨hs, hq, fun y hy => hd hy, fun y e => e ▸ ⟨fun m => hx (.inl m), fun m => hx (.inr m)⟩⟩
    · rintro ⟨hs, hq, hd, hx⟩
      exact ⟨fun m => m.elim (hx x rfl).1 (hx x rfl).2, hs, hq, fun y hy => hd hy⟩

theorem arbOk_iff {a : Arb} : ArbOk a ↔ a.Placed none ∧ a.topped := by
  constructor
  · intro h
    exact ⟨⟨fun x => by simpa [Arb.stands] using h.placed x, by simp, a.nodup_iff_single.mp h.apart, h.base⟩, h.top⟩
  · rintro ⟨⟨held, -, single, base⟩, top⟩
    exact ⟨fun x => by simpa [Arb.stands] using held x, a.nodup_iff_single.mpr single, top, base⟩

theorem DemandTable.baseOk.put {t : DemandTable} (h : t.baseOk) {x : Slot} (hx : x ≠ .base) (d : Option Demand) :
    (t.put x d).baseOk := by
  have e : (t.put x d).base = t.base := t.get_put_ne hx.symm d
  rwa [DemandTable.baseOk, e]

theorem DemandTable.baseOk.push {a : Arb} (h : a.table.baseOk) (o : Slot) : (a.push o).table.baseOk := by
  by_cases ho : o = .base
  · subst ho
    obtain ⟨d, hd, hl, hor, hc, hr⟩ := h
    exact ⟨d.pushed, (a.push_get .base .base).trans ((if_pos rfl).trans (congrArg (Option.map Demand.pushed) hd)), hl, hor,
      hc, hr⟩
  · exact h.put ho _

/-! ### Standing through the operations -/

/-- A record on a FREE slot is held and stands nowhere yet. -/
theorem Arb.Placed.fill {a : Arb} (h : a.Placed none) {x : Slot} (hx : a.table.get x = none) (hb : x ≠ .base) (d : Demand) :
    Arb.Placed (some x) { a with table := a.table.put x (some d) } where
  held y := by
    have hy := h.held y
    by_cases e : y = x
    · simp [e]
    · simpa [e, Ne.symm e, Arb.stands] using hy
  away y hy st := by
    obtain rfl : x = y := by simpa using hy
    exact absurd hx ((h.held x).mpr (.inl st))
  single := h.single
  base := h.base.put hb _

/-- A record replaced by another. -/
theorem Arb.Placed.refill {a : Arb} {out : Option Slot} (h : a.Placed out) {x : Slot} (hx : a.table.get x ≠ none)
    (hb : x ≠ .base) (d : Demand) (e : Bool) :
    Arb.Placed out { a with table := a.table.put x (some d), expiring := e } where
  held y := by
    have hy := h.held y
    rw [DemandTable.get_put]
    split
    · next e =>
      subst e
      exact ⟨fun _ => hy.mp hx, fun _ => by simp⟩
    · exact hy
  away := h.away
  single := h.single
  base := h.base.put hb _

theorem Arb.single.leave {a : Arb} (h : a.single) (x : Slot) : (a.leave x).single := by
  obtain ⟨hs, hq, hd, hact⟩ := h
  refine ⟨hs.filter _, hq.filter _, fun y hy m => hd y (List.mem_of_mem_filter hy) (List.mem_of_mem_filter m), fun y hy => ?_⟩
  exact ⟨fun m => (hact y hy).1 (List.mem_of_mem_filter m), fun m => (hact y hy).2 (List.mem_of_mem_filter m)⟩

/-- A waiting slot that leaves its collection is held and stands nowhere. -/
theorem Arb.Placed.leave {a : Arb} (h : a.Placed none) {x : Slot} (hx : x ∈ a.stack ∨ x ∈ a.queue) :
    (a.leave x).Placed (some x) where
  held y := by
    have hy := h.held y
    by_cases e : y = x <;> grind [Arb.stands, Arb.leave]
  away y hy := by
    obtain rfl : x = y := by simpa using hy
    have ha : a.active ≠ some x := fun e => hx.elim (h.single.2.2.2 x e).1 (h.single.2.2.2 x e).2
    simp [Arb.stands, ha]
  single := h.single.leave x
  base := h.base

/-- The slot that stands nowhere preempts the active one. -/
theorem Arb.Placed.preempt {a : Arb} {o x : Slot} (h : a.Placed (some x)) (ho : a.active = some o) :
    (a.preempt o x).1.Placed none where
  held y := by
    have hy := h.held y
    have := a.push_get o y
    have hheld : a.table.get o ≠ none := (h.held o).mpr (.inl (.inl ho))
    by_cases e : y = o
    · subst e
      cases hd : a.table.get y with
      | none => exact absurd hd hheld
      | some d => simp [Arb.push_get, hd, Arb.stands]
    · rw [Arb.preempt_table, Arb.push_get, if_neg e, hy]
      simp [Arb.stands, ho, e, Ne.symm e]
      grind
  away := by simp
  single := by
    obtain ⟨hs, hq, hd, hact⟩ := h.single
    have hx := h.away x rfl
    have hox : x ≠ o := fun e => hx (.inl (e ▸ ho))
    simp only [Arb.stands, not_or] at hx
    refine ⟨List.nodup_cons.mpr ⟨(hact o ho).1, hs⟩, hq, fun y hy => ?_, fun y hy => ?_⟩
    · rcases List.mem_cons.mp hy with rfl | hy
      · exact (hact y ho).2
      · exact hd y hy
    · obtain rfl : x = y := by simpa using hy
      exact ⟨fun m => (List.mem_cons.mp m).elim hox hx.2.1, hx.2.2⟩
  base := h.base.push o

/-- The slot that stands nowhere joins the tail of the queue. -/
theorem Arb.Placed.enqueue {a : Arb} {x : Slot} (h : a.Placed (some x)) :
    Arb.Placed none { a with queue := a.queue ++ [x] } where
  held y := by
    rw [show a.table.get y ≠ none ↔ _ from h.held y]
    simp [Arb.stands, or_assoc, eq_comm]
  away := by simp
  single := by
    obtain ⟨hs, hq, hd, hact⟩ := h.single
    have hx := h.away x rfl
    simp only [Arb.stands, not_or] at hx
    refine ⟨hs, ?_, fun y hy => ?_, fun y hy => ?_⟩
    · exact List.nodup_append'.mpr ⟨hq, by simp, by simpa using hx.2.2⟩
    · have : y ≠ x := fun e => hx.2.1 (e ▸ hy)
      simpa [this] using hd y hy
    · have : y ≠ x := fun e => hx.1 (e ▸ hy)
      simpa [this] using hact y hy
  base := h.base

/-- The slot that stands nowhere becomes active where none is. -/
theorem Arb.Placed.activate {a : Arb} {x : Slot} (h : a.Placed (some x)) (ha : a.active = none) (e : Bool) :
    Arb.Placed none { a with active := some x, expiring := e } where
  held y := by
    rw [show a.table.get y ≠ none ↔ _ from h.held y]
    simp [Arb.stands, ha, or_comm]
  away := by simp
  single := by
    obtain ⟨hs, hq, hd, -⟩ := h.single
    have hx := h.away x rfl
    simp only [Arb.stands, not_or] at hx
    exact ⟨hs, hq, hd, fun y hy => by
      obtain rfl : x = y := by simpa using hy
      exact hx.2⟩
  base := h.base

/-- The record that stands nowhere is freed. -/
theorem Arb.Placed.drop {a : Arb} {x : Slot} (h : a.Placed (some x)) (hb : x ≠ .base) :
    Arb.Placed none { a with table := a.table.put x none } where
  held y := by
    rw [DemandTable.get_put]
    split
    · next e =>
      subst e
      simpa [Arb.stands] using h.away y rfl
    · next e =>
      rw [h.held y]
      simp [Arb.stands, Ne.symm e]
  away := by simp
  single := h.single
  base := h.base.put hb _

/-- The active slot stands down. -/
theorem Arb.Placed.standDown {a : Arb} {x : Slot} (h : a.Placed none) (ha : a.active = some x) :
    Arb.Placed (some x) { a with active := none } where
  held y := by
    rw [show a.table.get y ≠ none ↔ _ from h.held y]
    simp [Arb.stands, ha]
    grind
  away y hy := by
    obtain rfl : x = y := by simpa using hy
    simpa [Arb.stands] using h.single.2.2.2 x ha
  single := ⟨h.single.1, h.single.2.1, h.single.2.2.1, by simp⟩
  base := h.base

/-! ### Reselection (R10) -/

theorem Arb.Placed.reselect {a : Arb} (h : a.Placed none) (ha : a.active = none) : a.reselect.1.Placed none := by
  unfold Arb.reselect
  split
  · exact ⟨fun x => by simpa [Arb.stands, ha] using h.held x, by simp,
      ⟨h.single.1, h.single.2.1, h.single.2.2.1, by simp⟩, h.base⟩
  · next w hw => exact (h.leave (List.mem_append.mp (winner_leads hw).mem)).activate ha false

theorem Arb.topped_reselect (a : Arb) : a.reselect.1.topped := by
  unfold Arb.reselect
  split
  · simp [Arb.topped]
  · next w hw =>
    intro x v hx hv
    obtain rfl : w = x := by simpa using hx
    refine (winner_leads hw).le ?_
    simp only [Arb.leave_stack, Arb.leave_queue, List.mem_append, List.mem_filter] at hv
    exact List.mem_append.mpr (hv.imp And.left And.left)

theorem Arb.Placed.ok_reselect {a : Arb} (h : a.Placed none) (ha : a.active = none) : ArbOk a.reselect.1 :=
  arbOk_iff.mpr ⟨h.reselect ha, a.topped_reselect⟩

/-- Where BASE waits, a reselection makes a slot active. -/
theorem Arb.reselect_active_ne {a : Arb} (h : a.stack ++ a.queue ≠ []) : a.reselect.1.active ≠ none := by
  obtain ⟨w, hw, -⟩ := Arb.exists_winner h
  simp [Arb.reselect, hw]

@[simp] theorem Arb.reselect_expiring (a : Arb) : a.reselect.1.expiring = false := by
  unfold Arb.reselect
  split <;> rfl

/-! ### Freeing (R12 to R14) -/

theorem Arb.free_of_free {a : Arb} {x : Slot} (h : a.table.get x = none) : a.free x = (a, []) := by
  simp [Arb.free, Arb.isFree, h]

/-- The active slot is freed: reselection runs. -/
theorem Arb.free_active {a : Arb} {x : Slot} (h : a.table.get x ≠ none) (ha : a.active = some x) :
    a.free x = Arb.reselect { a with table := a.table.put x none, active := none } := by
  simp [Arb.free, Arb.isFree, h, ha]

/-- A waiting slot is freed: it leaves its collection. -/
theorem Arb.free_waiting {a : Arb} {x : Slot} (h : a.table.get x ≠ none) (ha : a.active ≠ some x) :
    a.free x = (Arb.leave { a with table := a.table.put x none } x, []) := by
  simp [Arb.free, Arb.isFree, h, ha]

theorem ArbOk.free {a : Arb} (h : ArbOk a) {x : Slot} (hb : x ≠ .base) : ArbOk (a.free x).1 := by
  obtain ⟨placed, top⟩ := arbOk_iff.mp h
  by_cases hx : a.table.get x = none
  · rwa [Arb.free_of_free hx]
  · by_cases ha : a.active = some x
    · rw [Arb.free_active hx ha]
      exact Arb.Placed.ok_reselect ((placed.standDown ha).drop hb) rfl
    · rw [Arb.free_waiting hx ha]
      have hw : x ∈ a.stack ∨ x ∈ a.queue := by
        have := (placed.held x).mp hx
        simpa [Arb.stands, ha] using this
      refine arbOk_iff.mpr ⟨(placed.leave hw).drop hb, fun y v hy hv => ?_⟩
      have hv' : v ∈ a.stack ++ a.queue ∧ v ≠ x := by simp at hv; grind
      have hyx : y ≠ x := fun e => ha (e ▸ hy)
      let b := Arb.leave { a with table := a.table.put x none } x
      have e {z : Slot} (hz : z ≠ x) : b.level z = a.level z := Arb.level_congr (a.table.get_put_ne hz none)
      exact (e hv'.2).symm ▸ (e hyx).symm ▸ top y v hy hv'.1

/-- BASE stands somewhere, so where another slot is active something waits. -/
theorem Arb.Placed.base_waits {a : Arb} {x : Slot} (h : a.Placed none) (ha : a.active = some x) (hb : x ≠ .base) :
    a.stack ++ a.queue ≠ [] := by
  obtain ⟨d, hd, -⟩ := h.base
  have : a.stands .base := by
    have := (h.held .base).mp (by rw [show a.table.get .base = a.table.base from rfl, hd]; simp)
    simpa using this
  intro hn
  rcases this with hs | hs | hs
  · exact hb (Option.some.inj (ha.symm.trans hs))
  · simp [List.append_eq_nil_iff.mp hn] at hs
  · simp [List.append_eq_nil_iff.mp hn] at hs

theorem ArbOk.free_active_ne {a : Arb} (h : ArbOk a) {x : Slot} (hb : x ≠ .base) (hn : a.active ≠ none) :
    (a.free x).1.active ≠ none := by
  obtain ⟨placed, -⟩ := arbOk_iff.mp h
  by_cases hx : a.table.get x = none
  · rwa [Arb.free_of_free hx]
  · by_cases ha : a.active = some x
    · rw [Arb.free_active hx ha]
      exact Arb.reselect_active_ne (placed.base_waits ha hb)
    · rw [Arb.free_waiting hx ha]
      exact hn

/-! ### Posts and renewals (R8, R9) -/

/-- The record that a post on a FREE slot fills in. -/
def PostArgs.demand (p : PostArgs) (now : Nat) : Demand :=
  { level := p.level, origin := p.origin, carry := p.carry, run := p.run, postedAt := now, suspensions := 0 }

/-- The record that a renewal makes of `old`. -/
def PostArgs.renewed (p : PostArgs) (old : Demand) : Demand :=
  { old with level := p.level, origin := p.origin, carry := p.carry, run := p.run }

/-- The table with a slot's record replaced by a post, and the mark of a last second with it. -/
def Arb.filled (a : Arb) (x : Slot) (d : Demand) (e : Bool) : Arb :=
  { a with table := a.table.put x (some d), expiring := e }

@[simp] theorem Arb.filled_active (a : Arb) (x : Slot) (d : Demand) (e : Bool) : (a.filled x d e).active = a.active := rfl
@[simp] theorem Arb.filled_stack (a : Arb) (x : Slot) (d : Demand) (e : Bool) : (a.filled x d e).stack = a.stack := rfl
@[simp] theorem Arb.filled_queue (a : Arb) (x : Slot) (d : Demand) (e : Bool) : (a.filled x d e).queue = a.queue := rfl
@[simp] theorem Arb.filled_expiring (a : Arb) (x : Slot) (d : Demand) (e : Bool) : (a.filled x d e).expiring = e := rfl
@[simp] theorem Arb.filled_get_same (a : Arb) (x : Slot) (d : Demand) (e : Bool) :
    (a.filled x d e).table.get x = some d := by simp [Arb.filled]
@[simp] theorem Arb.filled_get_ne (a : Arb) {x y : Slot} (h : y ≠ x) (d : Demand) (e : Bool) :
    (a.filled x d e).table.get y = a.table.get y := by simp [Arb.filled, h]
@[simp] theorem Arb.filled_level_same (a : Arb) (x : Slot) (d : Demand) (e : Bool) : (a.filled x d e).level x = d.level :=
  Arb.level_some (by simp)
@[simp] theorem Arb.filled_level_ne (a : Arb) {x y : Slot} (h : y ≠ x) (d : Demand) (e : Bool) :
    (a.filled x d e).level y = a.level y := Arb.level_congr (by simp [h])

/-- The mark of a last second after a renewal: it falls with the active slot's own. -/
def Arb.markAfter (a : Arb) (x : Slot) : Bool := a.expiring && decide (a.active ≠ some x)

theorem Arb.post_fresh {a : Arb} {x : Slot} (hx : a.table.get x = none) (p : PostArgs) (now : Nat) :
    a.post x p now =
      let b := a.filled x (p.demand now) a.expiring
      match a.active with
      | some old => if a.level old < p.level then b.preempt old x else ({ b with queue := b.queue ++ [x] }, [])
      | none => ({ b with queue := b.queue ++ [x] }, []) := by
  rw [Arb.post, hx]
  rfl

theorem Arb.post_renews {a : Arb} {x : Slot} {d : Demand} (hx : a.table.get x = some d) (p : PostArgs) (now : Nat) :
    a.post x p now =
      let b := a.filled x (p.renewed d) (a.markAfter x)
      match a.active with
      | none => (b, [])
      | some act =>
        if act = x then
          match b.winner with
          | none => (b, [])
          | some w => if p.level < b.level w then (b.leave w).preempt x w else (b, [])
        else if b.level act < p.level then (b.leave x).preempt act x
        else (b, []) := by
  rw [Arb.post, hx]
  rfl

/-- A post on a FREE slot under a lower active demand preempts it. -/
theorem Arb.post_preempts {a : Arb} {x act : Slot} {p : PostArgs} {now : Nat} (hx : a.table.get x = none)
    (ha : a.active = some act) (hl : a.level act < p.level) :
    a.post x p now = (a.filled x (p.demand now) a.expiring).preempt act x := by
  rw [Arb.post_fresh hx, ha]
  exact if_pos hl

/-- A post on a FREE slot waits at the tail of the queue otherwise. -/
theorem Arb.post_waits {a : Arb} {x : Slot} {p : PostArgs} {now : Nat} (hx : a.table.get x = none)
    (hl : ∀ act, a.active = some act → p.level ≤ a.level act) :
    a.post x p now
      = ({ a.filled x (p.demand now) a.expiring with queue := (a.filled x (p.demand now) a.expiring).queue ++ [x] }, []) := by
  rw [Arb.post_fresh hx]
  cases ha : a.active with
  | none => rfl
  | some act => exact if_neg (not_lt.mpr (hl act ha))

/-- A renewal of the active demand that another one now exceeds. -/
theorem Arb.renew_overtaken {a : Arb} {x w : Slot} {d : Demand} {p : PostArgs} {now : Nat} (hx : a.table.get x = some d)
    (ha : a.active = some x) (hw : (a.filled x (p.renewed d) (a.markAfter x)).winner = some w)
    (hl : p.level < (a.filled x (p.renewed d) (a.markAfter x)).level w) :
    a.post x p now = ((a.filled x (p.renewed d) (a.markAfter x)).leave w).preempt x w := by
  rw [Arb.post_renews hx, ha]
  simp only [if_true, hw, if_pos hl]

/-- A renewal of a waiting demand that now exceeds the active one. -/
theorem Arb.renew_overtakes {a : Arb} {x act : Slot} {d : Demand} {p : PostArgs} {now : Nat} (hx : a.table.get x = some d)
    (ha : a.active = some act) (hne : act ≠ x) (hl : a.level act < p.level) :
    a.post x p now = ((a.filled x (p.renewed d) (a.markAfter x)).leave x).preempt act x := by
  rw [Arb.post_renews hx, ha]
  simp only [if_neg hne, Arb.filled_level_ne _ hne, if_pos hl]

/-- Any other renewal keeps its place. -/
theorem Arb.renew_stays {a : Arb} {x : Slot} {d : Demand} {p : PostArgs} {now : Nat} (hx : a.table.get x = some d)
    (hself : a.active = some x → ∀ w, (a.filled x (p.renewed d) (a.markAfter x)).winner = some w →
      (a.filled x (p.renewed d) (a.markAfter x)).level w ≤ p.level)
    (hother : ∀ act, a.active = some act → act ≠ x → p.level ≤ a.level act) :
    a.post x p now = (a.filled x (p.renewed d) (a.markAfter x), []) := by
  rw [Arb.post_renews hx]
  cases ha : a.active with
  | none => rfl
  | some act =>
    by_cases e : act = x
    · subst e
      simp only [if_true]
      split
      · rfl
      · next w hw => exact if_neg (not_lt.mpr (hself ha w hw))
    · simp only [if_neg e, Arb.filled_level_ne _ e]
      exact if_neg (not_lt.mpr (hother act ha e))

/-- What a post can do, said once (R8, R9): the record is filled, and then the posted slot or one that the renewal lets pass
preempts, or joins the queue, or keeps its place. -/
inductive Arb.Posted (a : Arb) (x : Slot) (p : PostArgs) (now : Nat) : Arb × List Report → Prop where
  | preempts (act : Slot) (free : a.table.get x = none) (active : a.active = some act) (above : a.level act < p.level) :
      Posted a x p now ((a.filled x (p.demand now) a.expiring).preempt act x)
  | waits (free : a.table.get x = none) (below : ∀ act, a.active = some act → p.level ≤ a.level act) :
      Posted a x p now
        ({ a.filled x (p.demand now) a.expiring with queue := (a.filled x (p.demand now) a.expiring).queue ++ [x] }, [])
  | overtaken (w : Slot) (d : Demand) (held : a.table.get x = some d) (active : a.active = some x)
      (leads : (a.filled x (p.renewed d) (a.markAfter x)).Leads (a.stack ++ a.queue) w)
      (above : p.level < (a.filled x (p.renewed d) (a.markAfter x)).level w) :
      Posted a x p now (((a.filled x (p.renewed d) (a.markAfter x)).leave w).preempt x w)
  | overtakes (act : Slot) (d : Demand) (held : a.table.get x = some d) (active : a.active = some act) (other : act ≠ x)
      (above : a.level act < p.level) :
      Posted a x p now (((a.filled x (p.renewed d) (a.markAfter x)).leave x).preempt act x)
  | stays (d : Demand) (held : a.table.get x = some d)
      (self : a.active = some x → ∀ w ∈ a.stack ++ a.queue, (a.filled x (p.renewed d) (a.markAfter x)).level w ≤ p.level)
      (other : ∀ act, a.active = some act → act ≠ x → p.level ≤ a.level act) :
      Posted a x p now (a.filled x (p.renewed d) (a.markAfter x), [])

theorem Arb.post_posted (a : Arb) (x : Slot) (p : PostArgs) (now : Nat) : a.Posted x p now (a.post x p now) := by
  cases hx : a.table.get x with
  | none =>
    by_cases hl : ∃ act, a.active = some act ∧ a.level act < p.level
    · obtain ⟨act, ha, hl⟩ := hl
      exact Arb.post_preempts hx ha hl ▸ .preempts act hx ha hl
    · push Not at hl
      exact Arb.post_waits hx hl ▸ .waits hx hl
  | some d =>
    let b := a.filled x (p.renewed d) (a.markAfter x)
    by_cases hs : a.active = some x
    · by_cases hw : ∃ w, b.winner = some w ∧ p.level < b.level w
      · obtain ⟨w, hw, hl⟩ := hw
        exact Arb.renew_overtaken hx hs hw hl ▸ .overtaken w d hx hs (Arb.winner_leads hw) hl
      · push Not at hw
        have other : ∀ act, a.active = some act → act ≠ x → p.level ≤ a.level act := fun act ha hne =>
          absurd (Option.some.inj (ha.symm.trans hs)) hne
        refine Arb.renew_stays hx (fun _ => hw) other ▸ .stays d hx (fun _ v hv => ?_) other
        obtain ⟨w, hw', leads⟩ := Arb.exists_winner (a := b) (List.ne_nil_of_mem hv)
        exact (leads.le hv).trans (hw w hw')
    · by_cases hl : ∃ act, a.active = some act ∧ a.level act < p.level
      · obtain ⟨act, ha, hl⟩ := hl
        have hne : act ≠ x := fun e => hs (e ▸ ha)
        exact Arb.renew_overtakes hx ha hne hl ▸ .overtakes act d hx ha hne hl
      · push Not at hl
        exact Arb.renew_stays hx (fun h => absurd h hs) (fun act ha _ => hl act ha) ▸
          .stays d hx (fun h => absurd h hs) (fun act ha _ => hl act ha)

theorem ArbOk.level_le {a : Arb} (h : ArbOk a) {act w : Slot} (ha : a.active = some act) (hw : w ∈ a.stack ++ a.queue) :
    a.level w ≤ a.level act := h.top act w ha hw

/-- No slot both is active and waits. -/
theorem ArbOk.not_waiting {a : Arb} (h : ArbOk a) {act : Slot} (ha : a.active = some act) : act ∉ a.stack ++ a.queue := by
  have := (arbOk_iff.mp h).1.single.2.2.2 act ha
  simpa using this

/-- A held slot that is not active waits. -/
theorem ArbOk.waits {a : Arb} (h : ArbOk a) {x : Slot} (hx : a.table.get x ≠ none) (ha : a.active ≠ some x) :
    x ∈ a.stack ∨ x ∈ a.queue := by
  have := (h.placed x).mp hx
  simpa [ha] using this

/-- A FREE slot stands nowhere. -/
theorem ArbOk.not_stands {a : Arb} (h : ArbOk a) {x : Slot} (hx : a.table.get x = none) :
    a.active ≠ some x ∧ x ∉ a.stack ++ a.queue := by
  have := mt (h.placed x).mpr (not_not.mpr hx)
  simpa [not_or] using this

/-- A post keeps the collections, the selection of the highest level and BASE's record. -/
theorem ArbOk.post {a : Arb} (h : ArbOk a) {x : Slot} (hb : x ≠ .base) (p : PostArgs) (now : Nat) :
    ArbOk (a.post x p now).1 := by
  obtain ⟨placed, top⟩ := arbOk_iff.mp h
  have posted := a.post_posted x p now
  generalize a.post x p now = r at posted ⊢
  cases posted with
  | preempts act free active above =>
    have hx := h.not_stands free
    have hne : act ≠ x := fun e => hx.1 (e ▸ active)
    refine arbOk_iff.mpr ⟨(placed.fill free hb _).preempt active, fun y v hy hv => ?_⟩
    obtain rfl : x = y := by simpa using hy
    have hv' : v = act ∨ v ∈ a.stack ++ a.queue := by simpa [or_assoc] using hv
    have hvx : v ≠ x := hv'.elim (fun e => e ▸ hne) (fun m e => hx.2 (e ▸ m))
    have hle : a.level v ≤ a.level act := hv'.elim (fun e => e ▸ le_rfl) (h.level_le active)
    show (Arb.push _ act).level v ≤ (Arb.push _ act).level x
    rw [Arb.push_level, Arb.push_level, Arb.filled_level_ne _ hvx, Arb.filled_level_same]
    exact hle.trans above.le
  | waits free below =>
    have hx := h.not_stands free
    refine arbOk_iff.mpr ⟨(placed.fill free hb _).enqueue, fun y v hy hv => ?_⟩
    have hyx : y ≠ x := fun e => hx.1 (e ▸ hy)
    have hv' : v ∈ a.stack ++ a.queue ∨ v = x := by simpa [or_assoc] using hv
    show (a.filled x (p.demand now) a.expiring).level v ≤ (a.filled x (p.demand now) a.expiring).level y
    rw [Arb.filled_level_ne _ hyx]
    rcases hv' with m | rfl
    · have hvx : v ≠ x := fun e => hx.2 (e ▸ m)
      rw [Arb.filled_level_ne _ hvx]
      exact h.level_le hy m
    · rw [Arb.filled_level_same]
      exact below y hy
  | overtaken w d held active leads above =>
    have hx : a.table.get x ≠ none := by simp [held]
    have hw := leads.mem
    have hne : w ≠ x := fun e => h.not_waiting active (e ▸ hw)
    have placed' := (placed.refill hx hb (p.renewed d) (a.markAfter x)).leave (List.mem_append.mp hw)
    refine arbOk_iff.mpr ⟨placed'.preempt active, fun y v hy hv => ?_⟩
    obtain rfl : w = y := by simpa using hy
    show (Arb.push _ x).level v ≤ (Arb.push _ x).level w
    rw [Arb.push_level, Arb.push_level, Arb.leave_level, Arb.leave_level]
    have hv' : v = x ∨ v ∈ a.stack ++ a.queue := by simp at hv; simp; grind
    rcases hv' with rfl | m
    · rw [Arb.filled_level_same]
      exact above.le
    · exact leads.le m
  | overtakes act d held active other above =>
    have hx : a.table.get x ≠ none := by simp [held]
    have ha : a.active ≠ some x := fun e => other (Option.some.inj (active.symm.trans e))
    have placed' := (placed.refill hx hb (p.renewed d) (a.markAfter x)).leave (h.waits hx ha)
    refine arbOk_iff.mpr ⟨placed'.preempt active, fun y v hy hv => ?_⟩
    obtain rfl : x = y := by simpa using hy
    show (Arb.push _ act).level v ≤ (Arb.push _ act).level x
    rw [Arb.push_level, Arb.push_level, Arb.leave_level, Arb.leave_level, Arb.filled_level_same]
    have hv' : v = act ∨ (v ∈ a.stack ++ a.queue ∧ v ≠ x) := by simp at hv; simp; grind
    rcases hv' with rfl | ⟨m, hvx⟩
    · rw [Arb.filled_level_ne _ other]
      exact above.le
    · rw [Arb.filled_level_ne _ hvx]
      exact (h.level_le active m).trans above.le
  | stays d held self other =>
    have hx : a.table.get x ≠ none := by simp [held]
    refine arbOk_iff.mpr ⟨placed.refill hx hb _ _, fun y v hy hv => ?_⟩
    have hy' : a.active = some y := hy
    have hv' : v ∈ a.stack ++ a.queue := hv
    by_cases e : y = x
    · subst e
      rw [Arb.filled_level_same]
      exact self hy' v hv'
    · rw [Arb.filled_level_ne _ e]
      by_cases ev : v = x
      · subst ev
        rw [Arb.filled_level_same]
        exact other y hy' e
      · rw [Arb.filled_level_ne _ ev]
        exact h.level_le hy' hv'

theorem Arb.post_active_ne {a : Arb} (hn : a.active ≠ none) (x : Slot) (p : PostArgs) (now : Nat) :
    (a.post x p now).1.active ≠ none := by
  have posted := a.post_posted x p now
  generalize a.post x p now = r at posted ⊢
  cases posted with
  | preempts | overtaken | overtakes => simp
  | waits | stays => exact hn

/-! ### The other changes of the table -/

theorem ArbOk.countRun {a : Arb} (h : ArbOk a) : ArbOk a.countRun := by
  unfold Arb.countRun
  split
  · exact h
  · next x hx =>
    split
    · exact h
    · next d hd =>
      split
      · exact h
      · next n hn =>
        split
        · exact ⟨h.placed, h.apart, h.top, h.base⟩
        · have hb : x ≠ .base := by
            rintro rfl
            obtain ⟨e, he, -, -, -, hr⟩ := h.base
            rw [show a.table.get .base = a.table.base from rfl, he] at hd
            cases hd
            simp [hr] at hn
          obtain ⟨placed, top⟩ := arbOk_iff.mp h
          refine arbOk_iff.mpr ⟨placed.refill (by simp [hd]) hb _ a.expiring, fun y v hy hv => ?_⟩
          have e (z : Slot) : (a.filled x { d with run := some (n - 1) } a.expiring).level z = a.level z := by
            by_cases hz : z = x
            · rw [hz, Arb.filled_level_same, Arb.level_some hd]
            · rw [Arb.filled_level_ne _ hz]
          exact (e v).symm ▸ (e y).symm ▸ top y v hy hv

@[simp] theorem Arb.countRun_active (a : Arb) : a.countRun.active = a.active := by
  unfold Arb.countRun
  split
  · rfl
  · split
    · rfl
    · split
      · rfl
      · split <;> rfl

@[simp] theorem Arb.countRun_stack (a : Arb) : a.countRun.stack = a.stack := by
  unfold Arb.countRun
  split
  · rfl
  · split
    · rfl
    · split
      · rfl
      · split <;> rfl

@[simp] theorem Arb.countRun_queue (a : Arb) : a.countRun.queue = a.queue := by
  unfold Arb.countRun
  split
  · rfl
  · split
    · rfl
    · split
      · rfl
      · split <;> rfl

/-- The table with nothing but BASE, which is the active slot or waits alone. -/
theorem ArbOk.baseAlone {a : Arb} (hb : a.table.baseOk) (hf : ∀ x, x ≠ .base → a.table.get x = none)
    (hs : a.stack = []) (hp : (a.active = some .base ∧ a.queue = []) ∨ (a.active = none ∧ a.queue = [.base])) : ArbOk a where
  placed x := by
    by_cases hx : x = .base
    · subst hx
      obtain ⟨d, hd, -⟩ := hb
      rcases hp with ⟨h1, h2⟩ | ⟨h1, h2⟩ <;>
        simp [h1, h2, hs, show a.table.get .base = a.table.base from rfl, hd]
    · rcases hp with ⟨h1, h2⟩ | ⟨h1, h2⟩ <;> simp [h1, h2, hs, hf x hx, hx, Ne.symm hx]
  apart := by rcases hp with ⟨h1, h2⟩ | ⟨h1, h2⟩ <;> simp [h1, h2, hs]
  top x w hx hw := by rcases hp with ⟨h1, h2⟩ | ⟨h1, h2⟩ <;> simp [h1, h2, hs] at hx hw
  base := hb

theorem ArbOk.clearForStandby {a : Arb} (h : ArbOk a) (straight : Bool) : ArbOk (a.clearForStandby straight).1 := by
  refine ArbOk.baseAlone h.base (fun x hx => Arb.clearForStandby_get a straight hx) rfl ?_
  cases straight
  · exact .inl ⟨rfl, rfl⟩
  · exact .inr ⟨rfl, rfl⟩

/-- In STOPPING BASE alone is held (R23); STANDBY keeps it waiting. -/
theorem ArbOk.enterStandby {a : Arb} (h : ArbOk a) (ha : a.active = some .base) (hs : a.stack = []) (hq : a.queue = []) :
    ArbOk a.enterStandby := by
  refine ArbOk.baseAlone h.base (fun x hx => ?_) (by simp [Arb.enterStandby, hs]) (.inr ⟨rfl, by simp [Arb.enterStandby, hq]⟩)
  by_contra hn
  have := (h.placed x).mp hn
  simp [ha, hs, hq, Ne.symm hx] at this

/-! ### Run times and the mark of a last second (R2, R14) -/

/-- A marked last second is that of an active demand whose run time is as `Q` says. -/
def Arb.markHas (Q : Option Nat → Prop) (a : Arb) : Prop :=
  a.expiring = true → ∃ d, a.activeDemand = some d ∧ Q d.run

/-- Every run time that counts is as `R` says. -/
def Arb.runsHave (R : Nat → Prop) (a : Arb) : Prop := ∀ x d n, a.table.get x = some d → d.run = some n → R n

theorem Arb.markHas.ofFalse {Q : Option Nat → Prop} {a : Arb} (h : a.expiring = false) : a.markHas Q := by
  simp [Arb.markHas, h]

/-- The record of the active slot, which a marked last second has. -/
theorem Arb.markHas.get {Q : Option Nat → Prop} {a : Arb} (h : a.markHas Q) (he : a.expiring = true) :
    ∃ x d, a.active = some x ∧ a.table.get x = some d ∧ Q d.run := by
  obtain ⟨d, hd, hq⟩ := h he
  cases ha : a.active with
  | none => simp [Arb.activeDemand, ha] at hd
  | some x => exact ⟨x, d, rfl, by simpa [Arb.activeDemand, ha] using hd, hq⟩

theorem Arb.markHas.of_get {Q : Option Nat → Prop} {a : Arb} {x : Slot} {d : Demand} (ha : a.active = some x)
    (hd : a.table.get x = some d) (hq : Q d.run) : a.markHas Q := fun _ => ⟨d, by simp [Arb.activeDemand, ha, hd], hq⟩

theorem Arb.markHas.post {Q : Option Nat → Prop} {a : Arb} (h : a.markHas Q) (x : Slot) (p : PostArgs) (now : Nat) :
    (a.post x p now).1.markHas Q := by
  have posted := a.post_posted x p now
  generalize a.post x p now = r at posted ⊢
  cases posted with
  | preempts | overtaken | overtakes => exact .ofFalse rfl
  | waits free below =>
    intro he
    obtain ⟨y, d, hy, hd, hq⟩ := h.get he
    have hyx : y ≠ x := by
      rintro rfl
      simp [free] at hd
    exact Arb.markHas.of_get (a := { a.filled x _ _ with queue := _ }) hy (by simpa [hyx] using hd) hq he
  | stays d held self other =>
    intro he
    obtain ⟨e, hne⟩ : a.expiring = true ∧ a.active ≠ some x := by simpa [Arb.markAfter] using he
    obtain ⟨y, d, hy, hd, hq⟩ := h.get e
    have hyx : y ≠ x := fun e => hne (e ▸ hy)
    exact Arb.markHas.of_get (a := a.filled x _ _) hy (by simpa [hyx] using hd) hq he

theorem Arb.markHas.free {Q : Option Nat → Prop} {a : Arb} (h : a.markHas Q) (x : Slot) : (a.free x).1.markHas Q := by
  by_cases hx : a.table.get x = none
  · rwa [Arb.free_of_free hx]
  · by_cases ha : a.active = some x
    · rw [Arb.free_active hx ha]
      exact .ofFalse (Arb.reselect_expiring _)
    · rw [Arb.free_waiting hx ha]
      intro he
      obtain ⟨y, d, hy, hd, hq⟩ := h.get he
      have hyx : y ≠ x := fun e => ha (e ▸ hy)
      exact Arb.markHas.of_get (a := Arb.leave { a with table := a.table.put x none } x) hy (by simpa [hyx] using hd) hq he

theorem Arb.runsHave.put {R : Nat → Prop} {a b : Arb} (h : a.runsHave R) {x : Slot} {o : Option Demand}
    (hb : b.table = a.table.put x o) (ho : ∀ d n, o = some d → d.run = some n → R n) : b.runsHave R := by
  intro y d n hd hn
  rw [hb, DemandTable.get_put] at hd
  split at hd
  · exact ho d n hd hn
  · exact h y d n hd hn

theorem Arb.runsHave.push {R : Nat → Prop} {a : Arb} (h : a.runsHave R) (o : Slot) : (a.push o).runsHave R := by
  refine h.put rfl fun d n hd hn => ?_
  obtain ⟨e, he, rfl⟩ := Option.map_eq_some_iff.mp hd
  exact h o e n he hn

theorem Arb.runsHave.post {R : Nat → Prop} {a : Arb} (h : a.runsHave R) (x : Slot) {p : PostArgs} (now : Nat)
    (hp : ∀ n, p.run = some n → R n) : (a.post x p now).1.runsHave R := by
  have filled (d : Demand) (e : Bool) (hd : d.run = p.run) : (a.filled x d e).runsHave R :=
    h.put rfl fun d' n hd' hn => by
      cases hd'
      exact hp n (hd ▸ hn)
  have posted := a.post_posted x p now
  generalize a.post x p now = r at posted ⊢
  cases posted with
  | preempts => exact (filled _ _ rfl).push _
  | waits => exact filled (p.demand now) a.expiring rfl
  | overtaken w d =>
    exact Arb.runsHave.push (a := (a.filled x (p.renewed d) (a.markAfter x)).leave w) (filled (p.renewed d) (a.markAfter x) rfl) _
  | overtakes act d =>
    exact Arb.runsHave.push (a := (a.filled x (p.renewed d) (a.markAfter x)).leave x) (filled (p.renewed d) (a.markAfter x) rfl) _
  | stays => exact filled _ _ rfl

theorem Arb.runsHave.free {R : Nat → Prop} {a : Arb} (h : a.runsHave R) (x : Slot) : (a.free x).1.runsHave R := by
  intro y d n hd hn
  by_cases hy : y = x
  · subst hy
    simp [Arb.free_get_self] at hd
  · exact h y d n (by rwa [Arb.free_get_ne a hy] at hd) hn

/-- What a second makes of the active demand (R14, log 3): nothing where it is UNTIMED or none is, the mark in its last
second, and otherwise a second less. -/
theorem Arb.countRun_cases (a : Arb) :
    a.countRun = a
      ∨ ∃ x d n, a.active = some x ∧ a.table.get x = some d ∧ d.run = some n
          ∧ a.countRun = if n ≤ 1 then { a with expiring := true } else a.filled x { d with run := some (n - 1) } a.expiring := by
  cases ha : a.active with
  | none => exact .inl (by simp [Arb.countRun, ha])
  | some x =>
    cases hd : a.table.get x with
    | none => exact .inl (by simp [Arb.countRun, ha, hd])
    | some d =>
      cases hn : d.run with
      | none => exact .inl (by simp [Arb.countRun, ha, hd, hn])
      | some n => exact .inr ⟨x, d, n, rfl, hd, hn, by simp [Arb.countRun, ha, hd, hn, Arb.filled]⟩

theorem Arb.runsOk_iff {a : Arb} : a.runsOk ↔ a.runsHave (fun n => 1 ≤ n ∧ n ≤ 14400) ∧ a.markHas (· = some 1) := .rfl

theorem Arb.runsOk.countRun {a : Arb} (h : a.runsOk) : a.countRun.runsOk := by
  obtain ⟨hr, hm⟩ := h
  rcases a.countRun_cases with e | ⟨x, d, n, ha, hd, hn, e⟩
  · rw [e]
    exact ⟨hr, hm⟩
  · obtain ⟨h1, h2⟩ := hr x d n hd hn
    rw [e]
    split
    · refine ⟨hr, Arb.markHas.of_get (a := { a with expiring := true }) (Q := (· = some 1)) ha hd ?_⟩
      rw [hn]
      congr
      omega
    · refine ⟨Arb.runsHave.put hr rfl fun d' m hd' hm' => ?_, fun he => ?_⟩
      · cases hd'
        cases hm'
        omega
      · obtain ⟨y, d', hy, hd', hq⟩ := Arb.markHas.get (Q := (· = some 1)) hm he
        obtain rfl : x = y := Option.some.inj (ha.symm.trans hy)
        obtain rfl : d = d' := Option.some.inj (hd.symm.trans hd')
        have : n = 1 := Option.some.inj (hn.symm.trans hq)
        omega

/-- The mark stands beside a timed demand alone. -/
def Arb.markTimed (a : Arb) : Prop := a.markHas (· ≠ none)

theorem Arb.markTimed.countRun {a : Arb} (h : a.markTimed) : a.countRun.markTimed := by
  rcases a.countRun_cases with e | ⟨x, d, n, ha, hd, hn, e⟩
  · rwa [e]
  · rw [e]
    split
    · exact Arb.markHas.of_get (a := { a with expiring := true }) ha hd (by simp [hn])
    · exact Arb.markHas.of_get (a := a.filled x _ _) ha (a.filled_get_same x _ _) (by simp)

theorem Arb.runsOk.markTimed {a : Arb} (h : a.runsOk) : a.markTimed := fun he => by
  obtain ⟨d, hd, hr⟩ := h.2 he
  exact ⟨d, hd, by simp [hr]⟩

/-- A marked last second is never BASE's. -/
theorem ArbOk.expiry_ne_base {a : Arb} (h : ArbOk a) (hm : a.markTimed) {x : Slot} (he : a.expiryDue = some x) : x ≠ .base := by
  rintro rfl
  unfold Arb.expiryDue at he
  split at he
  · next hx =>
    obtain ⟨y, d, hy, hd, hr⟩ := Arb.markHas.get hm hx
    obtain rfl : y = .base := Option.some.inj (hy.symm.trans he)
    obtain ⟨e, heq, -, -, -, hn⟩ := h.base
    rw [show a.table.get .base = a.table.base from rfl, heq] at hd
    cases hd
    exact hr hn
  · simp at he

/-! ### The two obligations of the table alone -/

/-- Settles O16: a post by the cases of R8 and R9, with the slot that was active. -/
theorem postPlacesDemand : Obligations.PostPlacesDemand := by
  unfold Obligations.PostPlacesDemand
  intro a x act p now ok active
  refine ⟨fun free => ?_, fun d held => ?_⟩
  · have hne : x ≠ act := fun e => (ok.not_stands free).1 (e ▸ active)
    by_cases hl : a.level act < p.level
    · rw [Arb.post_preempts free active hl]
      refine ⟨by simp [Arb.push_get, hne, PostArgs.demand], fun _ => ⟨rfl, rfl, rfl, rfl, ?_, fun y hyx hya => ?_⟩,
        fun h => absurd h (not_le.mpr hl)⟩
      · rw [Arb.preempt_table, Arb.push_get, if_pos rfl, Arb.filled_get_ne _ hne.symm]
        rfl
      · rw [Arb.preempt_table, Arb.push_get, if_neg hya, Arb.filled_get_ne _ hyx]
    · have below : ∀ o, a.active = some o → p.level ≤ a.level o := fun o ho =>
        Option.some.inj (active.symm.trans ho) ▸ not_lt.mp hl
      rw [Arb.post_waits free below]
      exact ⟨a.filled_get_same x (p.demand now) a.expiring, fun h => absurd h hl,
        fun _ => ⟨active, rfl, rfl, rfl, fun y hy => a.filled_get_ne hy (p.demand now) a.expiring⟩⟩
  · let b := a.filled x (p.renewed d) (a.markAfter x)
    have hbx : b.table.get x = some (p.renewed d) := a.filled_get_same x _ _
    have hby {y : Slot} (h : y ≠ x) : b.table.get y = a.table.get y := a.filled_get_ne h _ _
    have mark : a.markAfter x = if x = act then false else a.expiring := by
      rw [Arb.markAfter, active]
      by_cases e : x = act
      · simp [e]
      · simp [e, Ne.symm e]
    by_cases hxa : x = act
    · subst hxa
      have lvl {w : Slot} (hw : w ∈ a.stack ++ a.queue) : b.level w = a.level w :=
        a.filled_level_ne (fun e : w = x => ok.not_waiting active (e ▸ hw)) _ _
      by_cases hw : ∃ w ∈ a.stack ++ a.queue, p.level < a.level w
      · obtain ⟨w', hw', hl'⟩ := hw
        obtain ⟨w, hwin, leads⟩ := Arb.exists_winner (a := b) (List.ne_nil_of_mem hw')
        have above : p.level < b.level w := (lvl hw' ▸ hl').trans_le (leads.le hw')
        have hne : w ≠ x := fun e => ok.not_waiting active (e ▸ leads.mem)
        rw [Arb.renew_overtaken held active hwin above]
        refine ⟨⟨(p.renewed d).pushed, ?_, rfl, rfl, rfl, rfl, rfl, ?_⟩, fun y hyx _ => ?_, by simp, fun _ h => ?_,
          fun _ _ => ⟨w, leads.mem, fun v hv => ?_, rfl, rfl, rfl⟩, fun h => absurd rfl h, fun h => absurd rfl h⟩
        · rw [Arb.preempt_table, Arb.push_get, if_pos rfl, Arb.leave_table, hbx]
          rfl
        · simp [hne, Demand.pushed, PostArgs.renewed, bump]
        · rw [Arb.preempt_table, Arb.push_get, if_neg hyx, Arb.leave_table, hby hyx]
        · exact absurd (h w' hw') (not_le.mpr hl')
        · exact lvl hv ▸ lvl leads.mem ▸ leads.le hv
      · push Not at hw
        rw [Arb.renew_stays held (fun _ w hwin => (lvl (Arb.winner_leads hwin).mem).symm ▸ hw w (Arb.winner_leads hwin).mem)
          (fun o ho hne => absurd (Option.some.inj (ho.symm.trans active)) hne)]
        exact ⟨⟨p.renewed d, hbx, rfl, rfl, rfl, rfl, rfl, by simp [active, PostArgs.renewed]⟩, fun y hyx _ => hby hyx,
          by simp [mark], fun _ _ => ⟨active, rfl, rfl⟩, fun _ ⟨w, hm, hlt⟩ => absurd (hw w hm) (not_le.mpr hlt),
          fun h => absurd rfl h, fun h => absurd rfl h⟩
    · by_cases hl : a.level act < p.level
      · rw [Arb.renew_overtakes held active (Ne.symm hxa) hl]
        refine ⟨⟨p.renewed d, ?_, rfl, rfl, rfl, rfl, rfl, by simp [hxa, PostArgs.renewed]⟩, fun y hyx hya => ?_,
          by simp [hl], fun h => absurd h hxa, fun h => absurd h hxa, fun _ _ => ⟨rfl, rfl, rfl⟩,
          fun _ h => absurd h (not_le.mpr hl)⟩
        · rw [Arb.preempt_table, Arb.push_get, if_neg hxa, Arb.leave_table, hbx]
        · rw [Arb.preempt_table, Arb.push_get, if_neg hya, Arb.leave_table, hby hyx]
      · rw [Arb.renew_stays held (fun h => absurd (Option.some.inj (h.symm.trans active)) hxa)
          (fun o ho _ => Option.some.inj (active.symm.trans ho) ▸ not_lt.mp hl)]
        exact ⟨⟨p.renewed d, hbx, rfl, rfl, rfl, rfl, rfl, by simp [hxa, PostArgs.renewed]⟩, fun y hyx _ => hby hyx,
          by simp [mark, hxa, hl], fun h => absurd h hxa, fun h => absurd h hxa, fun _ h => absurd h hl,
          fun _ _ => ⟨active, rfl, rfl⟩⟩

/-- Settles O17: the end of the active demand by reselection, that of a waiting one by leaving its collection. -/
theorem reselectionPicksWinner : Obligations.ReselectionPicksWinner := by
  unfold Obligations.ReselectionPicksWinner
  intro a x ok
  have others (y : Slot) (h : y ≠ x) : (a.free x).1.table.get y = a.table.get y := Arb.free_get_ne a h
  refine ⟨fun active waits => ⟨Arb.free_get_self a x, others, ?_⟩,
    fun waiting => ⟨Arb.free_get_self a x, others, ?_⟩, fun free => by rw [Arb.free_of_free free]⟩
  · have held : a.table.get x ≠ none := (ok.placed x).mpr (.inl active)
    let b : Arb := { a with table := a.table.put x none, active := none }
    have lvl {v : Slot} (hv : v ∈ a.stack ++ a.queue) : b.level v = a.level v :=
      Arb.level_congr (a.table.get_put_ne (fun e : v = x => ok.not_waiting active (e ▸ hv)) none)
    obtain ⟨w, hw, leads⟩ := Arb.exists_winner (a := b) waits
    have reselects : b.reselect = ({ b.leave w with active := some w, expiring := false }, [⟨.active, w⟩]) := by
      rw [Arb.reselect, hw]
    rw [Arb.free_active held active, reselects]
    have mem := leads.mem
    have max := fun v (hv : v ∈ a.stack ++ a.queue) => lvl hv ▸ lvl mem ▸ leads.le hv
    obtain ⟨pre, post, split, hpre, -⟩ := leads
    have split' : a.stack ++ a.queue = pre ++ w :: post := split
    refine ⟨pre.length, w, by simp [split'], rfl, max, fun j v hj hv => ?_, rfl, rfl, rfl⟩
    rw [split', List.getElem?_append_left hj] at hv
    have hmem : v ∈ pre := List.mem_of_getElem? hv
    have hwait : v ∈ a.stack ++ a.queue := split' ▸ List.mem_append_left _ hmem
    exact lvl hwait ▸ lvl mem ▸ hpre v hmem
  · have idle : a.active ≠ some x := fun e => ok.not_waiting e waiting
    have held : a.table.get x ≠ none := (ok.placed x).mpr (.inr (List.mem_append.mp waiting))
    rw [Arb.free_waiting held idle]
    exact ⟨rfl, rfl, rfl, rfl⟩

end Sys2Proof.Machine
end

section
/-! What every operation keeps of the invariants, said once: `Keeps` for the changes of one block, for the demand table with
its reports, for the fans, the heater, the cuts, and for the propagation of a change. -/

namespace Sys2Proof.Machine

/-! ### The relation -/

/-- No run-on counts while the heater is on (R60). -/
def State.heaterDry (s : State) : Prop := 0 < s.frg.applied → s.frg.runOn = 0

/-- The phases in which DEFROST may be held. -/
def DefrostPhase.posts (d : DefrostPhase) : Prop := d = .posted ∨ d = .running ∨ d = .confirm ∨ d = .suspended

/-- A defrost that its posts are about goes on as one, and gets no end to be taken. -/
def Defrost.staysPosted (d e : Defrost) : Prop := d.phase.posts → e.phase.posts ∧ (d.endDue = none → e.endDue = none)

theorem Defrost.staysPosted.trans {d e f : Defrost} (h : d.staysPosted e) (g : e.staysPosted f) : d.staysPosted f :=
  fun hd => ⟨(g (h hd).1).1, (g (h hd).1).2 ∘ (h hd).2⟩

/-- No check is in flight in the states of a filter service (R134, R135). -/
def State.checkRests (s : State) : Prop :=
  s.osc.device = .servicePrepare ∨ s.osc.device = .filterService → s.flt.check.phase = .idle

/-- No run-on counts in FILTER_SERVICE (R61, R135). -/
def State.serviceDrained (s : State) : Prop := s.osc.device = .filterService → s.frg.runOn = 0

theorem State.serviceOk_iff {s : State} : s.serviceOk ↔ s.checkRests ∧ s.serviceDrained := Iff.rfl

/-- From `s` to `t` the invariants are kept. `still` asks that a defrost without a marked end stays one, as it does in all
but its own second and its end; `whole` asks for those that a change of device state or of manual ownership
breaks in passing, `heat` for the preheater interlock, which holds again once the change has been propagated. -/
structure Keeps (still whole heat : Bool) (s t : State) : Prop where
  pending : t.pending = s.pending
  tables : s.tablesOk → t.tablesOk
  ends : s.endMarked → t.endMarked
  posted : s.defrostPosted → t.defrostPosted
  histories : s.historiesOk → t.historiesOk
  frost : s.tablesOk → s.frostOk → t.frostOk
  zeros : s.zerosOk → t.zerosOk
  runs : s.tablesOk → s.arb.runsOk → t.arb.runsOk
  flight : s.flightOk → t.flightOk
  channels : t.dio.channels.length = s.dio.channels.length
  accumulator : s.flt.accumulator < 3600 → t.flt.accumulator < 3600
  dry : s.heaterDry → t.heaterDry
  waits : still = true → s.frg.defrost.staysPosted t.frg.defrost
  owned : whole = true → s.manualOwned → t.manualOwned
  demands : whole = true → s.demandsOk → s.arb.markTimed → t.demandsOk ∧ t.arb.markTimed
  rests : whole = true → s.checkRests → t.checkRests
  drained : whole = true → s.serviceDrained → t.serviceDrained
  heater : heat = true → s.heaterOk → t.heaterOk

theorem State.heaterOk.dry {s : State} (h : s.heaterOk) : s.heaterDry := h.2.2

theorem Keeps.refl (y w k : Bool) (s : State) : Keeps y w k s s where
  pending := rfl
  tables := id
  ends := id
  posted := id
  histories := id
  frost := fun _ => id
  zeros := id
  runs := fun _ => id
  flight := id
  channels := rfl
  accumulator := id
  dry := id
  waits := fun _ hd => ⟨hd, id⟩
  owned := fun _ => id
  demands := fun _ h m => ⟨h, m⟩
  rests := fun _ => id
  drained := fun _ => id
  heater := fun _ => id

theorem Keeps.trans {y w k : Bool} {s t u : State} (h : Keeps y w k s t) (g : Keeps y w k t u) : Keeps y w k s u where
  pending := g.pending.trans h.pending
  tables := g.tables ∘ h.tables
  ends := g.ends ∘ h.ends
  posted := g.posted ∘ h.posted
  histories := g.histories ∘ h.histories
  frost := fun ht hf => g.frost (h.tables ht) (h.frost ht hf)
  zeros := g.zeros ∘ h.zeros
  runs := fun ht hr => g.runs (h.tables ht) (h.runs ht hr)
  flight := g.flight ∘ h.flight
  channels := g.channels.trans h.channels
  accumulator := g.accumulator ∘ h.accumulator
  dry := g.dry ∘ h.dry
  waits := fun e => (h.waits e).trans (g.waits e)
  owned := fun e => g.owned e ∘ h.owned e
  demands := fun e hd hm => g.demands e (h.demands e hd hm).1 (h.demands e hd hm).2
  rests := fun e => g.rests e ∘ h.rests e
  drained := fun e => g.drained e ∘ h.drained e
  heater := fun e => g.heater e ∘ h.heater e

/-- The interlock given up, and the rest. -/
theorem Keeps.cold {y w k : Bool} {s t : State} (h : Keeps y w k s t) : Keeps y w false s t :=
  { h with heater := by simp }

theorem Keeps.loose {y w k : Bool} {s t : State} (h : Keeps y w k s t) : Keeps y false false s t :=
  { h with owned := by simp, demands := by simp, rests := by simp, drained := by simp, heater := by simp }

/-- A change made in several steps, on the whole. -/
theorem Keeps.whole {y k : Bool} {s t : State} (h : Keeps y false k s t) (owned : s.manualOwned → t.manualOwned)
    (demands : s.demandsOk → s.arb.markTimed → t.demandsOk ∧ t.arb.markTimed) (rests : s.checkRests → t.checkRests)
    (drained : s.serviceDrained → t.serviceDrained) :
    Keeps y true k s t :=
  { h with owned := fun _ => owned, demands := fun _ => demands, rests := fun _ => rests, drained := fun _ => drained }

/-- The interlock through a change made in several steps. -/
theorem Keeps.warm {y w k : Bool} {s t : State} (h : Keeps y w k s t) (heater : s.heaterOk → t.heaterOk) : Keeps y w true s t :=
  { h with heater := fun _ => heater }

/-- A step that keeps the interlock too, among steps of which it need not be asked. -/
theorem Keeps.weaken {y w k : Bool} {s t : State} (h : Keeps y w true s t) : Keeps y w k s t :=
  { h with heater := fun _ => h.heater rfl }

/-! ### Changes of one block -/

section Blocks

variable {y w k : Bool} {r s : State}

theorem Keeps.updSup (h : Keeps y w k r s) {f : Sup → Sup} (ho : (f s.sup).owner = s.sup.owner) :
    Keeps y w k r (s.updSup f) :=
  h.trans { Keeps.refl y w k s with owned := fun _ hs hm => ho ▸ hs hm }

theorem Keeps.updLnk (h : Keeps y w k r s) {f : Lnk → Lnk} : Keeps y w k r (s.updLnk f) :=
  h.trans { Keeps.refl y w k s with }

theorem Keeps.updLink (h : Keeps y w k r s) {l : Link} {f : LinkRec → LinkRec} : Keeps y w k r (s.updLink l f) := h.updLnk

theorem Keeps.useFree (h : Keeps y w k r s) : Keeps y w k r s.useFree := h.trans { Keeps.refl y w k s with }

theorem Keeps.updDio (h : Keeps y w k r s) {f : Dio → Dio}
    (hl : (f s.dio).channels.length = s.dio.channels.length) : Keeps y w k r (s.updDio f) :=
  h.trans { Keeps.refl y w k s with channels := hl }

theorem Keeps.updHum (h : Keeps y w k r s) {f : Hum → Hum} (hf : s.flightOk → (s.updHum f).flightOk) :
    Keeps y w k r (s.updHum f) :=
  h.trans { Keeps.refl y w k s with flight := hf }

theorem Keeps.updFlt (h : Keeps y w k r s) {f : Flt → Flt} (hh : s.historiesOk → (s.updFlt f).historiesOk)
    (hz : (f s.flt).supply.zeroOffset = s.flt.supply.zeroOffset)
    (hx : (f s.flt).extract.zeroOffset = s.flt.extract.zeroOffset)
    (ha : s.flt.accumulator < 3600 → (f s.flt).accumulator < 3600)
    (hs : s.checkRests → (s.updFlt f).checkRests) : Keeps y w k r (s.updFlt f) :=
  h.trans { Keeps.refl y w k s with
    histories := hh, accumulator := ha, rests := fun _ => hs
    zeros := fun ⟨hp, hi⟩ => ⟨hp, fun i => by
      cases i with
      | supply => exact hz ▸ hi .supply
      | extract => exact hx ▸ hi .extract⟩ }

/-- The check record goes no further than the rules of the service states allow. -/
theorem Keeps.updCheck (h : Keeps y w k r s) {f : Check → Check}
    (hs : s.checkRests → (s.updCheck f).checkRests) : Keeps y w k r (s.updCheck f) :=
  h.updFlt id rfl rfl id hs

/-- FLT changes, but nothing that the invariants speak of. -/
theorem Keeps.updFltRest (h : Keeps y w k r s) {f : Flt → Flt} (hf : f s.flt = { f s.flt with
      supply := s.flt.supply, extract := s.flt.extract, check := s.flt.check, runHours := s.flt.runHours,
      accumulator := s.flt.accumulator, copy1 := s.flt.copy1, copy2 := s.flt.copy2, writing := s.flt.writing }) :
    Keeps y w k r (s.updFlt f) := by
  rw [show s.updFlt f = { s with flt := f s.flt } from rfl, hf]
  exact h.trans { Keeps.refl y w k s with }

/-- A check that is IDLE stays so. -/
theorem State.checkRests.updCheck {s : State} {f : Check → Check} (hs : s.checkRests)
    (hf : s.flt.check.phase = .idle → (f s.flt.check).phase = .idle) : (s.updCheck f).checkRests :=
  fun hd => hf (hs hd)

theorem State.checkRests.not_idle {s : State} (hs : s.checkRests) (hp : s.flt.check.phase ≠ .idle) :
    ¬ (s.osc.device = .servicePrepare ∨ s.osc.device = .filterService) := fun hd => hp (hs hd)

/-- A check that is in flight may go on as it likes: the device is in no service state. -/
theorem State.checkRests.updCheck_flying {s : State} {f : Check → Check} (hs : s.checkRests)
    (hp : s.flt.check.phase ≠ .idle) : (s.updCheck f).checkRests :=
  fun hd => absurd hd (hs.not_idle hp)

/-- OSC changes neither the device state nor the settings. -/
theorem Keeps.updOsc (h : Keeps y w k r s) {f : Osc → Osc} (hf : f s.osc = { f s.osc with
      device := s.osc.device, working := s.osc.working, inUse := s.osc.inUse }) : Keeps y w k r (s.updOsc f) := by
  rw [show s.updOsc f = { s with osc := f s.osc } from rfl, hf]
  exact h.trans { Keeps.refl y w k s with }

/-- Where the interlock's conditions stand, the duty and the request are as they were, and no forcing condition arises, the
interlock stays. -/
theorem State.heaterOk.congr {s t : State} (h : s.heaterOk) (ha : t.heaterAllowed = s.heaterAllowed)
    (hq : t.frg.request = s.frg.request) (hd : t.frg.applied = s.frg.applied)
    (hf : t.requestForced = true → s.requestForced = true) (hr : t.frg.runOn = s.frg.runOn ∨ t.frg.runOn = 0) :
    t.heaterOk := by
  obtain ⟨h1, h2, h3⟩ := h
  refine ⟨by rw [hd, hq, ha, h1], fun e => hq.trans (h2 (hf e)), fun e => ?_⟩
  rcases hr with hr | hr
  · exact hr.trans (h3 (hd ▸ e))
  · exact hr

/-- AFC changes with zero offsets in range. -/
theorem Keeps.updAfc_cold (h : Keeps y w k r s) {f : Afc → Afc} (hz : s.zerosOk → (s.updAfc f).zerosOk) :
    Keeps y w false r (s.updAfc f) :=
  h.cold.trans { Keeps.refl y w false s with zeros := hz, heater := by simp }

/-- AFC changes, the supply path regulating as before on the same flow. -/
theorem Keeps.updAfc (h : Keeps y w k r s) {f : Afc → Afc} (hz : s.zerosOk → (s.updAfc f).zerosOk)
    (hs : (f s.afc).supply.state.regulates = s.afc.supply.state.regulates)
    (hq : (f s.afc).supply.flow = s.afc.supply.flow) : Keeps y w k r (s.updAfc f) := by
  refine h.trans { Keeps.refl y w k s with
    zeros := hz, heater := fun _ ho => ho.congr ?_ rfl rfl id (.inl rfl) }
  unfold State.heaterAllowed
  rw [State.updAfc_afc, hs, hq]
  rfl

/-- FRG changes, but not its defrost record, load and imbalance, nor the heater. -/
theorem Keeps.updFrg (h : Keeps y w k r s) {f : Frg → Frg} (hf : f s.frg = { f s.frg with
      defrost := s.frg.defrost, load := s.frg.load, imbalance := s.frg.imbalance, applied := s.frg.applied,
      runOn := s.frg.runOn, request := s.frg.request, cutout := s.frg.cutout }) : Keeps y w k r (s.updFrg f) := by
  rw [show s.updFrg f = { s with frg := f s.frg } from rfl, hf]
  exact h.trans { Keeps.refl y w k s with }

/-- The heater's own fields change. -/
theorem Keeps.updHeater (h : Keeps y w k r s) {f : Frg → Frg} (hy : s.heaterDry → (s.updFrg f).heaterDry)
    (hs : s.serviceDrained → (s.updFrg f).serviceDrained) (hf : f s.frg = { f s.frg with
      defrost := s.frg.defrost, load := s.frg.load, imbalance := s.frg.imbalance }) : Keeps y w false r (s.updFrg f) := by
  rw [show s.updFrg f = { s with frg := f s.frg } from rfl, hf] at hy hs ⊢
  exact h.cold.trans { Keeps.refl y w false s with dry := hy, drained := fun _ => hs, heater := by simp }

/-- The load and the imbalance change within their ranges. -/
theorem Keeps.updLoad (h : Keeps y w k r s) {f : Frg → Frg} (hl : s.tablesOk → s.frostOk → (s.updFrg f).frostOk)
    (hf : f s.frg = { f s.frg with
      defrost := s.frg.defrost, applied := s.frg.applied, runOn := s.frg.runOn, request := s.frg.request,
      cutout := s.frg.cutout }) : Keeps y w k r (s.updFrg f) := by
  rw [show s.updFrg f = { s with frg := f s.frg } from rfl, hf] at hl ⊢
  exact h.trans { Keeps.refl y w k s with frost := hl }

/-- The defrost record changes; a defrost stays in progress, or out of progress. -/
theorem Keeps.updDefrost (h : Keeps y w k r s) {f : Defrost → Defrost} (he : s.endMarked → (s.updDefrost f).endMarked)
    (hp : s.defrostPosted → (s.updDefrost f).defrostPosted)
    (hw : y = true → s.frg.defrost.staysPosted (f s.frg.defrost))
    (hi : (f s.frg.defrost).phase.inProgress = true → s.frg.defrost.phase.inProgress = true) :
    Keeps y w k r (s.updDefrost f) := by
  refine h.trans { Keeps.refl y w k s with
    ends := he, posted := hp, waits := hw, heater := fun _ ho => ho.congr rfl rfl rfl (fun hf => ?_) (.inl rfl) }
  simp only [State.requestForced, Bool.or_eq_true] at hf ⊢
  exact hf.imp (.imp_right hi) id

/-- The defrost record changes where the heater is still to follow. -/
theorem Keeps.updDefrost_cold (h : Keeps y w k r s) {f : Defrost → Defrost} (he : r.endMarked → (s.updDefrost f).endMarked)
    (hp : s.defrostPosted → (s.updDefrost f).defrostPosted)
    (hw : y = true → s.frg.defrost.staysPosted (f s.frg.defrost)) : Keeps y w false r (s.updDefrost f) :=
  { h with ends := he, posted := hp ∘ h.posted, waits := fun e => (h.waits e).trans (hw e), heater := by simp }

/-! ### Notices, flags, captures -/

theorem Keeps.setFlag (h : Keeps y w k r s) {g : Flag} : Keeps y w k r (s.setFlag g) := h.updSup rfl

theorem Keeps.offerMain (h : Keeps y w k r s) {n : Notice} : Keeps y w k r (s.offerMain n) := by
  unfold State.offerMain
  dsimp only
  split
  · split
    · exact h.updLnk.setFlag
    · exact h.updLnk
  · exact h

theorem Keeps.offerService (h : Keeps y w k r s) {n : Notice} : Keeps y w k r (s.offerService n) := by
  unfold State.offerService
  dsimp only
  split
  · split
    · exact h.updLnk.setFlag
    · exact h.updLnk
  · exact h

theorem Keeps.raise (h : Keeps y w k r s) {n : NoticeKind} {x : Nat} {v : Int} : Keeps y w k r (s.raise n x v) :=
  h.offerMain.offerService

theorem Sup.offer_owner (u : Sup) (c : Capture) : (u.offer c).1.owner = u.owner := by
  unfold Sup.offer
  split <;> rfl

theorem Keeps.offerCapture (h : Keeps y w k r s) {c : Capture} : Keeps y w k r (s.offerCapture c) := by
  have taken : Keeps y w k r (s.updSup fun _ => (s.sup.offer c).1) := h.updSup (Sup.offer_owner _ _)
  unfold State.offerCapture
  dsimp only
  split
  · exact taken.raise
  · exact taken

theorem Keeps.faultEvent (h : Keeps y w k r s) {g : Flag} {x : Nat} {v : Int} : Keeps y w k r (s.faultEvent g x v) :=
  h.setFlag.offerCapture

/-! ### The demand table and its reports -/

/-- What a new table must keep in the device state at hand. -/
structure State.TableGoes (s : State) (b : Arb) : Prop where
  mark : s.arb.markTimed → b.markTimed
  runs : s.tablesOk → s.arb.runsOk → b.runsOk
  demands : s.demandsOk → s.arb.markTimed → (s.updArb fun _ => b).demandsOk
  defrost : b.table.defrost ≠ none → s.defrostPosted → (s.updArb fun _ => b).defrostPosted

theorem Keeps.updArb_cold {b : Arb} (h : Keeps y w k r s) (hb : s.TableGoes b)
    (ho : s.manualOwned → (s.updArb fun _ => b).manualOwned) : Keeps y w false r (s.updArb fun _ => b) :=
  h.cold.trans { Keeps.refl y w false s with
    runs := hb.runs, demands := fun _ hd hm => ⟨hb.demands hd hm, hb.mark hm⟩, heater := by simp, owned := fun _ => ho
    posted := fun hp hn => hb.defrost hn hp hn }

/-- A table in which MANUAL is not newly held. -/
theorem Keeps.updArb {b : Arb} (h : Keeps y w k r s) (hb : s.TableGoes b)
    (hm : b.table.manual ≠ none → s.arb.table.manual ≠ none) : Keeps y w k r (s.updArb fun _ => b) := by
  refine h.trans { Keeps.refl y w k s with
    runs := hb.runs, demands := fun _ hd hm => ⟨hb.demands hd hm, hb.mark hm⟩, owned := fun _ ho hn => ho (hm hn)
    posted := fun hp hn => hb.defrost hn hp hn
    heater := fun _ ho => ho.congr rfl rfl rfl (fun hf => ?_) (.inl rfl) }
  simp only [State.requestForced, Bool.or_eq_true, Arb.isFree, DemandTable.get, State.updArb_arb, Bool.not_eq_true',
    Option.isNone_eq_false_iff, Option.isSome_iff_ne_none] at hf ⊢
  exact hf.imp (.imp (.imp_right hm) id) id

/-- A new table while the device state is still to follow, or to be followed. -/
theorem Keeps.updArb_loose {b : Arb} (h : Keeps y w k r s) (hr : s.arb.runsOk → b.runsOk)
    (hd : b.table.defrost ≠ none → s.arb.table.defrost ≠ none) : Keeps y false false r (s.updArb fun _ => b) :=
  h.loose.trans { Keeps.refl y false false s with
    runs := fun _ => hr, posted := fun hp hn => hp (hd hn), owned := by simp, demands := by simp, rests := by simp
    drained := by simp,    heater := by simp }

theorem Arb.post_get_none (a : Arb) {x y : Slot} (h : y ≠ x) (p : PostArgs) (now : Nat) :
    (a.post x p now).1.table.get y = none ↔ a.table.get y = none := by
  have posted := a.post_posted x p now
  generalize a.post x p now = q at posted ⊢
  have filled (d : Demand) (e : Bool) : (a.filled x d e).table.get y = a.table.get y := a.filled_get_ne h d e
  have pushed (b : Arb) (o : Slot) (hb : b.table.get y = a.table.get y) :
      (b.push o).table.get y = none ↔ a.table.get y = none := by
    rw [Arb.push_get]
    split
    · next e =>
      subst e
      rw [Option.map_eq_none_iff, hb]
    · rw [hb]
  cases posted with
  | preempts => exact pushed _ _ (filled _ _)
  | waits => rw [show _ = a.table.get y from filled (p.demand now) a.expiring]
  | overtaken w d => exact pushed (Arb.leave _ w) _ (filled (p.renewed d) (a.markAfter x))
  | overtakes act d => exact pushed (Arb.leave _ x) _ (filled (p.renewed d) (a.markAfter x))
  | stays => rw [filled]

/-- Where only BASE can be held, every other slot is FREE. -/
theorem State.demandsOk.only_base {s : State} (h : s.demandsOk) (hd : s.osc.device.posting = false) {x : Slot}
    (hx : x ≠ .base) : s.arb.table.get x = none := by
  obtain ⟨ok, match_⟩ := h
  by_contra hn
  have st := (ok.placed x).mp hn
  cases e : s.osc.device <;> simp [e, DevState.posting] at hd match_ <;> simp [match_, hx, Ne.symm hx] at st

theorem State.demandsOk.posting_iff {s : State} (hd : s.osc.device.posting = true) :
    s.demandsOk ↔ ArbOk s.arb ∧ s.arb.active ≠ none := by
  unfold State.demandsOk
  cases e : s.osc.device <;> simp [e, DevState.posting] at hd ⊢

/-- A post in a posting state. -/
theorem State.TableGoes.post {x : Slot} {p : PostArgs} {now : Nat} (hx : x ≠ .base) (hd : s.osc.device.posting = true)
    (hr : s.tablesOk → ∀ n, p.run = some n → 1 ≤ n ∧ n ≤ 14400)
    (hf : x = .defrost → s.frg.defrost.phase = .posted ∨ s.frg.defrost.phase = .running ∨ s.frg.defrost.phase = .confirm
      ∨ s.frg.defrost.phase = .suspended) : s.TableGoes (s.arb.post x p now).1 where
  mark := fun mark => mark.post x p now
  runs := fun ht ⟨hr', hm⟩ => ⟨Arb.runsHave.post hr' x now (hr ht), Arb.markHas.post (Q := (· = some 1)) hm x p now⟩
  demands := fun h _ => (State.demandsOk.posting_iff (s := s.updArb fun _ => (s.arb.post x p now).1) hd).mpr
    ⟨h.1.post hx p now, Arb.post_active_ne ((State.demandsOk.posting_iff hd).mp h).2 x p now⟩
  defrost := fun hn hp _ => by
    by_cases e : x = .defrost
    · exact hf e
    · exact hp fun h => hn ((s.arb.post_get_none (Ne.symm e) p now).mpr h)

theorem State.TableGoes.free {x : Slot} (hx : s.demandsOk → s.arb.markTimed → x ≠ .base) : s.TableGoes (s.arb.free x).1 where
  mark := fun mark => mark.free x
  runs := fun _ ⟨hr, hm⟩ => ⟨Arb.runsHave.free hr x, Arb.markHas.free (Q := (· = some 1)) hm x⟩
  demands := fun h hm => by
    have hx := hx h hm
    cases hd : s.osc.device.posting with
    | true =>
      exact (State.demandsOk.posting_iff (s := s.updArb fun _ => (s.arb.free x).1) hd).mpr
        ⟨h.1.free hx, h.1.free_active_ne hx ((State.demandsOk.posting_iff hd).mp h).2⟩
    | false =>
      rw [Arb.free_of_free (h.only_base hd hx)]
      exact h
  defrost := fun hn hp _ => hp fun h => hn (by
    by_cases e : x = .defrost
    · exact e ▸ s.arb.free_get_self x
    · exact (Arb.free_get_ne s.arb (y := .defrost) (Ne.symm e)).trans h)

theorem Arb.free_manual {a : Arb} {x : Slot} (h : (a.free x).1.table.manual ≠ none) : a.table.manual ≠ none := by
  intro hn
  by_cases e : x = .manual
  · exact h (e ▸ a.free_get_self x)
  · exact h ((Arb.free_get_ne a (y := .manual) (Ne.symm e)).trans hn)

theorem Arb.post_manual {a : Arb} {x : Slot} (hx : x ≠ .manual) {p : PostArgs} {now : Nat}
    (h : (a.post x p now).1.table.manual ≠ none) : a.table.manual ≠ none :=
  fun hn => h ((a.post_get_none (y := .manual) (Ne.symm hx) p now).mpr hn)

theorem Keeps.recordCheckEnd (h : Keeps y w k r s) {o : CheckOutcome} : Keeps y w k r (s.recordCheckEnd o) :=
  h.updFlt id rfl rfl id fun _ _ => rfl

theorem Keeps.raiseFilterResult (h : Keeps y w k r s) : Keeps y w k r s.raiseFilterResult := h.raise

theorem Keeps.trySettle (h : Keeps y w k r s) : Keeps y w k r s.trySettle := by
  unfold State.trySettle
  split
  · next hp => exact h.updCheck fun hs => hs.updCheck_flying (by simp [hp.1])
  · exact h

theorem Keeps.freeCheckSlot (h : Keeps y w k r s) : Keeps y w k r (s.updArb fun a => (a.free .filterCheck).1) :=
  h.updArb (b := (s.arb.free .filterCheck).1) (.free (by simp)) Arb.free_manual

theorem Keeps.checkPreempted (h : Keeps y w k r s) : Keeps y w k r s.checkPreempted := by
  unfold State.checkPreempted
  dsimp only
  split
  · next hp =>
    have flying : s.flt.check.phase ≠ .idle := by rcases hp with hp | hp <;> simp [hp]
    have waits := fun f => h.updCheck (f := f) fun hs => hs.updCheck_flying flying
    split
    · exact (waits _).recordCheckEnd.freeCheckSlot.raiseFilterResult
    · exact waits _
  · exact h

theorem Keeps.discardCheck (h : Keeps y w k r s) : Keeps y w k r (s.updCheck Check.discard) := h.updCheck id

theorem Keeps.checkFreedByStandby (h : Keeps y w k r s) : Keeps y w k r s.checkFreedByStandby := by
  unfold State.checkFreedByStandby
  split
  · exact h
  · exact h.recordCheckEnd.discardCheck.raiseFilterResult

theorem Keeps.defrostActive (h : Keeps y w k r s) : Keeps y w k r s.defrostActive := by
  unfold State.defrostActive
  split
  · next hp =>
    exact (h.updDefrost (fun _ hn => absurd rfl hn) (fun _ _ => .inr (.inl rfl)) (fun _ _ => ⟨.inr (.inl rfl), fun _ => rfl⟩)
      fun _ => by simp [hp, DefrostPhase.inProgress]).raise
  · next hp =>
    exact h.updDefrost (fun _ hn => absurd rfl hn) (fun _ _ => .inr (.inl rfl)) (fun _ _ => ⟨.inr (.inl rfl), fun _ => rfl⟩)
      fun _ => by simp [hp, DefrostPhase.inProgress]
  all_goals exact h

theorem Keeps.defrostPreempted (h : Keeps y w k r s) : Keeps y w k r s.defrostPreempted := by
  unfold State.defrostPreempted
  split
  case h_1 hp | h_2 hp =>
    exact h.updDefrost (fun _ hn => absurd rfl hn) (fun _ _ => .inr (.inr (.inr rfl)))
      (fun _ _ => ⟨.inr (.inr (.inr rfl)), fun _ => rfl⟩) fun _ => by
      simp [hp, DefrostPhase.inProgress]
  all_goals exact h

theorem Keeps.takeReport (h : Keeps y w k r s) {q : Report} : Keeps y w k r (s.takeReport q) := by
  unfold State.takeReport
  split
  · exact h.defrostActive
  · exact h.defrostPreempted
  · exact h.trySettle
  · exact h.checkPreempted
  · exact h.checkFreedByStandby
  case h_12 | h_13 => exact h.updHum id
  case h_14 => exact h
  all_goals exact h.updDio rfl

theorem Keeps.takeReports {l : List Report} (h : Keeps y w k r s) : Keeps y w k r (l.foldl State.takeReport s) := by
  induction l generalizing s with
  | nil => exact h
  | cons q l ih => exact ih h.takeReport

/-- A change of the demand table takes effect. -/
theorem Keeps.applyArb {b : Arb × List Report} (h : Keeps y w k r (s.updArb fun _ => b.1)) : Keeps y w k r (s.applyArb b) := by
  unfold State.applyArb
  dsimp only
  refine Keeps.takeReports ?_
  split
  · exact h
  · exact h.raise

theorem Keeps.applyFree (h : Keeps y w k r s) {x : Slot} (hx : x ≠ .base) :
    Keeps y w k r (s.applyArb (s.arb.free x)) :=
  (h.updArb (.free fun _ _ => hx) Arb.free_manual).applyArb

theorem Keeps.withdraw (h : Keeps y w k r s) {x : Slot} (hx : x ≠ .base) : Keeps y w k r (s.withdraw x) :=
  h.applyFree hx

theorem Keeps.missed (h : Keeps y w k r s) : Keeps y w k r (s.updSup fun u => { u with missed := bump u.missed 255 }) := h.updSup rfl

theorem Keeps.watchTest (h : Keeps y w k r s) {x : Slot} {n : Nat} {p : PostArgs} {l : Option Link} :
    Keeps y w k r (s.watchTest x n p l).1 := by
  unfold State.watchTest
  split
  · split
    · exact h.missed
    · exact h.offerCapture
  · exact h

/-- The watch touches neither the device, the settings, the table nor FRG. -/
theorem State.watchTest_same (s : State) (x : Slot) (n : Nat) (p : PostArgs) (l : Option Link) :
    (s.watchTest x n p l).1.osc = s.osc ∧ (s.watchTest x n p l).1.arb = s.arb ∧ (s.watchTest x n p l).1.frg = s.frg := by
  unfold State.watchTest State.offerCapture
  dsimp only
  split
  · split
    · exact ⟨rfl, rfl, rfl⟩
    · dsimp only
      split <;> simp
  · exact ⟨rfl, rfl, rfl⟩

/-- A post on another slot than BASE and MANUAL. -/
theorem Keeps.postCore (h : Keeps y w k r s) {x : Slot} {n : Nat} {p : PostArgs} {l : Option Link} (hx : x ≠ .base)
    (hm : x ≠ .manual) (hr : s.tablesOk → ∀ n, p.run = some n → 1 ≤ n ∧ n ≤ 14400)
    (hf : x = .defrost → s.frg.defrost.phase.posts) : Keeps y w k r (s.postCore x n p l).1 := by
  unfold State.postCore
  dsimp only
  split
  · next hd =>
    split
    · exact h.watchTest
    · obtain ⟨ho, -, hg⟩ := s.watchTest_same x n p l
      refine (h.watchTest.updArb (.post hx (ho ▸ hd) (fun ht => hr ?_) fun e => hg ▸ hf e) (Arb.post_manual hm)).applyArb
      simpa only [State.tablesOk, ho] using ht
  · exact h

theorem Keeps.internalPost (h : Keeps y w k r s) {x : Slot} {n : Nat} {c : Carry} (hx : x ≠ .base)
    (hm : x ≠ .manual) (hf : x = .defrost → s.frg.defrost.phase.posts) :
    Keeps y w k r (s.internalPost x n c none).1 :=
  h.postCore hx hm (by simp) hf

/-! ### Fan paths -/

/-- A path is replaced, its zero offset kept. -/
theorem State.zerosOk.setPath {s : State} {i : PathId} {p : FanPath} (hz : s.zerosOk)
    (hp : -20 ≤ p.zeroOffset ∧ p.zeroOffset ≤ 20) : (s.updAfc (·.setPath i p)).zerosOk := by
  refine ⟨fun j => ?_, hz.2⟩
  by_cases e : j = i
  · subst e
    simpa using hp
  · simpa [Afc.path_setPath_ne _ e] using hz.1 j

theorem Keeps.movePath_cold (h : Keeps y w k r s) {i : PathId} {p : FanPath}
    (hp : p.zeroOffset = (s.afc.path i).zeroOffset) : Keeps y w false r (s.movePath i p) := by
  have moved : Keeps y w false r (s.updAfc (·.setPath i p)) := h.updAfc_cold fun hz => hz.setPath (hp ▸ hz.1 i)
  unfold State.movePath
  dsimp only
  split
  · exact moved
  · exact moved.raise

/-- A path whose state and flow stay. -/
theorem Keeps.movePath_still (h : Keeps y w k r s) {i : PathId} {p : FanPath}
    (hp : p.zeroOffset = (s.afc.path i).zeroOffset) (hs : p.state = (s.afc.path i).state)
    (hq : p.flow = (s.afc.path i).flow) : Keeps y w k r (s.movePath i p) := by
  unfold State.movePath
  dsimp only
  rw [if_pos hs]
  refine h.updAfc (fun hz => hz.setPath (hp ▸ hz.1 i)) ?_ ?_
  · cases i
    · exact congrArg PathState.regulates hs
    · rfl
  · cases i
    · exact hq
    · rfl

theorem FanPath.serve_zeroOffset (p : FanPath) (v : Serve) : (p.serve v).zeroOffset = p.zeroOffset :=
  (FanPath.SameSensor.serve p v).2.2.2.1

theorem Keeps.servePath (h : Keeps y w k r s) {i : PathId} : Keeps y w false r (s.servePath i) :=
  h.movePath_cold (FanPath.serve_zeroOffset _ _)

theorem Keeps.noteServed (h : Keeps y w k r s) {x : Option Slot} :
    Keeps y w false r (s.updAfc fun a => { a with served := x }) :=
  h.updAfc_cold fun hz => ⟨fun i => by
    have := hz.1 i
    cases i <;> exact this, hz.2⟩

theorem Keeps.serveFans (h : Keeps y w k r s) : Keeps y w false r s.serveFans :=
  Keeps.noteServed (h.servePath (i := .extract)).servePath

@[simp] theorem State.movePath_osc (s : State) (i : PathId) (p : FanPath) : (s.movePath i p).osc = s.osc := by
  unfold State.movePath
  dsimp only
  split
  · rfl
  · rw [State.raise_osc]
    rfl

@[simp] theorem State.movePath_arb (s : State) (i : PathId) (p : FanPath) : (s.movePath i p).arb = s.arb := by
  unfold State.movePath
  dsimp only
  split
  · rfl
  · rw [State.raise_arb]
    rfl

@[simp] theorem State.movePath_frg (s : State) (i : PathId) (p : FanPath) : (s.movePath i p).frg = s.frg := by
  unfold State.movePath
  dsimp only
  split
  · rfl
  · rw [State.raise_frg]
    rfl

@[simp] theorem State.serveFans_osc (s : State) : s.serveFans.osc = s.osc := by
  simp [State.serveFans, State.servePath]
@[simp] theorem State.serveFans_arb (s : State) : s.serveFans.arb = s.arb := by
  simp [State.serveFans, State.servePath]
@[simp] theorem State.serveFans_frg (s : State) : s.serveFans.frg = s.frg := by
  simp [State.serveFans, State.servePath]

/-! ### The heater -/

theorem Keeps.forceRequest (h : Keeps y w k r s) : Keeps y w false r s.forceRequest := by
  unfold State.forceRequest
  split
  · exact h.updHeater id id rfl
  · exact h.cold

theorem State.forceRequest_forced (s : State) (h : s.forceRequest.requestForced = true) : s.forceRequest.frg.request = 0 := by
  unfold State.forceRequest at h ⊢
  split
  · rfl
  · next hn =>
    rw [if_neg hn] at h
    exact absurd h hn

theorem Keeps.applyDuty (h : Keeps y w k r s) {n : Nat} : Keeps y w false r (s.applyDuty n) := by
  unfold State.applyDuty
  extract_lets old run out
  split
  · exact h.cold
  · split
    · refine h.updHeater (fun _ hn => absurd hn (by simp)) (fun hs hd => ?_) rfl
      have hd' : s.osc.device = .filterService := hd
      have cut : s.cutCondition = some .filterService := by simp [State.cutCondition, hd']
      simpa [run, cut] using hs hd'
    · split
      · exact h.updHeater (fun _ _ => rfl) (fun _ _ => rfl) rfl
      · next ho => exact Keeps.useFree (h.updHeater (fun hy _ => hy (Nat.pos_of_ne_zero ho)) id rfl)

theorem Keeps.deriveDuty (h : Keeps y w k r s) : Keeps y w false r s.deriveDuty := h.applyDuty

/-- The applied duty becomes `n`, and nothing that the interlock goes by but it and the run-on changes. -/
theorem State.applyDuty_same (s : State) (n : Nat) :
    (s.applyDuty n).frg.applied = n ∧ (s.applyDuty n).frg.request = s.frg.request
      ∧ (s.applyDuty n).heaterAllowed = s.heaterAllowed ∧ (s.applyDuty n).requestForced = s.requestForced := by
  unfold State.applyDuty
  extract_lets old run out
  split
  · next e => exact ⟨e.symm, rfl, rfl, rfl⟩
  · split
    · next e => exact ⟨e.symm, rfl, rfl, rfl⟩
    · split <;> exact ⟨rfl, rfl, rfl, rfl⟩

/-- Once the request is forced and the duty derived, the interlock holds. -/
theorem State.deriveDuty_heaterOk {s : State} (hf : s.requestForced = true → s.frg.request = 0) (hy : s.heaterDry) :
    s.deriveDuty.heaterOk := by
  obtain ⟨applied, request, allowed, forced⟩ := s.applyDuty_same (if s.heaterAllowed then s.frg.request else 0)
  refine ⟨?_, fun h => ?_, (Keeps.refl true false false s).deriveDuty.dry hy⟩
  · exact applied.trans (by rw [State.deriveDuty, allowed, request])
  · exact request.trans (hf (forced ▸ h))

/-! ### Device states, cuts and a check start -/

theorem Keeps.setDevice (h : Keeps y w k r s) {d : DevState} : Keeps y false false r (s.setDevice d) := by
  have moved : Keeps y false false s (s.updOsc fun o => { o with device := d }) :=
    { Keeps.refl y false false s with owned := by simp, demands := by simp, rests := by simp, drained := by simp, heater := by simp }
  exact (h.loose.trans moved).raise

@[simp] theorem State.setDevice_arb (s : State) (d : DevState) : (s.setDevice d).arb = s.arb := by simp [State.setDevice]
@[simp] theorem State.setDevice_afc (s : State) (d : DevState) : (s.setDevice d).afc = s.afc := by simp [State.setDevice]
@[simp] theorem State.setDevice_frg (s : State) (d : DevState) : (s.setDevice d).frg = s.frg := by simp [State.setDevice]
@[simp] theorem State.setDevice_flt (s : State) (d : DevState) : (s.setDevice d).flt = s.flt := by simp [State.setDevice]
@[simp] theorem State.setDevice_sup_owner (s : State) (d : DevState) : (s.setDevice d).sup.owner = s.sup.owner := by
  simp [State.setDevice]
@[simp] theorem State.setDevice_osc (s : State) (d : DevState) : (s.setDevice d).osc = { s.osc with device := d } := by
  simp [State.setDevice]

/-- From a state that is not RUNNING to another, the interlock stays. -/
theorem State.heaterOk.leftIdle {s t : State} (h : s.heaterOk) (hs : s.osc.device ≠ .running) (ht : t.osc.device ≠ .running)
    (hf : t.frg = s.frg) : t.heaterOk := by
  refine h.congr ?_ (by rw [hf]) (by rw [hf]) (fun _ => by simp [State.requestForced, hs]) (.inl (by rw [hf]))
  simp only [State.heaterAllowed, beq_false_of_ne hs, beq_false_of_ne ht, Bool.false_and]

/-- SERVICE_PREPARE passes to FILTER_SERVICE once no run-on counts. -/
theorem Keeps.enterFilterService (h : Keeps y w k r s) (hd : s.osc.device = .servicePrepare) (hr : s.frg.runOn = 0) :
    Keeps y w k r s.enterFilterService := by
  have moved : Keeps y w k s (s.updOsc fun o => { o with device := .filterService }) :=
    { Keeps.refl y w k s with
      demands := fun _ hs hm => ⟨(State.demandsOk.posting_iff (s := s.updOsc fun o => { o with device := .filterService })
        rfl).mpr ((State.demandsOk.posting_iff (s := s) (by simp [hd, DevState.posting])).mp hs), hm⟩
      rests := fun _ hs _ => hs (.inl hd)
      drained := fun _ _ _ => hr
      heater := fun _ hs => hs.leftIdle (by simp [hd]) (by simp) rfl }
  exact Keeps.updFltRest (h.trans moved).raise rfl

theorem Arb.enterStandby_alone {a : Arb} (h : a.active = some .base ∧ a.stack = [] ∧ a.queue = []) :
    a.enterStandby.active = none ∧ a.enterStandby.stack = [] ∧ a.enterStandby.queue = [.base] := by
  simp [Arb.enterStandby, h.2.1, h.2.2]

/-- The device enters STANDBY from STOPPING. -/
theorem Keeps.enterStandby (h : Keeps y true k r s) (hd : s.osc.device = .stopping) : Keeps y true k r s.enterStandby := by
  let t := (s.setDevice .standby).updArb fun _ => (s.setDevice .standby).arb.enterStandby
  have arb : t.arb = s.arb.enterStandby := by simp [t]
  have loose : Keeps y false false s t := by
    refine (Keeps.refl y false false s).setDevice.updArb_loose (fun hr => ?_) id
    rw [State.setDevice_arb] at hr ⊢
    exact ⟨hr.1, Arb.markHas.ofFalse (Q := (· = some 1)) (a := s.arb.enterStandby) rfl⟩
  have all : Keeps y true true s t := by
    refine (loose.whole (fun ho hn => ?_) (fun ⟨ok, alone⟩ _ => ?_) (fun _ hd => ?_) fun _ hd => ?_).warm fun hs => ?_
    · have hn' : s.arb.table.manual ≠ none := by rw [arb] at hn; exact hn
      simpa [t] using ho hn'
    · obtain ⟨ha, hs, hq⟩ : s.arb.active = some .base ∧ s.arb.stack = [] ∧ s.arb.queue = [] := by simpa [hd] using alone
      have ok' : ArbOk t.arb := arb ▸ ok.enterStandby ha hs hq
      have alone' := Arb.enterStandby_alone ⟨ha, hs, hq⟩
      rw [← arb] at alone'
      have standby : t.osc.device = .standby := by simp [t]
      exact ⟨⟨ok', by simpa [standby] using alone'⟩, Arb.markHas.ofFalse (by rw [arb]; rfl)⟩
    · simp [t] at hd
    · simp [t] at hd
    · exact hs.leftIdle (by simp [hd]) (by simp [t]) (by simp [t])
  exact Keeps.applyArb (h.trans all.weaken)

/-- The phase passes from PREPARE to POSTED. -/
theorem Keeps.defrostPosted (h : Keeps y w k r s) (hp : s.frg.defrost.phase = .prepare) :
    Keeps y w k r (s.updDefrost fun d => { d with phase := .posted }) := by
  refine h.updDefrost (fun he hn => ?_) (fun _ _ => .inl rfl)
    (fun _ hw => absurd hw (by simp [hp, DefrostPhase.posts])) fun _ => by simp [hp, DefrostPhase.inProgress]
  simpa [hp] using he hn

theorem Keeps.postDefrost (h : Keeps y w k r s) (hp : s.frg.defrost.phase.posts) : Keeps y w k r s.postDefrost :=
  h.internalPost (by decide) (by decide) fun _ => hp

theorem Keeps.tryDefrostPost (h : Keeps y w k r s) : Keeps y w k r s.tryDefrostPost := by
  unfold State.tryDefrostPost
  split
  · next hp => exact (h.defrostPosted hp.1).postDefrost (.inl rfl)
  · exact h

/-- STANDBY comes next only in RUNNING. -/
theorem State.standbyNext_running (h : s.standbyNext = true) : s.osc.device = .running := by
  unfold State.standbyNext at h
  split at h
  · split at h
    · simp only [Bool.and_eq_true, beq_iff_eq] at h
      exact h.1.1
    · simp at h
  · simp at h

theorem Keeps.postDefrostBeforeStandby (h : Keeps y w k r s) (hp : s.frg.defrost.phase.posts)
    (hd : s.osc.device = .running) : Keeps y w k r s.postDefrostBeforeStandby := by
  obtain ⟨ho, -, hg⟩ := s.watchTest_same .defrost 13
    { level := 13, origin := .internal, carry := .flows 0 (s.setting 11), run := none } none
  exact Keeps.applyArb (h.watchTest.updArb
    (.post (by simp) (by rw [ho, hd]; rfl) (by simp) fun _ => by rw [hg]; exact hp) (Arb.post_manual (by simp)))

theorem Keeps.defrostTimerEnd (h : Keeps y w k r s) : Keeps y w k r s.defrostTimerEnd := by
  unfold State.defrostTimerEnd
  split
  · next hc => exact (h.defrostPosted hc.1).postDefrostBeforeStandby (.inl rfl) (State.standbyNext_running hc.2.2)
  · exact h.tryDefrostPost

/-- What a change of the demand table leaves alone in the blocks that watch it. -/
structure State.TableOnly (s t : State) : Prop where
  osc : t.osc = s.osc
  afc : t.afc = s.afc
  frg : t.frg = { s.frg with defrost := t.frg.defrost }

theorem State.TableOnly.refl (s : State) : s.TableOnly s := ⟨rfl, rfl, rfl⟩

theorem State.TableOnly.trans {t u : State} (h : s.TableOnly t) (g : t.TableOnly u) : s.TableOnly u where
  osc := g.osc.trans h.osc
  afc := g.afc.trans h.afc
  frg := by
    have := g.frg
    rw [h.frg] at this
    exact this

/-- Blocks that stay as they are stay so. -/
theorem State.TableOnly.ofSame {t : State} (ho : t.osc = s.osc) (ha : t.afc = s.afc) (hf : t.frg = s.frg) :
    s.TableOnly t := ⟨ho, ha, by rw [hf]⟩

theorem State.TableOnly.raise (n : NoticeKind) (x : Nat) (v : Int) : s.TableOnly (s.raise n x v) :=
  .ofSame (by simp) (by simp) (by simp)

theorem State.TableOnly.updArb (f : Arb → Arb) : s.TableOnly (s.updArb f) := ⟨rfl, rfl, rfl⟩
theorem State.TableOnly.updFlt (f : Flt → Flt) : s.TableOnly (s.updFlt f) := ⟨rfl, rfl, rfl⟩
theorem State.TableOnly.updDefrost (f : Defrost → Defrost) : s.TableOnly (s.updDefrost f) := ⟨rfl, rfl, rfl⟩
theorem State.TableOnly.updDio (f : Dio → Dio) : s.TableOnly (s.updDio f) := ⟨rfl, rfl, rfl⟩
theorem State.TableOnly.updHum (f : Hum → Hum) : s.TableOnly (s.updHum f) := ⟨rfl, rfl, rfl⟩
theorem State.TableOnly.updSup (f : Sup → Sup) : s.TableOnly (s.updSup f) := ⟨rfl, rfl, rfl⟩

theorem State.TableOnly.trySettle : s.TableOnly s.trySettle := by
  unfold State.trySettle
  split
  · exact .updFlt _
  · exact .refl s

theorem State.TableOnly.checkPreempted : s.TableOnly s.checkPreempted := by
  unfold State.checkPreempted
  dsimp only
  split
  · split
    · exact (((State.TableOnly.updFlt _).trans (.updFlt _)).trans (.updArb _)).trans (.raise _ _ _)
    · exact .updFlt _
  · exact .refl s

theorem State.TableOnly.checkFreedByStandby : s.TableOnly s.checkFreedByStandby := by
  unfold State.checkFreedByStandby
  split
  · exact .refl s
  · exact ((State.TableOnly.updFlt _).trans (.updFlt _)).trans (.raise _ _ _)

theorem State.TableOnly.defrostActive : s.TableOnly s.defrostActive := by
  unfold State.defrostActive
  split
  · exact (State.TableOnly.updDefrost _).trans (.raise _ _ _)
  · exact .updDefrost _
  all_goals exact .refl s

theorem State.TableOnly.defrostPreempted : s.TableOnly s.defrostPreempted := by
  unfold State.defrostPreempted
  split
  case h_1 | h_2 => exact .updDefrost _
  all_goals exact .refl s

theorem State.TableOnly.takeReport (q : Report) : s.TableOnly (s.takeReport q) := by
  unfold State.takeReport
  split
  · exact .defrostActive
  · exact .defrostPreempted
  · exact .trySettle
  · exact .checkPreempted
  · exact .checkFreedByStandby
  case h_12 | h_13 => exact .updHum _
  case h_14 => exact .refl s
  all_goals exact .updDio _

theorem State.TableOnly.takeReports (l : List Report) : s.TableOnly (l.foldl State.takeReport s) := by
  induction l generalizing s with
  | nil => exact .refl s
  | cons q l ih => exact (State.TableOnly.takeReport q).trans ih

theorem State.TableOnly.applyArb (b : Arb × List Report) : s.TableOnly (s.applyArb b) := by
  unfold State.applyArb
  dsimp only
  refine State.TableOnly.trans ?_ (.takeReports _)
  split
  · exact .updArb _
  · exact (State.TableOnly.updArb _).trans (.raise _ _ _)

theorem State.TableOnly.watchTest (x : Slot) (n : Nat) (p : PostArgs) (l : Option Link) :
    s.TableOnly (s.watchTest x n p l).1 := by
  unfold State.watchTest State.offerCapture
  dsimp only
  split
  · split
    · dsimp only
      exact .updSup _
    · dsimp only
      split
      · exact (State.TableOnly.updSup _).trans (.raise _ _ _)
      · exact .updSup _
  · exact .refl s

theorem State.TableOnly.postCore (x : Slot) (n : Nat) (p : PostArgs) (l : Option Link) :
    s.TableOnly (s.postCore x n p l).1 := by
  unfold State.postCore
  dsimp only
  split
  · split
    · exact .watchTest x n p l
    · exact (State.TableOnly.watchTest x n p l).trans (.applyArb _)
  · exact .refl s

theorem State.TableOnly.defrostTimerEnd : s.TableOnly s.defrostTimerEnd := by
  unfold State.defrostTimerEnd State.tryDefrostPost
  split
  · exact ((State.TableOnly.updDefrost _).trans (.watchTest _ _ _ _)).trans (.applyArb _)
  · split
    · exact (State.TableOnly.updDefrost _).trans (.postCore _ _ _ _)
    · exact .refl s

/-- A report leaves the demand table, or frees FILTER_CHECK. -/
theorem State.takeReport_arb (s : State) (q : Report) :
    (s.takeReport q).arb = s.arb ∨ (s.takeReport q).arb = (s.arb.free .filterCheck).1 := by
  unfold State.takeReport
  split
  · refine .inl ?_
    unfold State.defrostActive
    split
    · rw [State.raise_arb]
      rfl
    all_goals rfl
  · refine .inl ?_
    unfold State.defrostPreempted
    split <;> rfl
  · refine .inl ?_
    unfold State.trySettle
    split <;> rfl
  · unfold State.checkPreempted
    dsimp only
    split
    · split
      · refine .inr ?_
        rw [State.raiseFilterResult, State.raise_arb]
        rfl
      · exact .inl rfl
    · exact .inl rfl
  · refine .inl ?_
    unfold State.checkFreedByStandby
    split
    · rfl
    · rw [State.raiseFilterResult, State.raise_arb]
      rfl
  all_goals exact .inl rfl

/-- A FREE slot stays FREE as the posters take their reports. -/
theorem State.takeReports_free {x : Slot} (l : List Report) (h : s.arb.table.get x = none) :
    (l.foldl State.takeReport s).arb.table.get x = none := by
  induction l generalizing s with
  | nil => exact h
  | cons q l ih =>
    refine ih ?_
    rcases s.takeReport_arb q with e | e
    · rwa [e]
    · rw [e]
      by_cases hx : x = .filterCheck
      · exact hx ▸ Arb.free_get_self _ _
      · rwa [Arb.free_get_ne _ hx]

theorem State.applyArb_free {x : Slot} {b : Arb × List Report} (h : b.1.table.get x = none) :
    (s.applyArb b).arb.table.get x = none := by
  unfold State.applyArb
  dsimp only
  refine State.takeReports_free _ ?_
  split
  · exact h
  · rw [State.raise_arb]
    exact h

/-- A slot is FREE once it is withdrawn. -/
theorem State.withdraw_free (x : Slot) : (s.withdraw x).arb.table.get x = none :=
  State.applyArb_free (s.arb.free_get_self x)

/-- What waits for the run-on goes on, once it is 0. -/
theorem Keeps.runOnEnded (h : Keeps y true k r s) (hr : s.frg.runOn = 0) : Keeps y true k r s.runOnEnded := by
  have tail := State.TableOnly.defrostTimerEnd (s := s)
  have run : s.defrostTimerEnd.frg.runOn = 0 := by rw [tail.frg]; exact hr
  unfold State.runOnEnded
  dsimp only
  split
  case h_1 hd => exact h.defrostTimerEnd.enterStandby hd
  case h_2 hd => exact h.defrostTimerEnd.enterFilterService hd run
  all_goals exact h.defrostTimerEnd

theorem Keeps.cutRunOn (h : Keeps y true k r s) : Keeps y true k r s.cutRunOn := by
  have stopped : Keeps y true k s (s.updFrg fun g => { g with runOn := 0 }) :=
    { Keeps.refl y true k s with
      dry := fun _ _ => rfl, drained := fun _ _ _ => rfl
      heater := fun _ hs => hs.congr rfl rfl rfl id (.inr rfl) }
  unfold State.cutRunOn
  split
  · exact h
  · dsimp only
    split
    · refine Keeps.runOnEnded (h.trans stopped).faultEvent ?_
      rw [State.faultEvent_frg]
      rfl
    · exact h

/-- A scheduled or prompted start, in RUNNING, where FLT may post. -/
theorem Keeps.startCheck (h : Keeps y w k r s) {c : CheckTrigger} (hd : s.osc.device = .running) :
    Keeps y w k r (s.startCheck c).1 := by
  have free {t : State} (ht : t.osc.device = .running) (f : Check → Check) : t.checkRests → (t.updCheck f).checkRests :=
    fun _ hd => by simp [ht] at hd
  unfold State.startCheck
  extract_lets s1 before s2 p
  have started (f : Check → Check) : Keeps y w k r (s.updCheck f) := h.updCheck (free hd f)
  split
  · exact Keeps.raiseFilterResult (Keeps.recordCheckEnd (started _))
  · have posted : Keeps y w k r p.1 := Keeps.internalPost (started _) (by decide) (by decide) (by simp)
    have running : p.1.osc.device = .running := by
      rw [show p.1.osc = s2.osc from (State.TableOnly.postCore _ _ _ _).osc]
      exact hd
    split
    · exact (posted.updCheck (free running _)).trySettle
    · dsimp only
      exact posted.updCheck (free running _)

theorem Keeps.noteStartTest (h : Keeps y w k r s) {b : Bool} : Keeps y w k r (s.updFlt fun t => { t with startTestDue := b }) :=
  h.updFltRest rfl

theorem Keeps.startTest (h : Keeps y w k r s) : Keeps y w k r s.startTest := by
  unfold State.startTest
  dsimp only
  split
  · split
    · next hc => exact h.noteStartTest.startCheck hc.2.2
    · exact h.noteStartTest
  · exact h

/-! ### The propagation of a change -/

/-- The heater's part of a round, after which the interlock holds. -/
theorem State.heaterDry.settles (h : s.heaterDry) : s.forceRequest.serveFans.deriveDuty.heaterOk := by
  refine State.deriveDuty_heaterOk (fun hf => ?_) ((Keeps.refl true true true s).forceRequest.serveFans.dry h)
  rw [State.serveFans_frg]
  refine s.forceRequest_forced ?_
  simpa [State.requestForced, State.heaterFitted, State.inUse] using hf

theorem Keeps.round (h : Keeps y true k r s) : Keeps y true true r s.round := by
  have cold : Keeps y true false r s.round := h.forceRequest.serveFans.deriveDuty.cutRunOn.startTest
  refine { cold with heater := fun _ hr => ?_ }
  have tail : Keeps y true true s.forceRequest.serveFans.deriveDuty s.round := (Keeps.refl y true true _).cutRunOn.startTest
  exact tail.heater rfl (h.dry hr.dry).settles

theorem Keeps.settleBlocks (h : Keeps y true k r s) : Keeps y true true r s.settleBlocks :=
  h.round.round.round.round

theorem Keeps.deriveStage (h : Keeps y w k r s) : Keeps y w k r s.deriveStage := by
  unfold State.deriveStage
  dsimp only
  split
  · exact h
  · exact Keeps.raise (h.updFrg rfl)

theorem Keeps.stagedRound (h : Keeps y true k r s) : Keeps y true true r s.stagedRound := h.round.deriveStage

/-- The propagation of a change keeps every invariant and brings the interlock back. -/
theorem Keeps.propagate (h : Keeps y true k r s) : Keeps y true true r s.propagate :=
  h.deriveStage.stagedRound.stagedRound.stagedRound.stagedRound

end Blocks

end Sys2Proof.Machine
end

section
/-! What the blocks' own operations keep of the invariants: ARB's posts and requests, AFC, FRG, HUM and FLT. -/

namespace Sys2Proof.Machine

/-! ### Values of a valid settings table (R182, R186) -/

/-- Every value of a valid table lies in its row's range. -/
theorem tableValid.inRow {t : List Int} (h : tableValid t = true) {id : Nat} {row : SettingRow}
    (hr : settingRow id = some row) : inRow row (settingVal t id) = true := by
  unfold settingRow at hr
  split at hr
  · simp at hr
  · next h0 =>
    simp only [tableValid, Bool.and_eq_true, beq_iff_eq] at h
    obtain ⟨⟨⟨⟨len, rows⟩, -⟩, -⟩, -⟩ := h
    have hi : id - 1 < settingRows.length := (List.getElem?_eq_some_iff.mp hr).1
    have hl : id - 1 < t.length := by
      have : settingRows.length = 84 := by decide
      omega
    have mem : (row, t[id - 1]) ∈ settingRows.zip t := by
      refine List.mem_of_getElem? (i := id - 1) ?_
      rw [List.getElem?_zip_eq_some]
      exact ⟨hr, List.getElem?_eq_getElem hl⟩
    have := List.all_eq_true.mp rows _ mem
    rwa [settingVal, if_neg h0, List.getD_eq_getElem?_getD, List.getElem?_eq_getElem hl, Option.getD_some]

theorem tableValid.range {t : List Int} (h : tableValid t = true) {id : Nat} {row : SettingRow}
    (hr : settingRow id = some row) : row.lo ≤ settingVal t id ∧ settingVal t id ≤ row.hi := by
  have := tableValid.inRow h hr
  simp only [Machine.inRow, Bool.and_eq_true, decide_eq_true_eq] at this
  exact this.1

/-- The run times of the inputs' posts are run times (R147, R182). -/
theorem State.tablesOk.inputRuns {s : State} (h : s.tablesOk) {id : Nat} (hid : id = 15 ∨ id = 16) :
    1 ≤ s.setting id ∧ s.setting id ≤ 14400 := by
  have h15 := tableValid.range h.1 (id := 15) (row := .num 60 7200 1200 .system) (by decide)
  have h16 := tableValid.range h.1 (id := 16) (row := .num 60 3600 300 .system) (by decide)
  simp only [SettingRow.num] at h15 h16
  rcases hid with rfl | rfl <;> simp only [State.setting, settingNat] <;> omega

/-- Half of a trip of load lies in the load's range (R55, R75). -/
theorem State.tablesOk.halfTrip {s : State} (h : s.tablesOk) : s.setting 32 / 2 ≤ 65535 := by
  have h32 := tableValid.range h.1 (id := 32) (row := .num 1000 30000 6000 .service) (by decide)
  simp only [SettingRow.num] at h32
  simp only [State.setting, settingNat]
  omega

section Blocks

variable {y w k : Bool} {r s : State}

/-! ### ARB -/

theorem Keeps.countRun (h : Keeps y w k r s) : Keeps y w k r (s.updArb Arb.countRun) := by
  have same (x : Slot) (hx : s.arb.countRun.table.get x ≠ none) : s.arb.table.get x ≠ none :=
    mt (s.arb.countRun_get_none x).mpr hx
  refine h.updArb (b := s.arb.countRun) ⟨fun hm => hm.countRun, fun _ hr => hr.countRun, fun hd _ => ⟨hd.1.countRun, ?_⟩,
    fun hn hp _ => hp (same .defrost hn)⟩ (same .manual)
  have := hd.2
  simp only [State.updArb_osc, State.updArb_arb, Arb.countRun_active, Arb.countRun_stack, Arb.countRun_queue]
  exact this

theorem Origin.clampRun_ok (o : Origin) (t : Option Nat) : ∀ n, o.clampRun t = some n → 1 ≤ n ∧ n ≤ 14400 := by
  intro n hn
  have clamped (x hi : Nat) (h1 : 1 ≤ hi) (h2 : hi ≤ 14400) : 1 ≤ clampN x 1 hi ∧ clampN x 1 hi ≤ 14400 := by
    unfold clampN
    split
    · omega
    · split <;> omega
  unfold Origin.clampRun at hn
  split at hn <;> cases hn
  · omega
  · exact clamped _ 3600 (by omega) (by omega)
  · omega
  · exact clamped _ 14400 (by omega) (by omega)

theorem Keeps.linkPost (h : Keeps y true k r s) {l : Link} {o : Origin} {x : Slot} {p : LinkPost} (hx : x ≠ .base)
    (hm : x ≠ .manual) (hd : x ≠ .defrost) : Keeps y true k r (s.linkPost l o x p).1 := by
  unfold State.linkPost
  extract_lets t q
  have posted : Keeps y true k r q.1 := h.postCore hx hm (fun _ => o.clampRun_ok p.run) (fun e => absurd e hd)
  generalize q = v at posted ⊢
  obtain ⟨t, a⟩ := v
  cases a with
  | ok =>
    dsimp only
    exact (Keeps.propagate (s := t) posted).weaken
  | blocked | refusedState => exact posted

theorem Keeps.cancel (h : Keeps y true k r s) {x : Slot} (hx : x ≠ .base) : Keeps y true true r (s.cancel x) :=
  (h.applyFree hx).propagate

theorem Origin.mayWrite_link {o : Origin} {x : Slot} (h : o.mayWrite x ≠ false) : x = .schedule ∨ x = .panel ∨ x = .service := by
  cases o <;> cases x <;> simp [Origin.mayWrite] at h ⊢

/-! ### AFC -/

theorem Keeps.readNozzle (h : Keeps y w k r s) {i : PathId} {q : Reading} : Keeps y w false r (s.readNozzle i q) := by
  unfold State.readNozzle
  extract_lets p p1 p2
  have same : p2.zeroOffset = (s.afc.path i).zeroOffset := by
    simp only [p2, p1, p]
    split
    · unfold FanPath.addZero
      split <;> rfl
    · rfl
  split
  · refine h.movePath_cold ?_
    split <;> exact same
  · split
    · exact h.movePath_cold same
    · refine h.faultEvent.movePath_cold ?_
      rw [State.faultEvent_afc]
      exact same

theorem Keeps.sensePath (h : Keeps y w k r s) {i : PathId} {q : Reading} {n : Nat} : Keeps y w false r (s.sensePath i q n) :=
  h.readNozzle.movePath_cold rfl

theorem FanPath.second_zeroOffset (p old : FanPath) (a b c : Nat) : (p.second old a b c).zeroOffset = p.zeroOffset := by
  have spin (p : FanPath) : p.spinTimes.zeroOffset = p.zeroOffset := by unfold FanPath.spinTimes; split <;> rfl
  have loop (p : FanPath) : (p.loop a b).zeroOffset = p.zeroOffset := by unfold FanPath.loop; split <;> rfl
  have good (p : FanPath) : (p.goodSecond c).zeroOffset = p.zeroOffset := by unfold FanPath.goodSecond; split <;> rfl
  have times (p : FanPath) (x y : Bool) : (p.conditionTimes c x y).zeroOffset = p.zeroOffset := by
    unfold FanPath.conditionTimes
    dsimp only
    split <;> split <;> repeat' (first | rfl | split)
  rw [FanPath.second, times, good, loop, spin]

theorem Keeps.regulatePath (h : Keeps y w k r s) {i : PathId} {old : FanPath} : Keeps y w false r (s.regulatePath i old) :=
  h.movePath_cold (FanPath.second_zeroOffset _ _ _ _ _)

theorem Keeps.stallPath (h : Keeps y true k r s) {i : PathId} {b : Bool} : Keeps y true true r (s.stallPath i b) := by
  refine Keeps.propagate (k := false) (h.faultEvent.movePath_cold ?_)
  rw [State.faultEvent_afc]
  rfl

theorem Keeps.shortfallPrompt (h : Keeps y w k r s) : Keeps y w k r s.shortfallPrompt := by
  unfold State.shortfallPrompt
  extract_lets quiet
  split
  · next hc => exact h.startCheck hc.1
  · exact h

theorem zeroResult_range (sum : Int) (b : Bool) : -20 ≤ (zeroResult sum b).1 ∧ (zeroResult sum b).1 ≤ 20 := by
  unfold zeroResult
  dsimp only
  split
  · simp
  · split
    · assumption
    · simp

theorem Keeps.zeroNozzle (h : Keeps y w k r s) {i : PathId} : Keeps y w false r (s.zeroNozzle i) := by
  unfold State.zeroNozzle
  extract_lets p z s1
  have moved : Keeps y w false r s1 := h.updAfc_cold fun hz => hz.setPath (zeroResult_range _ _)
  split
  · exact moved.faultEvent
  · exact moved

theorem Keeps.releasePath (h : Keeps y w k r s) {i : PathId} : Keeps y w false r (s.releasePath i) := by
  unfold State.releasePath
  extract_lets p p1
  split
  · refine h.movePath_cold ?_
    split <;> rfl
  · exact h.cold

/-! ### FRG -/

theorem Keeps.computeSubstitute (h : Keeps y w k r s) : Keeps y w k r s.computeSubstitute := h.updFrg rfl

theorem Defrost.passage_endDue {d : Defrost} (h : d.endDue = none) (n : Nat) : (d.passage n).endDue = none := by
  unfold Defrost.passage
  split
  · exact h
  · simp_all
  · simp_all

theorem Keeps.confirmExit (h : Keeps y w k r s) : Keeps y w k r s.confirmExit := by
  unfold State.confirmExit
  extract_lets warm
  split
  · next hp =>
    split
    · exact h
    · exact h.updDefrost (fun _ _ => .inl rfl) (fun _ _ => .inr (.inl rfl))
        (fun _ hw => ⟨.inr (.inl rfl), fun hn => Defrost.passage_endDue hn _⟩) fun _ => by simp [hp, DefrostPhase.inProgress]
  · exact h

theorem Keeps.confirmEntry (h : Keeps y w k r s) : Keeps y w k r s.confirmEntry := by
  unfold State.confirmEntry
  extract_lets warm
  split
  · next hp =>
    exact h.updDefrost (fun _ _ => .inr rfl) (fun _ _ => .inr (.inr (.inl rfl)))
      (fun _ hw => ⟨.inr (.inr (.inl rfl)), fun hn => Defrost.passage_endDue hn _⟩) fun _ => by
      simp [hp.1, DefrostPhase.inProgress]
  · exact h

theorem Keeps.afterRegime (h : Keeps y w k r s) {b : Regime} : Keeps y w k r (s.afterRegime b) := by
  unfold State.afterRegime
  split
  · exact h
  · refine Keeps.confirmExit ?_
    split
    · exact h.computeSubstitute
    · exact h

theorem Keeps.setChannel (h : Keeps y w k r s) {i : TempId} {c : Frg → TempChannel} :
    Keeps y w k r (s.updFrg fun g => g.setChannel i (c g)) := by
  cases i <;> exact h.updFrg rfl

theorem Keeps.readTemp (h : Keeps y w k r s) {i : TempId} {q : TempReading} : Keeps y w k r (s.readTemp i q) := by
  have read := h.setChannel (i := i) (c := fun _ => ((s.frg.channel i).take q).1)
  have faulted : Keeps y w k r (if ((s.frg.channel i).take q).2
      then (s.updFrg (·.setChannel i ((s.frg.channel i).take q).1)).faultEvent .tempFault (tempCode i) (tempRaw q)
      else s.updFrg (·.setChannel i ((s.frg.channel i).take q).1)) := by
    split
    · exact read.faultEvent
    · exact read
  unfold State.readTemp
  dsimp only
  split
  · exact faulted.afterRegime.confirmExit
  · exact faulted.afterRegime

theorem Keeps.invalidate (h : Keeps y w k r s) {i : TempId} : Keeps y w k r (s.invalidate i) :=
  (h.setChannel (i := i) (c := fun g => { g.channel i with status := .invalid })).afterRegime

theorem Keeps.evaluateMargin (h : Keeps y w k r s) : Keeps y w k r s.evaluateMargin := by
  rw [State.evaluateMargin_frame]
  exact h.updFrg rfl

theorem nextLoad_le {n : Nat} (h : n ≤ 65535) (g : Regime) (m t : Option Int) (q : Nat) : nextLoad n g m t q ≤ 65535 := by
  unfold nextLoad
  split
  · split <;> omega
  all_goals
    split
    · split
      · omega
      · split <;> omega
    · exact h

theorem Keeps.defrostTrigger (h : Keeps y true k r s) : Keeps y true k r s.defrostTrigger := by
  unfold State.defrostTrigger
  extract_lets s1
  split
  · next hp =>
    have idle : s.frg.defrost.phase = .idle := hp.1
    have prepared : Keeps y true false r s1 := h.updDefrost_cold
      (fun he hn => by simpa [idle] using h.ends he hn) (fun hd hn => by simpa [idle] using hd hn)
      (fun _ hw => absurd hw (by simp [idle, DefrostPhase.posts]))
    have settled := prepared.settleBlocks.tryDefrostPost
    exact settled.weaken
  · exact h

theorem Keeps.evaluateLoad (h : Keeps y true k r s) : Keeps y true k r s.evaluateLoad :=
  Keeps.confirmEntry (Keeps.defrostTrigger (h.updLoad (fun _ hf => ⟨nextLoad_le hf.1 _ _ _ _, hf.2⟩) rfl))

theorem Keeps.evaluateRequest (h : Keeps y true k r s) : Keeps y true true r s.evaluateRequest :=
  Keeps.settleBlocks (k := false) (h.updHeater id id rfl)

theorem Keeps.checkCapped (h : Keeps y w k r s) : Keeps y w k r s.checkCapped := by
  unfold State.checkCapped
  split
  · next hp => exact h.updCheck fun hs => hs.updCheck_flying (by rcases hp with e | e <;> simp [e])
  · exact h

theorem Keeps.setImbalance (h : Keeps y w k r s) {n : Nat} (hn : s.tablesOk → s.frostOk → n ≤ s.setting 30) :
    Keeps y w k r (s.setImbalance n) := by
  have set : Keeps y w k r (s.updFrg fun g => { g with imbalance := n }) := h.updLoad (fun ht hf => ⟨hf.1, hn ht hf⟩) rfl
  unfold State.setImbalance
  dsimp only
  split
  · exact set
  · split
    · exact set.checkCapped
    · exact set.trySettle

theorem nextImbalance_le {c n limit : Nat} (h : n ≤ limit) (m p : Int) (b : Bool) : (nextImbalance c n limit m p b).2 ≤ limit := by
  unfold nextImbalance
  split
  · split
    · split <;> simp
    · simp
  · split
    · simp
    · split <;> dsimp only <;> omega

theorem Keeps.evaluateImbalance (h : Keeps y w k r s) : Keeps y w k r s.evaluateImbalance := by
  unfold State.evaluateImbalance
  extract_lets q
  have bound (hf : s.frostOk) : q.2 ≤ s.setting 30 := by
    simp only [q]
    split
    · exact le_rfl
    · exact nextImbalance_le hf.2 _ _ _
    · exact hf.2
  split
  case h_1 | h_2 | h_3 => exact Keeps.setImbalance (h.updFrg rfl) fun _ hf => bound hf
  all_goals exact h

theorem Keeps.evaluateFrost (h : Keeps y true k r s) : Keeps y true true r s.evaluateFrost :=
  h.evaluateMargin.evaluateLoad.evaluateRequest.evaluateImbalance.deriveStage.propagate

theorem Keeps.defrostSecond (h : Keeps false w k r s) : Keeps false w k r s.defrostSecond := by
  unfold State.defrostSecond
  extract_lets d counting counts elapsed confirm
  have counted (hp : s.frg.defrost.phase = .running ∨ s.frg.defrost.phase = .confirm) {f : Defrost → Defrost}
      (hf : (f s.frg.defrost).phase = s.frg.defrost.phase) : Keeps false w k r (s.updDefrost f) := by
    refine h.updDefrost (fun _ _ => ?_) (fun hd hn => ?_) (by simp) fun hi => hf ▸ hi
    · exact hp.imp hf.trans hf.trans
    · have := hd hn
      exact hf.symm ▸ this
  split
  case h_1 hp | h_2 hp =>
    have running : s.frg.defrost.phase = .running ∨ s.frg.defrost.phase = .confirm := by
      first | exact .inl hp | exact .inr hp
    split
    · exact h
    · split
      · exact counted running rfl
      · split
        · exact counted running rfl
        · exact (counted running rfl).confirmEntry
  · exact h.updDefrost id id (by simp) id
  all_goals exact h

/-- DEFROST is withdrawn and the phase becomes LOCKOUT. -/
theorem Keeps.endDefrost (h : Keeps false true k r s) {e : DefrostEnd} {n : Nat} : Keeps false true true r (s.endDefrost e n) := by
  unfold State.endDefrost
  extract_lets s1 s2
  have withdrawn : Keeps false true k r s1 := h.withdraw (by decide)
  have ended : Keeps false true k r s2 := by
    refine withdrawn.updDefrost (fun _ hn => absurd rfl hn) (fun _ hn => absurd ?_ hn) (by simp)
      (by simp [DefrostPhase.inProgress])
    exact s.withdraw_free .defrost
  exact ended.raise.propagate

/-- DIO reports the cutout line. -/
theorem Keeps.reportCutout (h : Keeps y true k r s) {c : Contact} : Keeps y true true r (s.reportCutout c) := by
  have told : Keeps y true false r (s.updFrg fun g => { g with cutout := c }) :=
    h.cold.trans { Keeps.refl y true false s with heater := by simp }
  unfold State.reportCutout
  dsimp only
  split
  · exact told.propagate.faultEvent
  · exact told.propagate

theorem Keeps.startLoad (h : Keeps y w k r s) : Keeps y w k r s.startLoad := by
  unfold State.startLoad
  split
  · exact h.updLoad (fun ht hf => ⟨ht.halfTrip, hf.2⟩) rfl
  · exact h

/-- The post of a defrost that was SUSPENDED as the device returned to RUNNING, and still waits for it. -/
theorem Keeps.repostDefrost (h : Keeps y w k r s) {found : DefrostPhase} (hp : found = .suspended → s.frg.defrost.phase.posts ∧ (r.endMarked → s.frg.defrost.endDue = none)) :
    Keeps y w false r (s.repostDefrost found) := by
  unfold State.repostDefrost
  split
  · next hf =>
    split
    · exact h.cold.postDefrost (hp hf).1
    · refine Keeps.postDefrost (h.updDefrost_cold (fun he hn => ?_) (fun _ _ => .inl rfl)
        fun _ _ => ⟨.inl rfl, id⟩) (.inl rfl)
      exact absurd ((hp hf).2 he) hn
  · exact h.cold

/-! ### HUM -/

theorem Keeps.updSensor (h : Keeps y w k r s) {n : Nat} {f : Sensor → Sensor} : Keeps y w k r (s.updSensor n f) := by
  have same : (s.hum.updSensor n f).bus = s.hum.bus := by
    unfold Hum.updSensor
    split <;> rfl
  exact Keeps.updHum h fun hf => by
    rw [State.flightOk, State.updHum_hum, same]
    exact hf

theorem Keeps.deriveHumidity (h : Keeps y w k r s) : Keeps y w k r s.deriveHumidity := by
  unfold State.deriveHumidity
  dsimp only
  split
  · split
    · exact Keeps.setFlag (h.updHum id)
    · exact h.updHum id
  · exact h

theorem Keeps.tryHumidity (h : Keeps y w k r s) : Keeps y w k r s.tryHumidity := by
  unfold State.tryHumidity
  extract_lets q
  split
  · have posted : Keeps y w k r q.1 := h.internalPost (by decide) (by decide) (by simp)
    split
    · exact posted.updHum id
    · exact posted
  · exact h

theorem Keeps.tryDryness (h : Keeps y w k r s) : Keeps y w k r s.tryDryness := by
  unfold State.tryDryness
  extract_lets q
  split
  · have posted : Keeps y w k r q.1 := h.internalPost (by decide) (by decide) (by simp)
    split
    · exact posted.updHum id
    · exact posted
  · exact h

theorem Keeps.endHumidity (h : Keeps y w k r s) : Keeps y w k r s.endHumidity := by
  unfold State.endHumidity
  split
  · exact Keeps.withdraw (h.updHum id) (by decide)
  · exact h

theorem Keeps.endDryness (h : Keeps y w k r s) : Keeps y w k r s.endDryness := by
  unfold State.endDryness
  split
  · exact Keeps.withdraw (h.updHum id) (by decide)
  · exact h

theorem Keeps.startBoost (h : Keeps y w k r s) {n : Nat} {t : BoostTrigger} {p : Nat} : Keeps y w k r (s.startBoost n t p) := by
  unfold State.startBoost
  dsimp only
  split
  · exact h.updSensor.raise
  · exact h.updSensor.raise.tryHumidity

theorem Keeps.endBoost (h : Keeps y w k r s) {n : Nat} {f : Boost → Boost} : Keeps y w k r (s.endBoost n f) :=
  h.updSensor.raise.endHumidity

theorem Keeps.freshReading (h : Keeps y w k r s) {n rh : Nat} : Keeps y w k r (s.freshReading n rh) := by
  unfold State.freshReading
  dsimp only
  split
  · refine Keeps.deriveHumidity ?_
    split
    · split
      · split
        · split
          · exact h.startBoost
          · exact h
        · split
          · exact h.endBoost
          · exact h
        · exact h
      · exact h
    · exact h
  · exact h

theorem Keeps.entryLost (h : Keeps y w k r s) {n : Nat} : Keeps y w k r (s.entryLost n) := by
  unfold State.entryLost
  dsimp only
  split
  · split
    · exact h.updSensor.endBoost
    · exact h.updSensor.updSensor
    · exact h.updSensor
  · exact h.updSensor

theorem Keeps.evaluateDryness (h : Keeps y w k r s) : Keeps y w k r s.evaluateDryness := Keeps.endDryness (h.updHum id)

theorem Keeps.boostSecond (h : Keeps y w k r s) : Keeps y w k r s.boostSecond := h.updHum id

/-! ### The sensor bus -/

theorem Keeps.offerBus (h : Keeps y w k r s) {n : Nat} {q : BusKind} : Keeps y w k r (s.offerBus n q) := by
  refine h.updHum fun hf => ?_
  unfold State.flightOk Bus.offer
  dsimp only [State.updHum_hum]
  split <;> exact hf

theorem Keeps.setSensor (h : Keeps y w k r s) {n : Nat} {q : SensorState} {f : Sensor → Sensor} :
    Keeps y w k r (s.setSensor n q f) := h.updSensor.raise

theorem Keeps.enterProbing (h : Keeps y w k r s) {n : Nat} : Keeps y w k r (s.enterProbing n) :=
  h.setSensor.offerBus.deriveHumidity

theorem Keeps.loseSensor (h : Keeps y true k r s) {n o : Nat} : Keeps y true true r (s.loseSensor n o) := by
  unfold State.loseSensor
  dsimp only
  refine Keeps.propagate (k := k) (Keeps.deriveHumidity ?_)
  split
  · exact h.setSensor.faultEvent.entryLost
  · exact h.setSensor.faultEvent

theorem Keeps.probed (h : Keeps y w k r s) {n : Nat} {o : BusOutcome} : Keeps y w k r (s.probed n o) := by
  unfold State.probed
  dsimp only
  split
  · split
    · split
      · exact h.updSensor.setSensor.offerBus.deriveHumidity
      · split
        · exact h.updSensor.setSensor.deriveHumidity
        · exact h.updSensor.updSensor
    · exact h.updSensor
  · exact h.updSensor

theorem Keeps.measured (h : Keeps y true true r s) {n : Nat} {o : BusOutcome} {m : Option Measured} :
    Keeps y true true r (s.measured n o m) := by
  unfold State.measured
  dsimp only
  split
  · split
    · split
      · split
        · exact h.updSensor.updSensor.freshReading.propagate
        · exact h.updSensor.updSensor
      · split
        · exact h.updSensor.updSensor.loseSensor
        · exact h.updSensor.updSensor
    · exact h.updSensor
  · exact h.updSensor

/-- The controller leaves BUSY, or was not in it. -/
theorem State.flightOk.idle {s : State} (h : s.hum.bus.state ≠ .busy) : s.flightOk := fun e => absurd e h

theorem Keeps.busFault (h : Keeps y w k r s) {n : Nat} : Keeps y w k r (s.busFault n) :=
  Keeps.updHum (f := fun h => { h with bus := { h.bus with
      faults := bump h.bus.faults 255, timeouts := 0, state := .recovery, recovery := Config.recoveryMs,
      flight := releaseSequence } }) h.faultEvent fun _ => .idle (by simp)

theorem Keeps.completeHead (h : Keeps y w k r s) {n : Nat} {o : BusOutcome} {l : List BusItem} :
    Keeps y w k r (s.completeHead n o l) := by
  unfold State.completeHead
  extract_lets timeouts s1
  have done : Keeps y w k r s1 := h.updHum fun _ => .idle (by simp)
  split
  · exact done.busFault
  · exact done

theorem Keeps.stretched (h : Keeps y w k r s) {n : Nat} : Keeps y w k r (s.stretched n) := h.completeHead.useFree

theorem Keeps.pollRound (h : Keeps y w k r s) : Keeps y w k r s.pollRound := by
  unfold State.pollRound
  generalize sensorIndexes.filter _ = l
  induction l generalizing s with
  | nil => exact h
  | cons n l ih => exact ih h.offerBus

theorem Keeps.busSecond (h : Keeps y w k r s) : Keeps y w k r s.busSecond := by
  refine Keeps.useFree (h.updHum fun hf => ?_)
  unfold State.flightOk Bus.second
  dsimp only [State.updHum_hum]
  split <;> exact hf

end Blocks

end Sys2Proof.Machine
end

section
/-! What the blocks' own operations keep of the invariants: FLT, DIO and SUP. -/

namespace Sys2Proof.Machine

section Blocks

variable {y w k : Bool} {r s : State}

/-! ### Filter entries and their check -/

/-- A filter's record is replaced, its history and zero offset kept. -/
theorem Keeps.setFilter (h : Keeps y w k r s) {i : PathId} {f : Filter}
    (hd : f.data.history = (s.flt.filter i).data.history)
    (hz : f.zeroOffset = (s.flt.filter i).zeroOffset) : Keeps y w k r (s.updFlt (·.setFilter i f)) := by
  cases i with
  | supply =>
    refine Keeps.updFlt (f := fun t => { t with supply := f }) h (fun ⟨⟨runs, supply, extract⟩, rest⟩ => ?_) hz rfl id id
    exact ⟨⟨runs, hd.symm ▸ supply, extract⟩, rest⟩
  | extract =>
    refine Keeps.updFlt (f := fun t => { t with extract := f }) h (fun ⟨⟨runs, supply, extract⟩, rest⟩ => ?_) rfl hz id id
    exact ⟨⟨runs, supply, hd.symm ▸ extract⟩, rest⟩

theorem Filter.derive_history (f : Filter) (n : Nat) : (f.derive n).data.history = f.data.history := by
  unfold Filter.derive
  dsimp only
  split <;> rfl

theorem Keeps.deriveFilter (h : Keeps y w k r s) {i : PathId} : Keeps y w k r (s.deriveFilter i) := by
  have derived : Keeps y w k r (s.updFlt (·.setFilter i ((s.flt.filter i).derive (s.setting 64)))) :=
    h.setFilter (Filter.derive_history _ _) rfl
  unfold State.deriveFilter State.flagDue
  dsimp only
  split
  · exact derived
  · split
    · exact derived.raise.setFlag
    · exact derived.raise

theorem Keeps.deriveFilters (h : Keeps y w k r s) : Keeps y w k r s.deriveFilters := h.deriveFilter.deriveFilter

theorem Keeps.dueStartTest (h : Keeps y w k r s) : Keeps y w k r s.dueStartTest := h.updFltRest rfl

theorem Keeps.dueCheck (h : Keeps y w k r s) : Keeps y w k r s.dueCheck := Keeps.dueStartTest (h.updCheck id)

theorem Flt.startWrite_eq (t : Flt) : ∃ c1 c2 wr, c1.block = t.copy1.block ∧ c2.block = t.copy2.block ∧ wr.snapshot = t.block
    ∧ t.startWrite = { t with writing := some wr, again := false, copy1 := c1, copy2 := c2 } := by
  unfold Flt.startWrite
  dsimp only
  split
  · exact ⟨t.copy1.spoiled, t.copy2, _, rfl, rfl, rfl, rfl⟩
  · exact ⟨t.copy1, t.copy2.spoiled, _, rfl, rfl, rfl, rfl⟩

/-- The histories of a write are those of the table at its start. -/
theorem State.historiesOk.startWrite {s : State} {f : Flt → Flt} (hf : f s.flt = s.flt.startWrite) (hs : s.historiesOk) :
    (s.updFlt f).historiesOk := by
  obtain ⟨c1, c2, wr, e1, e2, ew, e⟩ := s.flt.startWrite_eq
  obtain ⟨block, first, second, -⟩ := hs
  unfold State.historiesOk
  rw [State.updFlt_flt, hf, e]
  refine ⟨block, e1.symm ▸ first, e2.symm ▸ second, ?_⟩
  rintro _ ⟨⟩
  exact ew.symm ▸ block

theorem Keeps.startWrite (h : Keeps y w k r s) {f : Flt → Flt} (hf : f s.flt = s.flt.startWrite) :
    Keeps y w k r (s.updFlt f) := by
  obtain ⟨c1, c2, wr, -, -, -, e⟩ := s.flt.startWrite_eq
  have e := hf.trans e
  refine h.updFlt (.startWrite hf) ?_ ?_ ?_ ?_
  · rw [e]
  · rw [e]
  · rw [e]
    exact id
  · unfold State.checkRests
    rw [State.updFlt_flt, e]
    exact id

theorem Keeps.persist (h : Keeps y w k r s) : Keeps y w k r s.persist := by
  unfold State.persist
  cases hw : s.flt.writing with
  | none => exact h.startWrite (by simp [hw])
  | some wr =>
    have e : (s.updFlt fun t => if t.writing.isSome then { t with again := true } else t.startWrite)
        = s.updFlt fun t => { t with again := true } := by
      simp [State.updFlt, hw]
    rw [e]
    exact h.updFltRest rfl

theorem Keeps.abandonCheck (h : Keeps y w k r s) {o : CheckOutcome} : Keeps y w k r (s.abandonCheck o) := by
  unfold State.abandonCheck
  split
  · exact h
  · exact (h.recordCheckEnd.discardCheck.withdraw (by decide)).raiseFilterResult

theorem Keeps.checkSecond (h : Keeps y w k r s) : Keeps y w k r s.checkSecond := by
  unfold State.checkSecond
  refine h.updCheck fun hs => hs.updCheck fun hp => ?_
  rw [hp]
  exact hp

/-- EVALUATE appends to both histories what is true of the hour (R125). -/
theorem historyOk.append {l : List (Nat × Nat)} {n : Nat} (h : historyOk l n) (p : Nat) :
    historyOk (historyAppend l (n, p)) n := by
  obtain ⟨short, sorted, past⟩ := h
  have tail : historyAppend l (n, p) = (if 8 ≤ l.length then l.drop 1 else l) ++ [(n, p)] := rfl
  have sub : (if 8 ≤ l.length then l.drop 1 else l).Sublist l := by
    split
    · exact List.drop_sublist 1 l
    · exact List.Sublist.refl l
  have len : (if 8 ≤ l.length then l.drop 1 else l).length ≤ 7 := by
    split
    · rw [List.length_drop]
      omega
    · omega
  rw [tail]
  refine ⟨by simp only [List.length_append, List.length_singleton]; omega, ?_, ?_⟩
  · rw [List.pairwise_append]
    exact ⟨sorted.sublist sub, List.pairwise_singleton _ _, by simpa using fun a b hm => past (a, b) (sub.mem hm)⟩
  · intro e he
    rcases List.mem_append.mp he with hm | hm
    · exact past e (sub.mem hm)
    · simp [List.mem_singleton.mp hm]

theorem FilterData.evaluate_history (d : FilterData) (p limit n : Nat) :
    (d.evaluate p limit n).history = historyAppend d.history (n, p) := by
  unfold FilterData.evaluate
  rfl

theorem Keeps.evaluateFilters (h : Keeps y w k r s) : Keeps y w k r s.evaluateFilters := by
  unfold State.evaluateFilters
  refine h.updFlt (fun ⟨⟨runs, supply, extract⟩, rest⟩ => ⟨⟨runs, ?_, ?_⟩, rest⟩) rfl rfl id id
  · exact FilterData.evaluate_history .. ▸ supply.append _
  · exact FilterData.evaluate_history .. ▸ extract.append _

theorem Keeps.completeCheck (h : Keeps y w k r s) : Keeps y w k r s.completeCheck := by
  have verified : Keeps y w k r (s.updFlt fun t => { t with supply := t.supply.verify, extract := t.extract.verify }) :=
    h.updFlt id rfl rfl id id
  unfold State.completeCheck
  extract_lets a b c
  have derived : Keeps y w k r b := verified.deriveFilters
  have ended : Keeps y w k r c := derived.recordCheckEnd.updCheck id
  exact (ended.withdraw (by decide)).persist.raiseFilterResult

/-! ### Run hours and seconds -/

theorem historyOk.mono {l : List (Nat × Nat)} {m n : Nat} (h : historyOk l m) (hn : m ≤ n) : historyOk l n :=
  ⟨h.1, h.2.1, fun e he => (h.2.2 e he).trans hn⟩

theorem Keeps.runHour (h : Keeps y true k r s) : Keeps y true true r s.runHour := by
  unfold State.runHour
  extract_lets a b c d
  have hour : Keeps y true k r a := by
    refine h.updFlt (fun ⟨⟨runs, supply, extract⟩, rest⟩ => ?_) rfl rfl id id
    have later : s.flt.runHours ≤ bump s.flt.runHours Config.last32 := by
      have : s.flt.runHours ≤ Config.last32 := runs
      unfold bump
      omega
    exact ⟨⟨by unfold bump; exact min_le_right _ _, supply.mono later, extract.mono later⟩, rest⟩
  have due : Keeps y true k r b := by
    unfold b
    split
    · exact hour.dueCheck
    · exact hour.dueStartTest
  have derived : Keeps y true k r d := due.startTest.deriveFilters
  refine Keeps.propagate (k := k) ?_
  split
  · exact derived.persist
  · exact derived

theorem Keeps.accumulate (h : Keeps y w k r s) : Keeps y w k r s.accumulate := by
  have same : s.flt.runSecond = { s.flt with
      accumulator := s.flt.runSecond.accumulator, hoursDue := s.flt.runSecond.hoursDue } := by
    unfold Flt.runSecond
    split <;> rfl
  unfold State.accumulate
  split
  · have e : s.updFlt Flt.runSecond = s.updFlt fun t => { t with
        accumulator := s.flt.runSecond.accumulator, hoursDue := s.flt.runSecond.hoursDue } := by
      simp only [State.updFlt]
      rw [same]
    rw [e]
    refine h.updFlt id rfl rfl (fun ha => ?_) id
    show s.flt.runSecond.accumulator < 3600
    unfold Flt.runSecond
    split
    · simp
    · dsimp only
      omega
  · exact h

theorem Keeps.serviceSecond (h : Keeps y w k r s) : Keeps y w k r (s.updFlt Flt.serviceSecond) := by
  have same : s.flt.serviceSecond = { s.flt with
      serviceTimer := s.flt.serviceSecond.serviceTimer, serviceEndDue := s.flt.serviceSecond.serviceEndDue } := by
    unfold Flt.serviceSecond
    split <;> rfl
  have e : s.updFlt Flt.serviceSecond = s.updFlt fun t => { t with
      serviceTimer := s.flt.serviceSecond.serviceTimer, serviceEndDue := s.flt.serviceSecond.serviceEndDue } := by
    simp only [State.updFlt]
    rw [same]
  rw [e]
  exact h.updFltRest rfl

/-! ### Filter sensors -/

theorem Filter.addZero_same (f : Filter) (q : Reading) :
    (f.addZero q).data = f.data ∧ (f.addZero q).zeroOffset = f.zeroOffset := by
  unfold Filter.addZero
  split <;> exact ⟨rfl, rfl⟩

theorem Keeps.readFilter (h : Keeps y w k r s) {i : PathId} {q : Reading} : Keeps y w k r (s.readFilter i q) := by
  unfold State.readFilter
  extract_lets filter zeroed reading faulted abandoned
  have same : reading.data = (s.flt.filter i).data ∧ reading.zeroOffset = (s.flt.filter i).zeroOffset := by
    unfold reading zeroed
    split
    · exact Filter.addZero_same _ _
    · exact ⟨rfl, rfl⟩
  have read (st : FilterSensorStatus) : Keeps y w k r (s.updFlt (·.setFilter i { reading with sensor := st })) :=
    h.setFilter (congrArg _ same.1) same.2
  have kept : Keeps y w k r (s.updFlt (·.setFilter i reading)) := h.setFilter (congrArg _ same.1) same.2
  split
  · split
    · exact (read _).deriveFilter.dueCheck.startTest
    · exact kept
  · split
    · exact kept
    · have ended : Keeps y w k r abandoned := (read _).faultEvent.abandonCheck
      exact Keeps.deriveFilter (ended.updCheck id)

theorem Keeps.setFilterZero (h : Keeps y w k r s) {i : PathId} {z : Int} (hz : -20 ≤ z ∧ z ≤ 20) :
    Keeps y w k r (s.updFlt (·.setFilter i { s.flt.filter i with zeroOffset := z })) := by
  refine h.trans { Keeps.refl y w k s with
    histories := by cases i <;> exact id
    accumulator := by cases i <;> exact id
    rests := fun _ => by cases i <;> exact id
    zeros := fun ⟨hp, hi⟩ => ⟨hp, fun j => ?_⟩ }
  have := hi j
  cases i <;> cases j
  case supply.supply | extract.extract => exact hz
  all_goals exact this

theorem Keeps.zeroFilter (h : Keeps y w k r s) {i : PathId} : Keeps y w k r (s.zeroFilter i) := by
  unfold State.zeroFilter
  extract_lets f z t
  have set : Keeps y w k r t := h.setFilterZero (zeroResult_range _ _)
  split
  · exact set.faultEvent
  · exact set

/-! ### Filter service and the door -/

/-- Between two states in which a demand is active, with no filter service entered. -/
theorem Keeps.changeDevice (h : Keeps y w k r s) {d : DevState} (hs : s.osc.device.posting = true)
    (hd : d = .running ∨ d = .doorOpen) : Keeps y w false r (s.setDevice d) := by
  have posting : d.posting = true := by rcases hd with rfl | rfl <;> rfl
  have moved : Keeps y w false s (s.updOsc fun o => { o with device := d }) :=
    { Keeps.refl y w false s with
      demands := fun _ ok hm => ⟨(State.demandsOk.posting_iff (s := s.updOsc fun o => { o with device := d }) posting).mpr
        ((State.demandsOk.posting_iff hs).mp ok), hm⟩
      rests := fun _ _ hn => by rcases hd with rfl | rfl <;> simp at hn
      drained := fun _ _ hn => by rcases hd with rfl | rfl <;> simp at hn
      heater := by simp }
  exact (h.cold.trans moved).raise

theorem Keeps.returnToRunning (h : Keeps y true k r s) (hd : s.osc.device.posting = true) :
    Keeps y true true r s.returnToRunning := by
  have running : Keeps y true false r (s.setDevice .running) := h.changeDevice hd (.inl rfl)
  unfold State.returnToRunning
  extract_lets t
  have entered : Keeps y true false r t := running.updFltRest rfl
  exact entered.propagate.tryHumidity.propagate.tryDryness.propagate.dueStartTest.propagate

theorem State.TableOnly.abandonCheck (o : CheckOutcome) : s.TableOnly (s.abandonCheck o) := by
  unfold State.abandonCheck
  split
  · exact .refl s
  · exact (((State.TableOnly.updFlt _).trans (.updFlt _)).trans (.applyArb _)).trans (.raise _ _ _)

theorem Keeps.enterDoorOpen (h : Keeps y true k r s) (hd : s.osc.device = .running) :
    Keeps y true true r s.enterDoorOpen := by
  have posting : (s.abandonCheck .door).osc.device.posting = true := by
    rw [(State.TableOnly.abandonCheck .door).osc, hd]
    rfl
  exact (h.abandonCheck.changeDevice posting (.inr rfl)).propagate.faultEvent.propagate

/-- A run-on that still counts in FILTER_SERVICE is cut, whatever the state before (R61). -/
theorem State.cutRunOn_drained (s : State) : s.cutRunOn.serviceDrained := by
  unfold State.cutRunOn
  split
  · next hc =>
    intro hd
    simp [State.cutCondition, hd] at hc
  · dsimp only
    split
    · exact ((Keeps.refl true true true _).runOnEnded (by simp)).drained rfl fun _ => by simp
    · next hr => exact fun _ => Nat.eq_zero_of_not_pos hr

theorem State.propagate_drained (s : State) : s.propagate.serviceDrained := by
  have first : s.deriveStage.round.serviceDrained :=
    (Keeps.refl true true true _).startTest.drained rfl (State.cutRunOn_drained _)
  have rest := (Keeps.refl true true true s.deriveStage.round).deriveStage.stagedRound.stagedRound.stagedRound
  exact rest.drained rfl first

/-- FILTER_SERVICE is entered with a run-on that still counts: what follows cuts it. -/
theorem Keeps.enterFilterService_cuts (h : Keeps y true k r s) (hd : s.osc.device = .servicePrepare) :
    Keeps y true k r s.enterFilterService.propagate := by
  let t := s.enterFilterService
  have entered : Keeps y false false s t := Keeps.updFltRest (Keeps.refl y false false s).setDevice rfl
  have follows : Keeps y true true t t.propagate := (Keeps.refl y true true t).propagate
  have device : t.osc.device = .filterService := by simp [t, State.enterFilterService]
  have arb : t.arb = s.arb := by simp [t, State.enterFilterService]
  refine h.trans ((((entered.trans follows.loose).whole (fun ho => follows.owned rfl fun hm => ?_) (fun hd hm => ?_)
    (fun hs => follows.rests rfl fun _ => ?_) fun _ => t.propagate_drained).warm fun hs => ?_).weaken)
  · have := ho (arb ▸ hm)
    simpa [t, State.enterFilterService] using this
  · refine follows.demands rfl ((State.demandsOk.posting_iff (s := t) (by rw [device]; rfl)).mpr ?_) (arb ▸ hm)
    rw [arb]
    exact (State.demandsOk.posting_iff (by rw [‹s.osc.device = _›]; rfl)).mp hd
  · have := hs (.inl hd)
    simpa [t, State.enterFilterService] using this
  · exact follows.heater rfl (hs.leftIdle (by simp [hd]) (by simp [device]) (by simp [t, State.enterFilterService]))

theorem Keeps.doorReport (h : Keeps y true k r s) {c : Contact} : Keeps y true k r (s.doorReport c) := by
  have reported : Keeps y true k r ((s.updFlt fun t => { t with door := c }).raise .door 0 (doorCode c)) :=
    Keeps.raise (h.updFltRest rfl)
  unfold State.doorReport
  extract_lets t
  have same : t.osc = s.osc := by simp [t]
  split
  case h_1 hd => exact (Keeps.enterDoorOpen (s := t) reported hd).weaken
  case h_2 hd => exact (Keeps.returnToRunning (s := t) reported (by rw [hd]; rfl)).weaken
  case h_3 hd => exact Keeps.enterFilterService_cuts (s := t) reported hd
  case h_4 hd =>
    split
    · exact (Keeps.returnToRunning (s := t) reported (by rw [hd]; rfl)).weaken
    · exact reported
  · exact reported

theorem Keeps.doorTest (h : Keeps y true k r s) : Keeps y true k r s.doorTest := by
  unfold State.doorTest
  split
  · next hc => exact (h.enterDoorOpen hc.1).weaken
  · exact h

/-! ### FILTER_OPEN and FILTER_CHANGED -/

theorem historyOk_nil (n : Nat) : historyOk [] n := ⟨Nat.zero_le _, List.Pairwise.nil, by simp⟩

theorem Keeps.changeFilter (h : Keeps y w k r s) {i : PathId} : Keeps y w k r (s.changeFilter i) := by
  unfold State.changeFilter
  cases i with
  | supply =>
    refine Keeps.updFlt (f := fun t => { t with supply := { t.supply with data := t.supply.data.changed } }) h ?_ rfl rfl id id
    exact fun ⟨⟨runs, _, extract⟩, rest⟩ => ⟨⟨runs, historyOk_nil _, extract⟩, rest⟩
  | extract =>
    refine Keeps.updFlt (f := fun t => { t with extract := { t.extract with data := t.extract.data.changed } }) h ?_ rfl rfl id id
    exact fun ⟨⟨runs, supply, _⟩, rest⟩ => ⟨⟨runs, supply, historyOk_nil _⟩, rest⟩

theorem Keeps.foldl {α : Type} {f : State → α → State} (hf : ∀ (t : State) (a : α), Keeps y w k r t → Keeps y w k r (f t a))
    (l : List α) (h : Keeps y w k r s) : Keeps y w k r (l.foldl f s) := by
  induction l generalizing s with
  | nil => exact h
  | cons a l ih => exact ih (hf s a h)

theorem Keeps.filtersChanged (h : Keeps y true k r s) {l : List PathId} : Keeps y true true r (s.filtersChanged l) := by
  have changed := Keeps.foldl (fun t i ht => Keeps.changeFilter (s := t) (i := i) ht) l h
  have derived := Keeps.foldl (fun t i ht => Keeps.deriveFilter (s := t) (i := i) ht) l changed
  exact derived.dueCheck.persist.propagate

/-! ### SUP -/

theorem Keeps.releaseFor (h : Keeps y w false r s) {was : FlagSet} {named : List Flag} {i : PathId} :
    Keeps y w false r (s.releaseFor was named i) := by
  unfold State.releaseFor
  split
  · exact h.releasePath
  · exact h

theorem Keeps.clearFlags (h : Keeps y w k r s) {named : List Flag} : Keeps y w false r (s.clearFlags named) := by
  have cleared : Keeps y w false r (s.updSup fun u => { u with flags := u.flags.putAll named false }) := h.cold.updSup rfl
  unfold State.clearFlags
  extract_lets was a b
  have released : Keeps y w false r b := cleared.releaseFor.releaseFor
  exact released.updSup rfl

theorem Keeps.releaseOwner (h : Keeps y true k r s) : Keeps y true true r s.releaseOwner := by
  let u := s.updSup fun u => { u with owner := none }
  have left : Keeps y false k s u :=
    { Keeps.refl y true k s with owned := by simp, demands := by simp, rests := by simp, drained := by simp }
  have freed : Keeps y true k u (u.withdraw .manual) := (Keeps.refl y true k u).withdraw (by decide)
  have released : Keeps y false k s (u.withdraw .manual) := left.withdraw (by decide)
  refine (h.trans (released.whole (fun _ hn => ?_) (freed.demands rfl) (freed.rests rfl) (freed.drained rfl))).propagate
  exact absurd (State.withdraw_free .manual) hn

theorem Keeps.postCore_manual (h : Keeps y true k r s) {n : Nat} {p : PostArgs} {l : Option Link} (ho : s.sup.owner ≠ none)
    (hr : ∀ n, p.run = some n → 1 ≤ n ∧ n ≤ 14400) :
    Keeps y true false r (s.postCore .manual n p l).1
      ∧ ((s.postCore .manual n p l).2 ≠ .ok → Keeps y true k r (s.postCore .manual n p l).1) := by
  obtain ⟨same, -, -⟩ := s.watchTest_same .manual n p l
  have owner := (SettledFrom.watchTest s .manual n p l).owner
  unfold State.postCore
  dsimp only
  split
  · next hd =>
    split
    · exact ⟨h.watchTest.cold, fun _ => h.watchTest⟩
    · refine ⟨Keeps.applyArb (h.watchTest.updArb_cold ?_ fun _ _ => ?_), fun hn => absurd rfl hn⟩
      · exact .post (by simp) (same ▸ hd) (fun _ => hr) (by simp)
      · exact owner ▸ ho
  · exact ⟨h.cold, fun _ => h⟩

theorem Keeps.postManual (h : Keeps y true k r s) {l : Link} {m : ManualOutputs} (ho : s.sup.owner ≠ none)
    (hr : ∀ n, m.run = some n → 1 ≤ n ∧ n ≤ 14400) : Keeps y true k r (s.postManual l m).1 := by
  unfold State.postManual
  extract_lets q
  obtain ⟨posted, refused⟩ : Keeps y true false r q.1 ∧ (q.2 ≠ .ok → Keeps y true k r q.1) := h.postCore_manual ho hr
  generalize q = v at posted refused ⊢
  obtain ⟨t, a⟩ := v
  cases a with
  | ok =>
    dsimp only
    exact (Keeps.propagate (s := t) posted).weaken
  | blocked | refusedState => exact refused (by simp)

/-! ### DIO -/

theorem Keeps.postInput (h : Keeps y w k r s) {i : BoostInput} {t : Option Nat}
    (ht : s.tablesOk → ∀ n, t = some n → 1 ≤ n ∧ n ≤ 14400) : Keeps y w k r (s.postInput i t).1 := by
  have posted : Keeps y w k r (s.internalPost i.slot (s.inputLevel i) (s.inputFlows i) t).1 :=
    h.postCore (by cases i <;> simp [BoostInput.slot]) (by cases i <;> simp [BoostInput.slot]) ht
      (by cases i <;> simp [BoostInput.slot])
  unfold State.postInput
  dsimp only
  split
  · exact posted.updDio (by cases i <;> rfl)
  · exact posted

theorem Keeps.postFire (h : Keeps y w k r s) : Keeps y w k r s.postFire := by
  unfold State.postFire
  dsimp only
  split
  · exact Keeps.updDio (h.internalPost (by decide) (by decide) (by simp)) rfl
  · exact h.internalPost (by decide) (by decide) (by simp)

theorem Keeps.inputAsserted (h : Keeps y true k r s) {i : BoostInput} : Keeps y true k r (s.inputAsserted i) := by
  unfold State.inputAsserted
  split
  · refine (h.postInput fun ht n hn => ?_).propagate.weaken
    split at hn <;> cases hn
    exact ht.inputRuns (.inl rfl)
  · exact h

theorem Keeps.inputDeasserted (h : Keeps y true k r s) {i : BoostInput} : Keeps y true k r (s.inputDeasserted i) := by
  unfold State.inputDeasserted
  split
  · have posted : Keeps y true k r (s.postInput i (some (s.setting 16))).1 := h.postInput fun ht n hn => by
      cases hn
      exact ht.inputRuns (.inr rfl)
    dsimp only
    split
    · exact posted.propagate.weaken
    · refine (Keeps.withdraw (posted.updDio ?_) ?_).propagate.weaken
      · cases i <;> rfl
      · cases i <;> simp [BoostInput.slot]
  · exact h

theorem Keeps.functionChanged (h : Keeps y true k r s) {f : InputFunction} {on : Bool} :
    Keeps y true k r (s.functionChanged f on) := by
  unfold State.functionChanged
  split
  · exact h.inputAsserted
  · exact h.inputDeasserted
  · exact h.inputAsserted
  · exact h.inputDeasserted
  · exact h.setFlag.postFire.propagate.weaken
  · exact (Keeps.withdraw (h.updDio rfl) (by decide)).propagate.weaken
  · exact h.doorReport
  · exact h.doorReport
  · exact h

theorem Keeps.functionEstablished (h : Keeps y true k r s) {f : InputFunction} :
    Keeps y true k r (s.functionEstablished f) := by
  cases f with
  | fire => exact h.setFlag
  | filterDoor => exact h.doorReport
  | none | boost | hood => exact h

theorem Keeps.updChannel (h : Keeps y w k r s) {n : Nat} {f : Channel → Channel} :
    Keeps y w k r (s.updDio fun d => d.updChannel n f) := by
  refine h.updDio ?_
  unfold Dio.updChannel
  split
  · rfl
  · exact List.length_modify ..

theorem Keeps.debounced (h : Keeps y true k r s) {n : Nat} {ch : Channel} : Keeps y true k r (s.debounced n ch) := by
  unfold State.debounced
  dsimp only
  split
  · exact h.updChannel
  · split
    · exact h.updChannel.functionEstablished
    · exact h.updChannel.functionChanged

theorem Keeps.inputPosts (h : Keeps y true k r s) : Keeps y true k r s.inputPosts := by
  have input {t : State} (ht : Keeps y true k r t) (i : BoostInput) : Keeps y true k r (t.entryInput i) := by
    unfold State.entryInput
    split
    · exact (ht.postInput (by simp)).propagate.weaken
    · exact ht
  have fire {t : State} (ht : Keeps y true k r t) : Keeps y true k r t.entryFire := by
    unfold State.entryFire
    split
    · exact ht.postFire.propagate.weaken
    · exact ht
  rw [State.inputPosts_eq]
  exact fire (input (input h _) _)

end Blocks

end Sys2Proof.Machine
end

section
/-! The settings table through a write (R184, R95): a table that is valid stays so, and only the value written changes. -/

namespace Sys2Proof.Machine

/-! ### One value replaced -/

theorem settingVal_set_ne {t : List Int} {id j : Nat} (h : j ≠ id) (v : Int) : settingVal (settingSet t id v) j = settingVal t j := by
  unfold settingVal settingSet
  split
  · rfl
  · split
    · rfl
    · next hj hid =>
      have apart : id - 1 ≠ j - 1 := by omega
      simp [List.getD_eq_getElem?_getD, List.getElem?_set_ne apart]

theorem settingVal_set_self {t : List Int} {id : Nat} (h0 : id ≠ 0) (hl : id ≤ t.length) (v : Int) :
    settingVal (settingSet t id v) id = v := by
  have hi : id - 1 < t.length := by omega
  simp [settingVal, settingSet, h0, List.getD_eq_getElem?_getD, List.getElem?_set_self hi]

@[simp] theorem settingSet_length (t : List Int) (id : Nat) (v : Int) : (settingSet t id v).length = t.length := by
  unfold settingSet
  split <;> simp

theorem settingRow_some {id : Nat} {row : SettingRow} (h : settingRow id = some row) : id ≠ 0 ∧ id ≤ 84 := by
  unfold settingRow at h
  split at h
  · simp at h
  · next h0 =>
    have : settingRows.length = 84 := by decide
    have := (List.getElem?_eq_some_iff.mp h).1
    omega

/-! ### What a valid table is -/

/-- A valid table, its values by their ids (R186). -/
theorem tableValid_iff {t : List Int} :
    tableValid t = true ↔ t.length = 84 ∧ (∀ id row, settingRow id = some row → inRow row (settingVal t id) = true)
      ∧ tiesHold t = true ∧ addressesDistinct t = true ∧ oneExtractDuct t = true := by
  have rows84 : settingRows.length = 84 := by decide
  constructor
  · intro h
    have byRow := fun id row (hr : settingRow id = some row) => tableValid.inRow h hr
    simp only [tableValid, Bool.and_eq_true, beq_iff_eq] at h
    obtain ⟨⟨⟨⟨len, -⟩, ties⟩, addresses⟩, ducts⟩ := h
    exact ⟨len, byRow, ties, addresses, ducts⟩
  · rintro ⟨len, byRow, ties, addresses, ducts⟩
    simp only [tableValid, Bool.and_eq_true, beq_iff_eq]
    refine ⟨⟨⟨⟨len, List.all_eq_true.mpr fun e he => ?_⟩, ties⟩, addresses⟩, ducts⟩
    obtain ⟨i, hi⟩ := List.mem_iff_getElem?.mp he
    obtain ⟨hr, hv⟩ := List.getElem?_zip_eq_some.mp hi
    have := byRow (i + 1) e.1 (by simpa [settingRow] using hr)
    simpa [settingVal, List.getD_eq_getElem?_getD, hv] using this

/-- The ties of R184. -/
theorem tiesHold_iff {t : List Int} : tiesHold t = true ↔ settingVal t 5 ≤ settingVal t 2 + settingVal t 4
    ∧ settingVal t 2 ≤ settingVal t 1 ∧ settingVal t 1 ≤ settingVal t 3 ∧ settingVal t 2 ≤ settingVal t 9 := by
  simp [tiesHold, and_assoc]

theorem heldElsewhere_iff {t : List Int} {ids : List Nat} {id : Nat} {v : Int} :
    heldElsewhere t ids id v = true ↔ ∃ j ∈ ids, j ≠ id ∧ settingVal t j = v := by
  simp [heldElsewhere]

/-- At most one place of `ids` holds each value but those that `free` names. -/
theorem onceEach_set {t : List Int} {ids : List Nat} {free : Int → Prop} {id : Nat} {v : Int} (hid : id ≠ 0)
    (hl : id ≤ t.length) (h : ∀ j ∈ ids, free (settingVal t j) ∨ ∀ i ∈ ids, i ≠ j → settingVal t i ≠ settingVal t j)
    (hv : id ∈ ids → free v ∨ ∀ i ∈ ids, i ≠ id → settingVal t i ≠ v) :
    ∀ j ∈ ids, free (settingVal (settingSet t id v) j)
      ∨ ∀ i ∈ ids, i ≠ j → settingVal (settingSet t id v) i ≠ settingVal (settingSet t id v) j := by
  intro j hj
  by_cases ej : j = id
  · subst ej
    rw [settingVal_set_self hid hl]
    refine (hv hj).imp_right fun hn i hi hij => ?_
    rw [settingVal_set_ne hij]
    exact hn i hi hij
  · rw [settingVal_set_ne ej]
    refine Classical.or_iff_not_imp_left.mpr fun hfree i hi hij => ?_
    by_cases ei : i = id
    · subst ei
      rw [settingVal_set_self hid hl]
      intro e
      rcases hv hi with hf | hn
      · exact hfree (e ▸ hf)
      · exact hn j hj ej e.symm
    · rw [settingVal_set_ne ei]
      exact (h j hj).resolve_left hfree i hi hij

theorem addressesDistinct_iff {t : List Int} : addressesDistinct t = true ↔
    ∀ j ∈ addressIds, settingVal t j = 0 ∨ ∀ i ∈ addressIds, i ≠ j → settingVal t i ≠ settingVal t j := by
  simp only [addressesDistinct, List.all_eq_true, Bool.or_eq_true, beq_iff_eq, Bool.not_eq_true',
    Bool.eq_false_iff, Ne, heldElsewhere_iff, not_exists, not_and]

theorem oneExtractDuct_iff {t : List Int} : oneExtractDuct t = true ↔
    ∀ j ∈ roleIds, settingVal t j ≠ 2 ∨ ∀ i ∈ roleIds, i ≠ j → settingVal t i ≠ settingVal t j := by
  simp only [oneExtractDuct, extractDuctCode, List.all_eq_true, Bool.or_eq_true, bne_iff_ne, Bool.not_eq_true',
    Bool.eq_false_iff, Ne, heldElsewhere_iff, not_exists, not_and]
  refine forall₂_congr fun j _ => ?_
  by_cases e : settingVal t j = 2
  · simp [e]
  · simp [e]

/-! ### A write -/

theorem clampI_range {x lo hi : Int} (h : lo ≤ hi) : lo ≤ clampI x lo hi ∧ clampI x lo hi ≤ hi := by
  unfold clampI
  split
  · omega
  · split <;> omega

/-- The settings that the ties of R184 speak of. -/
def tiedIds : List Nat := [1, 2, 3, 4, 5, 9]

theorem tiesHold_set_untied {t : List Int} {id : Nat} (h : id ∉ tiedIds) (v : Int) :
    tiesHold (settingSet t id v) = tiesHold t := by
  have other (j : Nat) (hj : j ∈ tiedIds) : settingVal (settingSet t id v) j = settingVal t j :=
    settingVal_set_ne (fun e => h (by rwa [← e])) v
  simp only [tiesHold, other 1 (by decide), other 2 (by decide), other 3 (by decide), other 4 (by decide),
    other 5 (by decide), other 9 (by decide)]

theorem settingRange_untied {id : Nat} (h : id ∉ tiedIds) (t : List Int) (row : SettingRow) :
    settingRange t id row = (row.lo, row.hi) := by
  unfold settingRange
  split
  case h_7 => rfl
  all_goals exact absurd (by decide) h

/-- The values that the ties speak of, in their ranges and tied. -/
theorem tableValid.tied {t : List Int} (h : tableValid t = true) :
    (40 ≤ settingVal t 1 ∧ settingVal t 1 ≤ 450) ∧ (40 ≤ settingVal t 2 ∧ settingVal t 2 ≤ 150)
      ∧ (100 ≤ settingVal t 3 ∧ settingVal t 3 ≤ 450) ∧ (0 ≤ settingVal t 4 ∧ settingVal t 4 ≤ 100)
      ∧ (40 ≤ settingVal t 5 ∧ settingVal t 5 ≤ 150) ∧ (40 ≤ settingVal t 9 ∧ settingVal t 9 ≤ 300)
      ∧ settingVal t 5 ≤ settingVal t 2 + settingVal t 4 ∧ settingVal t 2 ≤ settingVal t 1
      ∧ settingVal t 1 ≤ settingVal t 3 ∧ settingVal t 2 ≤ settingVal t 9 :=
  ⟨tableValid.range h (row := .num 40 450 110 .system) (by decide), tableValid.range h (row := .num 40 150 60 .service) (by decide),
    tableValid.range h (row := .num 100 450 300 .service) (by decide),
    tableValid.range h (row := .num 0 100 40 .service) (by decide), tableValid.range h (row := .num 40 150 80 .service) (by decide),
    tableValid.range h (row := .num 40 300 100 .system) (by decide), tiesHold_iff.mp (tableValid_iff.mp h).2.2.1⟩

/-- The row of a tied setting: a number, in a range that its ties leave not empty. -/
theorem settingRange_tied {t : List Int} (h : tableValid t = true) {id : Nat} (hid : id ∈ tiedIds) {row : SettingRow}
    (hr : settingRow id = some row) : row.kind = .number ∧ row.lo ≤ (settingRange t id row).1
      ∧ (settingRange t id row).1 ≤ (settingRange t id row).2 ∧ (settingRange t id row).2 ≤ row.hi := by
  obtain ⟨v1, v2, v3, v4, v5, v9, tie5, tie2, tie1, tie9⟩ := tableValid.tied h
  simp only [tiedIds, List.mem_cons, List.not_mem_nil, or_false] at hid
  rcases hid with rfl | rfl | rfl | rfl | rfl | rfl
  all_goals
    cases hr
    refine ⟨rfl, ?_⟩
    simp only [settingRange, settingRows, settingRowsA, SettingRow.num, List.cons_append, List.getElem_cons_zero,
      List.getElem_cons_succ]
    omega

/-- A value in the range that the ties leave keeps them. -/
theorem tiesHold_set_tied {t : List Int} (h : tableValid t = true) {id : Nat} (hid : id ∈ tiedIds) {row : SettingRow}
    (hr : settingRow id = some row) {x : Int} (lo : (settingRange t id row).1 ≤ x) (hi : x ≤ (settingRange t id row).2) :
    tiesHold (settingSet t id x) = true := by
  obtain ⟨-, -, -, -, -, -, tie5, tie2, tie1, tie9⟩ := tableValid.tied h
  have len : t.length = 84 := (tableValid_iff.mp h).1
  obtain ⟨h0, hl⟩ := settingRow_some hr
  have self := settingVal_set_self h0 (len ▸ hl) x
  have other (j : Nat) (hj : j ≠ id) := settingVal_set_ne (t := t) hj x
  simp only [tiedIds, List.mem_cons, List.not_mem_nil, or_false] at hid
  rw [tiesHold_iff]
  rcases hid with rfl | rfl | rfl | rfl | rfl | rfl
  all_goals
    simp only [settingRange] at lo hi
    simp [self, other]
    omega

/-- Every row has a range; an address goes from 0 to 119. -/
theorem settingRow_range {id : Nat} {row : SettingRow} (hr : settingRow id = some row) :
    row.lo ≤ row.hi ∧ (row.kind = .address → row.lo = 0 ∧ row.hi = 119) := by
  have all : ∀ row ∈ settingRows, row.lo ≤ row.hi ∧ (row.kind = .address → row.lo = 0 ∧ row.hi = 119) := by decide
  unfold settingRow at hr
  split at hr
  · simp at hr
  · exact all row (List.mem_of_getElem? hr)

/-- A value as taken lies in its row, and the ties hold with it. -/
theorem settingTaken_sound {t : List Int} (h : tableValid t = true) {id : Nat} {row : SettingRow}
    (hr : settingRow id = some row) {v x : Int} (hx : settingTaken t id row v = some x) :
    inRow row x = true ∧ tiesHold (settingSet t id x) = true := by
  obtain ⟨range, address⟩ := settingRow_range hr
  simp only [Machine.inRow, Bool.and_eq_true, Bool.or_eq_true, decide_eq_true_eq, bne_iff_ne, beq_iff_eq]
  unfold settingTaken at hx
  by_cases hid : id ∈ tiedIds
  · obtain ⟨number, lo, order, hi⟩ := settingRange_tied h hid hr
    rw [number] at hx
    cases hx
    have taken := clampI_range (x := v) order
    exact ⟨⟨⟨lo.trans taken.1, taken.2.trans hi⟩, by simp [number]⟩, tiesHold_set_tied h hid hr taken.1 taken.2⟩
  · refine ⟨?_, (tiesHold_set_untied hid x).trans (tableValid_iff.mp h).2.2.1⟩
    rw [settingRange_untied hid] at hx
    split at hx
    case h_1 hk =>
      cases hx
      exact ⟨clampI_range range, by simp [hk]⟩
    case h_2 hk | h_3 hk =>
      split at hx <;> cases hx
      exact ⟨by assumption, by simp [hk]⟩
    case h_4 hk =>
      have taken : 0 ≤ x ∧ x ≤ 119 ∧ (x = 0 ∨ 8 ≤ x) := by
        cases hx
        split_ifs <;> omega
      obtain ⟨e0, e1⟩ := address hk
      rw [e0, e1]
      exact ⟨⟨taken.1, taken.2.1⟩, by simpa [hk] using taken.2.2⟩

theorem tableValid.write {t : List Int} (h : tableValid t = true) (o : Origin) (id : Nat) (v : Int) :
    tableValid (writeSetting t o id v).2.1 = true := by
  obtain ⟨len, byRow, ties, addresses, ducts⟩ := tableValid_iff.mp h
  unfold writeSetting
  split
  · exact h
  · next row hr =>
    split
    · exact h
    · split
      · exact h
      · next x hx =>
        split
        · exact h
        · next clash =>
          obtain ⟨inside, tied⟩ := settingTaken_sound h hr hx
          obtain ⟨h0, hl⟩ := settingRow_some hr
          have hl : id ≤ t.length := len ▸ hl
          simp only [sensorClash, Bool.or_eq_true, Bool.and_eq_true, List.contains_iff_mem, bne_iff_ne, beq_iff_eq,
            heldElsewhere_iff, not_or] at clash
          obtain ⟨noAddress, noRole⟩ := clash
          dsimp only
          refine tableValid_iff.mpr ⟨by simpa using len, fun j rj hj => ?_, tied, ?_, ?_⟩
          · by_cases e : j = id
            · subst e
              rw [settingVal_set_self h0 hl, Option.some.inj (hj.symm.trans hr)]
              exact inside
            · rw [settingVal_set_ne e]
              exact byRow j rj hj
          · refine addressesDistinct_iff.mpr (onceEach_set (free := (· = 0)) h0 hl (addressesDistinct_iff.mp addresses) fun hid => ?_)
            refine Classical.or_iff_not_imp_left.mpr fun hv i hi hij e => noAddress ⟨⟨hid, hv⟩, i, hi, hij, e⟩
          · refine oneExtractDuct_iff.mpr (onceEach_set (free := (· ≠ 2)) h0 hl (oneExtractDuct_iff.mp ducts) fun hid => ?_)
            refine Classical.or_iff_not_imp_left.mpr fun hv i hi hij e => noRole ⟨⟨hid, not_not.mp hv⟩, i, hi, hij, e⟩

/-- No other value of the table changes (R184). -/
theorem writeSetting_ne {t : List Int} {id j : Nat} (hj : j ≠ id) (o : Origin) (v : Int) :
    settingVal (writeSetting t o id v).2.1 j = settingVal t j := by
  unfold writeSetting
  split
  · rfl
  · split
    · rfl
    · split
      · rfl
      · split
        · rfl
        · exact settingVal_set_ne hj _

end Sys2Proof.Machine
end

section
/-! The reset and the power-on (R186, R188, R191): what each step of the load touches, and with it the state after reset and
the effect of POWER_ON. -/

namespace Sys2Proof.Machine

/-! ### The steps of the load -/

/-- What a step of a run over a list leaves as it is, the run leaves. -/
theorem State.foldl_same {α β : Type} {f : State → α → State} {g : State → β} (hf : ∀ s a, g (f s a) = g s) (l : List α)
    (s : State) : g (l.foldl f s) = g s := by
  induction l generalizing s with
  | nil => rfl
  | cons a l ih => exact (ih _).trans (hf s a)

/-- The working table as the settings load takes it (R186, log 24). -/
def Osc.loaded (o : Osc) : List Int :=
  match loadSource o.copy1.valid o.copy2.valid o.copy1.writeCount o.copy2.writeCount with
  | some .first => o.copy1.values
  | some .second => o.copy2.values
  | none => settingDefaults

/-- The flags of `v` are those of `u`, but those that the load and its notices may set. -/
structure Sup.Loaded (u v : Sup) : Prop where
  capture : v.capture = u.capture
  missed : v.missed = u.missed
  owner : v.owner = u.owner
  flags : ∀ g, g ≠ .settingsDefaulted → g ≠ .filterDue → g ≠ .noticesLost → v.flags.get g = u.flags.get g
  stays : ∀ g, u.flags.get g = true → v.flags.get g = true

theorem Sup.Loaded.refl (u : Sup) : u.Loaded u := ⟨rfl, rfl, rfl, fun _ _ _ _ => rfl, fun _ => id⟩

theorem Sup.Loaded.trans {u v x : Sup} (h : u.Loaded v) (k : v.Loaded x) : u.Loaded x where
  capture := k.capture.trans h.capture
  missed := k.missed.trans h.missed
  owner := k.owner.trans h.owner
  flags g h1 h2 h3 := (k.flags g h1 h2 h3).trans (h.flags g h1 h2 h3)
  stays g := k.stays g ∘ h.stays g

/-- The flags that the load sets. -/
theorem Sup.Loaded.setFlag (s : State) {f : Flag} (hf : f = .settingsDefaulted ∨ f = .filterDue) :
    s.sup.Loaded (s.setFlag f).sup where
  capture := rfl
  missed := rfl
  owner := rfl
  flags g h1 h2 _ := (FlagSet.get_put _ _ _ _).trans (if_neg (by rcases hf with rfl | rfl <;> assumption))
  stays g hg := by
    rw [State.setFlag, State.updSup_sup, FlagSet.get_put]
    split
    · rfl
    · exact hg

theorem State.loadTable_eq (s : State) : s.loadTable = { s with
    osc := { s.osc with working := s.osc.loaded, inUse := s.osc.loaded }
    sup := s.loadTable.sup } := by
  unfold State.loadTable Osc.loaded
  dsimp only
  generalize loadSource s.osc.copy1.valid s.osc.copy2.valid s.osc.copy1.writeCount s.osc.copy2.writeCount = c
  cases c with
  | none => rfl
  | some c => cases c <;> rfl

theorem State.loadTable_sup (s : State) : s.sup.Loaded s.loadTable.sup := by
  unfold State.loadTable
  dsimp only
  split
  · exact .refl _
  · exact .refl _
  · exact .setFlag (s.updOsc _) (.inl rfl)

/-- Without a valid copy the flag says so (R186). -/
theorem State.loadTable_defaulted {s : State} (h1 : s.osc.copy1.valid = false) (h2 : s.osc.copy2.valid = false) :
    s.osc.loaded = settingDefaults ∧ s.loadTable.sup.flags.get .settingsDefaulted = true := by
  have none : loadSource s.osc.copy1.valid s.osc.copy2.valid s.osc.copy1.writeCount s.osc.copy2.writeCount = none := by
    simp [loadSource, h1, h2]
  refine ⟨by rw [Osc.loaded, none], ?_⟩
  unfold State.loadTable
  dsimp only
  rw [none]
  rfl

/-- The first copy is loaded where it is valid and the second does not follow it (R186, log 24). -/
theorem loadSource_first {v1 v2 : Bool} {n1 n2 : Nat} (h1 : v1 = true) (h2 : v2 = true → n2 ≤ n1) :
    loadSource v1 v2 n1 n2 = some .first := by
  cases v2 with
  | false => simp [loadSource, h1]
  | true => simp [loadSource, h1, Nat.not_lt.mpr (h2 rfl)]

theorem loadSource_second {v1 v2 : Bool} {n1 n2 : Nat} (h2 : v2 = true) (h1 : v1 = true → n1 < n2) :
    loadSource v1 v2 n1 n2 = some .second := by
  cases v1 with
  | false => simp [loadSource, h2]
  | true => simp [loadSource, h2, h1 rfl]

theorem loadSource_none {v1 v2 : Bool} {n1 n2 : Nat} (h1 : v1 = false) (h2 : v2 = false) : loadSource v1 v2 n1 n2 = none := by
  simp [loadSource, h1, h2]

/-- What is loaded is a valid table (R186). -/
theorem Osc.loaded_valid (o : Osc) : tableValid o.loaded = true := by
  have valid {c : SettingsCopy} (h : c.valid = true) : tableValid c.values = true := by
    simp only [SettingsCopy.valid, Bool.and_eq_true] at h
    exact h.1
  unfold Osc.loaded
  split
  · next e =>
    cases h1 : o.copy1.valid with
    | true => exact valid h1
    | false => cases h2 : o.copy2.valid <;> simp [loadSource, h1, h2] at e
  · next e =>
    cases h2 : o.copy2.valid with
    | true => exact valid h2
    | false => cases h1 : o.copy1.valid <;> simp [loadSource, h1, h2] at e
  · decide

/-! ### Channels and sensors -/

theorem Dio.channel_updChannel {n : Nat} (hn : n ≠ 0) (d : Dio) (f : Channel → Channel) {m : Nat} (hm : m ≠ 0) :
    (d.updChannel n f).channel m = if m = n then (d.channel m).map f else d.channel m := by
  unfold Dio.updChannel Dio.channel
  simp only [if_neg hn, if_neg hm, List.getElem?_modify]
  by_cases e : m = n
  · simp [e]
  · have apart : n - 1 ≠ m - 1 := by omega
    simp [e, apart]

theorem Hum.sensor_updSensor {n : Nat} (hn : n ≠ 0) (h : Hum) (f : Sensor → Sensor) {m : Nat} (hm : m ≠ 0) :
    (h.updSensor n f).sensor m = if m = n then (h.sensor m).map f else h.sensor m := by
  unfold Hum.updSensor Hum.sensor
  simp only [if_neg hn, if_neg hm, List.getElem?_modify]
  by_cases e : m = n
  · simp [e]
  · have apart : n - 1 ≠ m - 1 := by omega
    simp [e, apart]

/-- Channel `n` as it is configured (R143). -/
def State.configured (s : State) (n : Nat) (c : Channel) : Channel :=
  { c with
    function := inputFunction (s.inUse (66 + n)), sense := loadedSense (inputFunction (s.inUse (66 + n))) (s.inUse (70 + n))
    polarity := if s.inUse (74 + n) = 1 then .openActive else .closedActive }

theorem State.loadChannel_eq (s : State) (n : Nat) : s.loadChannel n = s.updDio fun d => d.updChannel n (s.configured n) := rfl

/-- Entry `n` as it is loaded (R103). -/
def State.loadedSensor (s : State) (n : Nat) : Sensor :=
  { Sensor.reset (s.inUse (45 + n)) (roleOf (s.inUse (53 + n))) with
    state := if s.inUse (45 + n) = 0 then .unused else .probing }

theorem State.loadChannels_channel {s : State} {l : List Nat} (h0 : 0 ∉ l) (hl : l.Nodup) {m : Nat} (hm : m ≠ 0) :
    (l.foldl State.loadChannel s).dio.channel m
      = if m ∈ l then (s.dio.channel m).map (s.configured m) else s.dio.channel m := by
  induction l generalizing s with
  | nil => simp
  | cons n l ih =>
    have hn : n ≠ 0 := fun e => h0 (e ▸ List.mem_cons_self)
    have hc : (s.loadChannel n).configured m = s.configured m := rfl
    have hd : (s.loadChannel n).dio = s.dio.updChannel n (s.configured n) := rfl
    rw [List.foldl_cons, ih (fun h => h0 (List.mem_cons_of_mem _ h)) hl.of_cons, hc, hd, Dio.channel_updChannel hn _ _ hm]
    by_cases e : m = n
    · subst e
      simp [(List.nodup_cons.mp hl).1]
    · simp [e]

theorem State.loadSensor_inUse (s : State) (n i : Nat) : (s.loadSensor n).inUse i = s.inUse i := by
  unfold State.loadSensor
  dsimp only
  split
  · rfl
  · simp [State.inUse, State.offerBus, State.setSensor, State.updSensor]

theorem State.loadSensor_sensor (s : State) {n : Nat} (hn : n ≠ 0) {m : Nat} (hm : m ≠ 0) :
    (s.loadSensor n).hum.sensor m = if m = n then (s.hum.sensor m).map fun _ => s.loadedSensor n else s.hum.sensor m := by
  have offered (h : Hum) (b : Bus) : ({ h with bus := b } : Hum).sensor m = h.sensor m := rfl
  have same (f : Sensor → Sensor) (i : Nat) : (s.updSensor n f).inUse i = s.inUse i := rfl
  unfold State.loadSensor
  dsimp only
  rw [same]
  by_cases h0 : s.inUse (45 + n) = 0
  · rw [if_pos h0]
    simp only [State.updSensor, State.updHum_hum, Hum.sensor_updSensor hn _ _ hm, State.loadedSensor, h0, if_true]
    rfl
  · rw [if_neg h0]
    simp only [State.offerBus, State.setSensor, State.updSensor, State.updHum_hum, State.raise_hum, offered,
      Hum.sensor_updSensor hn _ _ hm, State.loadedSensor, h0, if_false]
    by_cases e : m = n
    · simp [e, Function.comp_def]
    · simp [e]

theorem State.loadSensors_sensor {s : State} {l : List Nat} (h0 : 0 ∉ l) (hl : l.Nodup) {m : Nat} (hm : m ≠ 0) :
    (l.foldl State.loadSensor s).hum.sensor m
      = if m ∈ l then (s.hum.sensor m).map fun _ => s.loadedSensor m else s.hum.sensor m := by
  induction l generalizing s with
  | nil => simp
  | cons n l ih =>
    have hn : n ≠ 0 := fun e => h0 (e ▸ List.mem_cons_self)
    have hs : (s.loadSensor n).loadedSensor m = s.loadedSensor m := by
      simp only [State.loadedSensor, State.loadSensor_inUse]
    rw [List.foldl_cons, ih (fun h => h0 (List.mem_cons_of_mem _ h)) hl.of_cons, hs, State.loadSensor_sensor s hn hm]
    by_cases e : m = n
    · subst e
      simp [(List.nodup_cons.mp hl).1]
    · simp [e]

/-! ### What each step leaves alone -/

/-- The blocks that the load of the channels and of the sensors leaves alone. -/
def State.unloaded (s : State) : List Instr × Osc × Arb × Afc × Frg × Flt := (s.pending, s.osc, s.arb, s.afc, s.frg, s.flt)

theorem State.loadSensor_unloaded (s : State) (n : Nat) : (s.loadSensor n).unloaded = s.unloaded := by
  unfold State.loadSensor
  dsimp only
  split
  · rfl
  · simp [State.unloaded, State.offerBus, State.setSensor, State.updSensor]

theorem State.loadSensor_dio (s : State) (n : Nat) : (s.loadSensor n).dio = s.dio := by
  unfold State.loadSensor
  dsimp only
  split
  · rfl
  · simp [State.offerBus, State.setSensor, State.updSensor]

/-- What the load of a sensor leaves of HUM. -/
def Hum.unprobed (h : Hum) : Bool × Option (Nat × Tier) × Option Nat × BusState :=
  (h.active, h.extract, h.pollTimer, h.bus.state)

theorem State.loadSensor_hum (s : State) (n : Nat) :
    (s.loadSensor n).hum.unprobed = s.hum.unprobed := by
  have updated (h : Hum) (f : Sensor → Sensor) : (h.updSensor n f).active = h.active ∧ (h.updSensor n f).extract = h.extract
      ∧ (h.updSensor n f).pollTimer = h.pollTimer ∧ (h.updSensor n f).bus = h.bus := by
    unfold Hum.updSensor
    split <;> exact ⟨rfl, rfl, rfl, rfl⟩
  have offered (b : Bus) : (b.offer n .probe).state = b.state := by
    unfold Bus.offer
    split <;> rfl
  unfold State.loadSensor
  dsimp only
  split
  · simp [Hum.unprobed, State.updSensor, updated]
  · simp [Hum.unprobed, State.updSensor, State.setSensor, State.offerBus, updated, offered]

theorem State.raise_loaded (s : State) (k : NoticeKind) (x : Nat) (v : Int) : s.sup.Loaded (s.raise k x v).sup := by
  rw [State.raise_eq s k x v rfl rfl rfl]
  refine ⟨rfl, rfl, rfl, fun g _ _ hg => ?_, fun g hg => ?_⟩
  · dsimp only
    split
    · exact (FlagSet.get_put _ _ _ _).trans (if_neg hg)
    · rfl
  · dsimp only
    split
    · rw [FlagSet.get_put]
      split
      · rfl
      · exact hg
    · exact hg

theorem State.loadSensor_sup (s : State) (n : Nat) : s.sup.Loaded (s.loadSensor n).sup := by
  unfold State.loadSensor
  dsimp only
  split
  · exact .refl _
  · exact State.raise_loaded (State.updSensor (State.updSensor s n _) n _) _ _ _

theorem State.loadSensors_sup (l : List Nat) (s : State) : s.sup.Loaded (l.foldl State.loadSensor s).sup := by
  induction l generalizing s with
  | nil => exact .refl _
  | cons n l ih => exact (s.loadSensor_sup n).trans (ih _)

theorem State.loadSensor_links (s : State) (n : Nat) :
    ((s.loadSensor n).lnk.main, (s.loadSensor n).lnk.service, (s.loadSensor n).lnk.restarting)
      = (s.lnk.main, s.lnk.service, s.lnk.restarting) := by
  unfold State.loadSensor
  dsimp only
  split
  · rfl
  · simp [State.offerBus, State.setSensor, State.updSensor]

/-- What the load of the filter block changes. -/
theorem State.deriveLoaded_eq (s : State) (i : PathId) : s.deriveLoaded i = { s with
    flt := s.flt.setFilter i ((s.flt.filter i).derive (s.setting 64)), sup := (s.deriveLoaded i).sup } := by
  unfold State.deriveLoaded
  dsimp only
  split <;> rfl

theorem State.deriveLoaded_sup (s : State) (i : PathId) : s.sup.Loaded (s.deriveLoaded i).sup := by
  unfold State.deriveLoaded
  dsimp only
  split
  · exact .setFlag (s.updFlt _) (.inr rfl)
  · exact .refl _

/-- The filter block as the load takes it, without one where no copy is valid (R140, log 24). -/
def Flt.loadedBlock (t : Flt) : Option FilterBlock :=
  (loadSource t.copy1.crcOk t.copy2.crcOk t.copy1.writeCount t.copy2.writeCount).map fun c => match c with
    | .first => t.copy1.block
    | .second => t.copy2.block

/-- FLT with the block that the load takes. -/
def Flt.withLoaded (t : Flt) : Flt :=
  match t.loadedBlock with
  | some b => t.load b
  | none => t

theorem State.loadFilters_eq (s : State) : s.loadFilters = { s with
    flt := (s.flt.withLoaded.setFilter .supply (s.flt.withLoaded.supply.derive (s.setting 64))).setFilter .extract
      (s.flt.withLoaded.extract.derive (s.setting 64))
    sup := s.loadFilters.sup } := by
  unfold State.loadFilters
  rw [State.deriveLoaded_eq, State.deriveLoaded_eq]
  unfold Flt.withLoaded Flt.loadedBlock
  generalize loadSource s.flt.copy1.crcOk s.flt.copy2.crcOk s.flt.copy1.writeCount s.flt.copy2.writeCount = c
  cases c with
  | none => rfl
  | some c => cases c <;> rfl

theorem State.loadFilters_sup (s : State) : s.sup.Loaded s.loadFilters.sup := by
  have derived (t : State) (h : s.sup.Loaded t.sup) : s.sup.Loaded ((t.deriveLoaded .supply).deriveLoaded .extract).sup :=
    (h.trans (t.deriveLoaded_sup .supply)).trans (State.deriveLoaded_sup _ .extract)
  unfold State.loadFilters
  refine derived _ ?_
  split
  · exact .refl _
  · exact .refl _
  · exact .setFlag s (.inl rfl)

/-! ### The runs over the channels and the sensors -/

/-- The state after the settings load and the configuration of the channels that `l` lists. -/
def State.configuredFrom (s : State) (l : List Nat) : State := l.foldl State.loadChannel s.coldStart.loadTable

/-- The state after the load of the sensors that `m` lists. -/
def State.probingFrom (s : State) (l m : List Nat) : State := m.foldl State.loadSensor (s.configuredFrom l)

theorem State.loadChannels_rest (l : List Nat) (s : State) : l.foldl State.loadChannel s
    = { s with dio := (l.foldl State.loadChannel s).dio } := by
  induction l generalizing s with
  | nil => rfl
  | cons n l ih =>
    rw [List.foldl_cons, ih]
    rfl

theorem State.loadTable_coldStart (s : State) : s.coldStart.loadTable = { s.coldStart with
    osc := { Osc.reset with copy1 := s.osc.copy1, copy2 := s.osc.copy2, working := s.osc.loaded, inUse := s.osc.loaded }
    sup := s.coldStart.loadTable.sup } := State.loadTable_eq s.coldStart

theorem State.configuredFrom_rest (s : State) (l : List Nat) : s.configuredFrom l = { s.coldStart with
    osc := { Osc.reset with copy1 := s.osc.copy1, copy2 := s.osc.copy2, working := s.osc.loaded, inUse := s.osc.loaded }
    sup := s.coldStart.loadTable.sup, dio := (s.configuredFrom l).dio } := by
  rw [State.configuredFrom, State.loadChannels_rest, State.loadTable_coldStart]

theorem State.probingFrom_unloaded (s : State) (l m : List Nat) : (s.probingFrom l m).unloaded
    = (s.pending, { Osc.reset with copy1 := s.osc.copy1, copy2 := s.osc.copy2, working := s.osc.loaded, inUse := s.osc.loaded },
      .reset, .reset, .reset, { Flt.reset with copy1 := s.flt.copy1, copy2 := s.flt.copy2 }) := by
  rw [State.probingFrom, State.foldl_same (g := State.unloaded) State.loadSensor_unloaded, State.configuredFrom_rest]
  rfl

theorem State.probingFrom_hum (s : State) (l m : List Nat) :
    (s.probingFrom l m).hum.unprobed = (false, none, none, .idle) := by
  rw [State.probingFrom, State.foldl_same (g := fun t : State => t.hum.unprobed) State.loadSensor_hum,
    State.configuredFrom_rest]
  rfl

theorem State.probingFrom_dio (s : State) (l m : List Nat) : (s.probingFrom l m).dio = (s.configuredFrom l).dio :=
  State.foldl_same (g := State.dio) State.loadSensor_dio _ _

/-- The links and what LNK holds of a RESTART. -/
def Lnk.held (k : Lnk) : LinkRec × LinkRec × Option Link := (k.main, k.service, k.restarting)

theorem State.probingFrom_links (s : State) (l m : List Nat) : (s.probingFrom l m).lnk.held = s.coldStart.lnk.held := by
  rw [State.probingFrom, State.foldl_same (g := fun t : State => t.lnk.held) State.loadSensor_links,
    State.configuredFrom_rest]

theorem State.probingFrom_sup (s : State) (l m : List Nat) : s.coldStart.loadTable.sup.Loaded (s.probingFrom l m).sup := by
  have loaded := State.loadSensors_sup m (s.configuredFrom l)
  rw [State.configuredFrom_rest] at loaded
  rw [State.probingFrom, State.configuredFrom_rest]
  exact loaded

theorem State.configuredFrom_length (s : State) (l : List Nat) :
    (s.configuredFrom l).dio.channels.length = s.dio.channels.length := by
  have channel (t : State) (n : Nat) : (t.loadChannel n).dio.channels.length = t.dio.channels.length := by
    rw [State.loadChannel_eq, State.updDio_dio]
    unfold Dio.updChannel
    split
    · rfl
    · exact List.length_modify ..
  rw [State.configuredFrom, State.foldl_same (g := fun t : State => t.dio.channels.length) channel, State.loadTable_coldStart]
  exact List.length_map ..

/-! ### Power-on as a whole -/

/-- Power-on before the load of the filter block. -/
def State.probing (s : State) : State := s.probingFrom [1, 2, 3, 4] sensorIndexes

/-- Power-on, its last step written out. -/
theorem State.powerUp_eq (s : State) : s.powerUp = { s.probing with
    flt := (s.probing.flt.withLoaded.setFilter .supply (s.probing.flt.withLoaded.supply.derive (s.probing.setting 64))).setFilter
      .extract (s.probing.flt.withLoaded.extract.derive (s.probing.setting 64))
    sup := s.probing.loadFilters.sup } :=
  s.probing.loadFilters_eq

/-- What power-on leaves in the blocks that the load does not set by itself. -/
theorem State.powerUp_unloaded (s : State) : s.powerUp.pending = s.pending ∧ s.powerUp.arb = .reset ∧ s.powerUp.afc = .reset
    ∧ s.powerUp.frg = .reset ∧ s.powerUp.osc
      = { Osc.reset with copy1 := s.osc.copy1, copy2 := s.osc.copy2, working := s.osc.loaded, inUse := s.osc.loaded } := by
  have probed : s.probing.unloaded = _ := s.probingFrom_unloaded [1, 2, 3, 4] sensorIndexes
  have whole := s.powerUp_eq
  generalize s.probing = t at probed whole
  simp only [State.unloaded, Prod.mk.injEq] at probed
  obtain ⟨pending, osc, arb, afc, frg, -⟩ := probed
  rw [whole]
  exact ⟨pending, arb, afc, frg, osc⟩

/-- FLT as power-on leaves it: the block loaded and both states derived. -/
theorem State.powerUp_flt (s : State) {t : Flt} (ht : t = { Flt.reset with copy1 := s.flt.copy1, copy2 := s.flt.copy2 }) :
    ∃ n, s.powerUp.flt = (t.withLoaded.setFilter .supply (t.withLoaded.supply.derive n)).setFilter .extract
      (t.withLoaded.extract.derive n) := by
  have probed : s.probing.unloaded = _ := s.probingFrom_unloaded [1, 2, 3, 4] sensorIndexes
  have whole := s.powerUp_eq
  generalize s.probing = u at probed whole
  simp only [State.unloaded, Prod.mk.injEq] at probed
  obtain ⟨-, -, -, -, -, flt⟩ := probed
  rw [whole, flt, ht]
  exact ⟨_, rfl⟩

theorem State.powerUp_hum (s : State) : s.powerUp.hum.unprobed = (false, none, none, .idle) := by
  have probed : s.probing.hum.unprobed = _ := s.probingFrom_hum [1, 2, 3, 4] sensorIndexes
  have whole := s.powerUp_eq
  generalize s.probing = u at probed whole
  rw [whole]
  exact probed

/-- The channels as power-on leaves them. -/
theorem State.powerUp_dio (s : State) : s.powerUp.dio = (s.configuredFrom [1, 2, 3, 4]).dio := by
  have probed : s.probing.dio = _ := s.probingFrom_dio [1, 2, 3, 4] sensorIndexes
  have whole := s.powerUp_eq
  generalize s.probing = u at probed whole
  rw [whole]
  exact probed

theorem State.powerUp_links (s : State) : s.powerUp.lnk.held = s.coldStart.lnk.held := by
  have probed : s.probing.lnk.held = _ := s.probingFrom_links [1, 2, 3, 4] sensorIndexes
  have whole := s.powerUp_eq
  generalize s.probing = u at probed whole
  rw [whole]
  exact probed

theorem State.powerUp_sup (s : State) : s.coldStart.loadTable.sup.Loaded s.powerUp.sup :=
  (s.probingFrom_sup [1, 2, 3, 4] sensorIndexes).trans s.probing.loadFilters_sup

/-! ### What POWER_ON answers -/

/-- The block of a store without a valid copy (R140). -/
def FilterBlock.empty : FilterBlock := { supply := .reset, extract := .reset, runHours := 0, hoursSinceCheck := 0 }

/-- After a reset a load without a valid copy leaves what an empty block would. -/
theorem Flt.withLoaded_reset {t : Flt} (ht : t = { Flt.reset with copy1 := t.copy1, copy2 := t.copy2 }) :
    t.withLoaded = t.load (t.loadedBlock.getD .empty) := by
  unfold Flt.withLoaded
  cases t.loadedBlock with
  | none =>
    rw [ht]
    rfl
  | some b => rfl

/-- The block that the load takes (R140, log 24). -/
theorem Flt.loadedBlock_eq {t : Flt} {b : FilterBlock}
    (h : t.copy1.crcOk = true ∧ (t.copy2.crcOk = true → t.copy2.writeCount ≤ t.copy1.writeCount) ∧ b = t.copy1.block
      ∨ t.copy2.crcOk = true ∧ (t.copy1.crcOk = true → t.copy1.writeCount < t.copy2.writeCount) ∧ b = t.copy2.block
      ∨ t.copy1.crcOk = false ∧ t.copy2.crcOk = false ∧ b = .empty) : t.loadedBlock.getD .empty = b := by
  unfold Flt.loadedBlock
  rcases h with ⟨h1, h2, rfl⟩ | ⟨h2, h1, rfl⟩ | ⟨h1, h2, rfl⟩
  · rw [loadSource_first h1 h2]
    rfl
  · rw [loadSource_second h2 h1]
    rfl
  · rw [loadSource_none h1 h2]
    rfl

theorem Filter.derived_baselineDue (f : Filter) (n : Nat) : f.derived n = .baselineDue ↔ f.data.baseline = none := by
  unfold Filter.derived
  split
  · next h => simpa using h
  · next h =>
    have some : f.data.baseline ≠ none := by simpa using h
    simp only [some, iff_false]
    repeat' split
    all_goals simp

/-- An entry's data through the derivation of its state (R123). -/
theorem Filter.derive_data (f : Filter) (n : Nat) :
    { (f.derive n).data with hoursSinceDue := f.data.hoursSinceDue } = f.data
      ∧ (f.derive n).data.hoursSinceDue
        = (if (f.derive n).state = .clean ∨ (f.derive n).state = .loading then 0 else f.data.hoursSinceDue)
      ∧ ((f.derive n).state = .baselineDue ↔ f.data.baseline = none) := by
  refine ⟨?_, ?_, f.derived_baselineDue n⟩ <;> unfold Filter.derive <;> dsimp only <;> split <;> rfl

/-- Without a valid copy of the filter block the flag says so (R140). -/
theorem State.loadFilters_defaulted {s : State} (h1 : s.flt.copy1.crcOk = false) (h2 : s.flt.copy2.crcOk = false) :
    s.loadFilters.sup.flags.get .settingsDefaulted = true := by
  have set : (s.setFlag .settingsDefaulted).sup.flags.get .settingsDefaulted = true := rfl
  unfold State.loadFilters
  dsimp only
  rw [loadSource_none h1 h2]
  exact (State.deriveLoaded_sup _ .extract).stays _ ((State.deriveLoaded_sup _ .supply).stays _ set)

theorem State.powerUp_defaulted {s : State} (h1 : s.flt.copy1.crcOk = false) (h2 : s.flt.copy2.crcOk = false) :
    s.powerUp.sup.flags.get .settingsDefaulted = true := by
  have probed : s.probing.unloaded = _ := s.probingFrom_unloaded [1, 2, 3, 4] sensorIndexes
  have whole : s.powerUp = s.probing.loadFilters := rfl
  generalize s.probing = u at probed whole
  simp only [State.unloaded, Prod.mk.injEq] at probed
  obtain ⟨-, -, -, -, -, flt⟩ := probed
  rw [whole]
  exact State.loadFilters_defaulted (by rw [flt]; exact h1) (by rw [flt]; exact h2)

theorem Hum.reset_sensor {n : Nat} (h1 : 1 ≤ n) (h8 : n ≤ 8) : Hum.reset.sensor n = some (.reset 0 .dryRoom) := by
  have n0 : n ≠ 0 := by omega
  have inside : n - 1 < 8 := by omega
  simp only [Hum.sensor, if_neg n0, Hum.reset, List.getElem?_replicate, if_pos inside]

theorem State.probing_sensor (s : State) {n : Nat} (h1 : 1 ≤ n) (h8 : n ≤ 8) :
    s.probing.hum.sensor n = some ((s.configuredFrom [1, 2, 3, 4]).loadedSensor n) := by
  have n0 : n ≠ 0 := by omega
  have listed : n ∈ sensorIndexes := by
    simp only [sensorIndexes, List.mem_cons, List.not_mem_nil, or_false]
    omega
  have before : (s.configuredFrom [1, 2, 3, 4]).hum = Hum.reset := by
    rw [State.configuredFrom_rest]
    rfl
  unfold State.probing State.probingFrom
  rw [State.loadSensors_sensor (by decide) (by decide) n0, if_pos listed, before, Hum.reset_sensor h1 h8]
  rfl

/-- The entries as power-on leaves them (R95, R103). -/
theorem State.powerUp_sensor (s : State) {n : Nat} (h1 : 1 ≤ n) (h8 : n ≤ 8) :
    ∃ e, s.powerUp.hum.sensor n = some e ∧ e.address = s.powerUp.inUse (45 + n)
      ∧ e.role = roleOf (s.powerUp.inUse (53 + n))
      ∧ e.state = if s.powerUp.inUse (45 + n) = 0 then .unused else .probing := by
  have inUse (i : Nat) : (s.configuredFrom [1, 2, 3, 4]).inUse i = s.powerUp.inUse i := by
    unfold State.inUse
    rw [s.powerUp_unloaded.2.2.2.2, State.configuredFrom_rest]
  have probed := s.probing_sensor h1 h8
  have whole := s.powerUp_eq
  generalize s.probing = u at probed whole
  have same : s.powerUp.hum = u.hum := by rw [whole]
  rw [same]
  refine ⟨_, probed, ?_⟩
  simp [State.loadedSensor, inUse, Sensor.reset]

theorem loadedSense_eq (f : InputFunction) (n : Nat) :
    loadedSense f n = if f = .fire ∨ f = .filterDoor ∨ n ≠ 0 then .level else .edge := by
  cases f <;> simp [loadedSense]

/-- A channel as power-on leaves it (R143). -/
theorem State.powerUp_channel (s : State) (h : s.dio.channels.length = 4) {n : Nat} (h1 : 1 ≤ n) (h4 : n ≤ 4) :
    ∃ c, s.powerUp.dio.channel n = some (s.powerUp.configured n c) := by
  have n0 : n ≠ 0 := by omega
  have listed : n ∈ [1, 2, 3, 4] := by
    simp only [List.mem_cons, List.not_mem_nil, or_false]
    omega
  have configured := State.loadChannels_channel (s := s.coldStart.loadTable) (l := [1, 2, 3, 4]) (by decide) (by decide) n0
  have same (c : Channel) : s.coldStart.loadTable.configured n c = s.powerUp.configured n c := by
    unfold State.configured State.inUse
    rw [State.loadTable_coldStart, s.powerUp_unloaded.2.2.2.2]
  have present : ∃ c, s.coldStart.loadTable.dio.channel n = some c := by
    have inside : n - 1 < (s.dio.channels.map fun c => Channel.reset c.raw).length := by
      rw [List.length_map]
      omega
    have before : s.coldStart.loadTable.dio.channels = s.dio.channels.map fun c => Channel.reset c.raw := by
      rw [State.loadTable_coldStart]
      rfl
    unfold Dio.channel
    rw [if_neg n0, before]
    exact ⟨_, List.getElem?_eq_getElem inside⟩
  obtain ⟨c, hc⟩ := present
  rw [if_pos listed, hc, Option.map_some, same] at configured
  exact ⟨c, (congrArg (fun d : Dio => d.channel n) s.powerUp_dio).trans configured⟩

/-- The contacts of the channels as power-on leaves them: not yet established (R144). -/
theorem State.powerUp_contacts (s : State) : ∀ c ∈ s.powerUp.dio.channels, c.contact = none ∧ c.debounce = 0 := by
  have fold (l : List Nat) (t : State) (ht : ∀ c ∈ t.dio.channels, c.contact = none ∧ c.debounce = 0) :
      ∀ c ∈ (l.foldl State.loadChannel t).dio.channels, c.contact = none ∧ c.debounce = 0 := by
    induction l generalizing t with
    | nil => exact ht
    | cons n l ih =>
      refine ih _ fun c hc => ?_
      rw [State.loadChannel_eq, State.updDio_dio] at hc
      unfold Dio.updChannel at hc
      split at hc
      · exact ht c hc
      · obtain ⟨i, hi⟩ := List.mem_iff_getElem?.mp hc
        rw [List.getElem?_modify] at hi
        obtain ⟨c', hc', rfl⟩ := Option.map_eq_some_iff.mp hi
        have := ht c' (List.mem_of_getElem? hc')
        split
        · exact this
        · exact this
  rw [State.powerUp_dio]
  refine fold _ _ fun c hc => ?_
  rw [State.loadTable_coldStart] at hc
  obtain ⟨c', -, rfl⟩ := List.mem_map.mp hc
  exact ⟨rfl, rfl⟩

/-- The marks and the relays as power-on leaves them. -/
theorem State.powerUp_marks (s : State) : s.powerUp.dio.boostMark = false ∧ s.powerUp.dio.hoodMark = false
    ∧ s.powerUp.dio.fireMark = false ∧ s.powerUp.dio.released = false := by
  have fold (l : List Nat) (t : State) : ∃ c, (l.foldl State.loadChannel t).dio = { t.dio with channels := c } := by
    induction l generalizing t with
    | nil => exact ⟨_, rfl⟩
    | cons n l ih =>
      obtain ⟨c, hc⟩ := ih (t.loadChannel n)
      refine ⟨c, hc.trans ?_⟩
      rw [State.loadChannel_eq, State.updDio_dio]
      unfold Dio.updChannel
      split <;> rfl
  obtain ⟨c, hc⟩ := fold [1, 2, 3, 4] s.coldStart.loadTable
  have dio : s.powerUp.dio = _ := s.powerUp_dio.trans hc
  rw [State.loadTable_coldStart] at dio
  rw [dio]
  exact ⟨rfl, rfl, rfl, rfl⟩

/-- Settles O1: both sides are the same run. -/
theorem stepRunsFrontCommand : Obligations.StepRunsFrontCommand := by
  intro c rest s
  exact ⟨rfl, rfl⟩

/-- Settles O4: each block as the steps of the load leave it. -/
theorem powerOnLoadsAndResets : Obligations.PowerOnLoadsAndResets := by
  intro s
  obtain ⟨pending, arb, afc, frg, osc⟩ := s.powerUp_unloaded
  obtain ⟨n, flt⟩ := s.powerUp_flt rfl
  have sup := s.powerUp_sup
  have cold : Sup.reset.Loaded s.coldStart.loadTable.sup := s.coldStart.loadTable_sup
  have links := s.powerUp_links
  have hum := s.powerUp_hum
  obtain ⟨boost, hood, fire, released⟩ := s.powerUp_marks
  rw [Flt.withLoaded_reset rfl] at flt
  generalize hb : ({ Flt.reset with copy1 := s.flt.copy1, copy2 := s.flt.copy2 } : Flt).loadedBlock.getD .empty = b at flt
  simp only [Lnk.held, Prod.mk.injEq] at links
  simp only [Hum.unprobed, Prod.mk.injEq] at hum
  obtain ⟨main, service, restarting⟩ := links
  obtain ⟨active, extract, poll, bus⟩ := hum
  refine ⟨s.powerUp, rfl, pending, ?_⟩
  rw [osc, arb, afc, frg, flt]
  refine ⟨rfl, rfl, rfl, rfl, rfl, rfl, ?_, ?_, ?_, rfl, rfl, rfl, rfl, rfl, rfl, rfl, rfl, rfl, rfl, ?_, ?_,
    active, extract, poll, bus, ?_, ?_, s.powerUp_contacts, boost, hood, fire, released, sup.capture.trans cold.capture,
    sup.missed.trans cold.missed, sup.owner.trans cold.owner, ?_, ?_, restarting⟩
  · intro h1 h2
    simp [Osc.loaded, loadSource_first h1 h2]
  · intro h2 h1
    simp [Osc.loaded, loadSource_second h2 h1]
  · intro h1 h2
    have := State.loadTable_defaulted (s := s.coldStart) h1 h2
    exact ⟨this.1, sup.stays _ this.2⟩
  · intro b' hb'
    obtain rfl : b = b' := hb.symm.trans (Flt.loadedBlock_eq hb')
    refine ⟨rfl, rfl, ?_⟩
    rintro i d rfl
    cases i
    · exact Filter.derive_data (.loaded b.supply) n
    · exact Filter.derive_data (.loaded b.extract) n
  · exact State.powerUp_defaulted
  · intro m h1 h8
    obtain ⟨e, he, address, role, state⟩ := s.powerUp_sensor h1 h8
    refine ⟨e, he, address, ?_, state⟩
    rw [role]
    rfl
  · intro h m h1 h4
    obtain ⟨c, hc⟩ := s.powerUp_channel h h1 h4
    refine ⟨_, hc, rfl, ?_, rfl⟩
    exact loadedSense_eq _ _
  · intro g h1 h2 h3
    exact (sup.flags g h1 h2 h3).trans ((cold.flags g h1 h2 h3).trans (by cases g <;> rfl))
  · intro l
    cases l with
    | main =>
      have link : s.powerUp.lnk.link .main = s.coldStart.lnk.main := main
      rw [link]
      exact ⟨rfl, rfl, rfl, rfl, rfl⟩
    | service =>
      have link : s.powerUp.lnk.link .service = s.coldStart.lnk.service := service
      rw [link]
      exact ⟨rfl, rfl, rfl, rfl, rfl⟩

/-! ### The state after reset -/

theorem Arb.reset_ok : ArbOk Arb.reset where
  placed x := by cases x <;> simp [Arb.reset, DemandTable.reset, DemandTable.get]
  apart := by simp [Arb.reset]
  top := by simp [Arb.reset]
  base := ⟨_, rfl, rfl, rfl, rfl, rfl⟩

theorem Arb.reset_runsOk : Arb.reset.runsOk := by
  refine ⟨fun x d n hx hn => ?_, by simp [Arb.reset]⟩
  cases x <;> cases hx
  cases hn

theorem FilterBlock.empty_ok : FilterBlock.empty.ok := ⟨Nat.zero_le _, historyOk_nil 0, historyOk_nil 0⟩

/-- Settles O3: the reset values as they stand, and each invariant of them. -/
theorem resetState : Obligations.ResetState := by
  refine ⟨⟨rfl, rfl, rfl, ?_, rfl, rfl, rfl, rfl, rfl, ?_, ?_, rfl, rfl, rfl, rfl, rfl, rfl, rfl, rfl, rfl, rfl, rfl, rfl, rfl,
    rfl, rfl, ?_, rfl, rfl, rfl, rfl, rfl, rfl, rfl, rfl, rfl, rfl⟩, ?_⟩
  · intro x hx
    have held : State.reset.arb.table.get x = none := by
      cases x with
      | base => exact absurd rfl hx
      | _ => rfl
    simp [Arb.slotState, held]
  · intro i
    cases i <;> exact ⟨rfl, rfl, rfl, rfl, rfl, rfl⟩
  · intro i
    cases i <;> exact ⟨rfl, rfl⟩
  · intro c hc
    rw [List.eq_of_mem_replicate hc]
    exact ⟨rfl, rfl, rfl⟩
  · refine ⟨⟨NoticeQueue.ok_empty 0 32, NoticeQueue.ok_empty 0 8⟩, ⟨by decide, by decide⟩, ⟨Arb.reset_ok, rfl, rfl, rfl⟩,
      ⟨rfl, fun _ => rfl, fun h => absurd h (by decide)⟩, fun h => absurd rfl h, fun h => absurd rfl h, ?_,
      ⟨FilterBlock.empty_ok, FilterBlock.empty_ok, FilterBlock.empty_ok, fun _ h => absurd h (by simp [State.reset, Flt.reset])⟩,
      ⟨Nat.zero_le _, Nat.zero_le _⟩, ⟨?_, ?_⟩, Arb.reset_runsOk, ⟨fun _ => rfl, fun _ => rfl⟩, fun h => absurd rfl h,
      fun h => absurd h (by decide), rfl, by decide⟩
    · exact ⟨by decide, by decide, by decide⟩
    · intro i
      cases i <;> decide
    · intro i
      cases i <;> decide

end Sys2Proof.Machine
end

section
/-! What the device's own states, the settings, the second and the requests keep of the invariants. -/

namespace Sys2Proof.Machine

section Blocks

variable {y w k : Bool} {r s : State}

/-! ### Power-on -/

/-- A load takes a block whose histories are as R125 says. -/
theorem Flt.loadedBlock_ok {t : Flt} (h1 : t.copy1.block.ok) (h2 : t.copy2.block.ok) : (t.loadedBlock.getD .empty).ok := by
  unfold Flt.loadedBlock
  cases loadSource t.copy1.crcOk t.copy2.crcOk t.copy1.writeCount t.copy2.writeCount with
  | none => exact FilterBlock.empty_ok
  | some c =>
    cases c
    · exact h1
    · exact h2

theorem State.historiesOk.powerUp {s : State} (h : s.historiesOk) : s.powerUp.historiesOk := by
  obtain ⟨-, first, second, -⟩ := h
  obtain ⟨n, flt⟩ := s.powerUp_flt rfl
  rw [Flt.withLoaded_reset rfl] at flt
  have loaded : (({ Flt.reset with copy1 := s.flt.copy1, copy2 := s.flt.copy2 } : Flt).loadedBlock.getD .empty).ok :=
    Flt.loadedBlock_ok first second
  generalize ({ Flt.reset with copy1 := s.flt.copy1, copy2 := s.flt.copy2 } : Flt).loadedBlock.getD .empty = b at flt loaded
  obtain ⟨runs, supply, extract⟩ := loaded
  unfold State.historiesOk
  rw [flt]
  refine ⟨⟨runs, ?_, ?_⟩, first, second, ?_⟩
  · exact (Filter.derive_history (Filter.loaded b.supply) n).symm ▸ supply
  · exact (Filter.derive_history (Filter.loaded b.extract) n).symm ▸ extract
  · exact fun _ hn => by cases hn

theorem Filter.derive_zeroOffset (f : Filter) (n : Nat) : (f.derive n).zeroOffset = f.zeroOffset := rfl

theorem Keeps.powerUp (h : Keeps y w k r s) : Keeps false true true r s.powerUp := by
  obtain ⟨pending, arb, afc, frg, osc⟩ := s.powerUp_unloaded
  obtain ⟨n, flt⟩ := s.powerUp_flt rfl
  rw [Flt.withLoaded_reset rfl] at flt
  have owner := s.powerUp_sup.owner.trans s.coldStart.loadTable_sup.owner
  have hum := s.powerUp_hum
  simp only [Hum.unprobed, Prod.mk.injEq] at hum
  have device : s.powerUp.osc.device = .starting := by rw [osc]; rfl
  have zeros : s.powerUp.zerosOk := by
    refine ⟨fun i => ?_, fun i => ?_⟩
    · rw [afc]
      cases i <;> decide
    · rw [flt]
      cases i <;> simp [Flt.setFilter, Flt.filter, Filter.derive_zeroOffset, Flt.load, Filter.loaded, Filter.reset]
  exact
    { pending := pending.trans h.pending
      tables := fun _ => by
        unfold State.tablesOk
        rw [osc]
        exact ⟨Osc.loaded_valid _, Osc.loaded_valid _⟩
      ends := fun _ hn => by rw [frg] at hn; exact absurd rfl hn
      posted := fun _ hn => by rw [arb] at hn; exact absurd rfl hn
      histories := fun hr => (h.histories hr).powerUp
      frost := fun _ _ => by
        unfold State.frostOk
        rw [frg]
        exact ⟨Nat.zero_le _, Nat.zero_le _⟩
      zeros := fun _ => zeros
      runs := fun _ _ => by rw [arb]; exact Arb.reset_runsOk
      flight := fun _ hb => by rw [hum.2.2.2] at hb; exact absurd hb (by decide)
      channels := by
        rw [s.powerUp_dio, State.configuredFrom_length]
        exact h.channels
      accumulator := fun _ => by
        rw [flt]
        exact Nat.zero_lt_succ _
      dry := fun _ hn => by rw [frg] at hn; exact absurd hn (by decide)
      waits := by simp
      owned := fun _ _ hn => by rw [arb] at hn; exact absurd rfl hn
      demands := fun _ _ _ => by
        refine ⟨?_, Arb.markHas.ofFalse (by rw [arb]; rfl)⟩
        unfold State.demandsOk
        rw [device, arb]
        exact ⟨Arb.reset_ok, rfl, rfl, rfl⟩
      rests := fun _ _ hd => by simp [device] at hd
      drained := fun _ _ hd => by simp [device] at hd
      heater := fun _ _ => by
        unfold State.heaterOk
        rw [frg]
        refine ⟨?_, fun _ => rfl, fun _ => rfl⟩
        split <;> rfl }

theorem Keeps.restartIfSent (h : Keeps false true true r s) : Keeps false true true r s.restartIfSent := by
  unfold State.restartIfSent
  split
  · split
    · exact h.powerUp
    · exact h
  · exact h

/-! ### Entries into RUNNING -/

theorem Arb.reselect_get (a : Arb) (x : Slot) : a.reselect.1.table.get x = a.table.get x := by
  rw [Arb.reselect_table]

theorem Arb.runsOk.reselect {a : Arb} (h : a.runsOk) : a.reselect.1.runsOk := by
  refine ⟨fun x d n hx => h.1 x d n ?_, fun he => ?_⟩
  · rwa [a.reselect_get] at hx
  · rw [a.reselect_expiring] at he
    exact absurd he (by decide)

/-- The first selection, as the device enters RUNNING from STARTING or WAKING (R10, R188). -/
theorem Keeps.selectFirst (h : Keeps y true k r s) (hd : s.osc.device = .starting ∨ s.osc.device = .waking) {t : State}
    (ht : t = s.setDevice .running) : Keeps y true false r (t.applyArb t.arb.reselect) := by
  have arb : t.arb = s.arb := by rw [ht, State.setDevice_arb]
  have device : t.osc.device = .running := by rw [ht, State.setDevice_osc]
  have owner : t.sup.owner = s.sup.owner := by rw [ht, State.setDevice_sup_owner]
  have entered : Keeps y false false s (t.updArb fun _ => t.arb.reselect.1) := by
    refine Keeps.updArb_loose (ht ▸ (Keeps.refl y true k s).setDevice) (·.reselect) fun hn => ?_
    have := t.arb.reselect_get .defrost
    exact fun he => hn (this.trans he)
  refine Keeps.applyArb (h.cold.trans (entered.whole (fun ho hn => ?_) (fun hs _ => ?_) (fun _ hn => ?_) fun _ hn => ?_))
  · have held : s.arb.table.manual ≠ none := fun he => hn ((t.arb.reselect_get .manual).trans (arb ▸ he))
    exact owner ▸ ho held
  · obtain ⟨ok, rest⟩ := hs
    obtain ⟨ha, -, hq⟩ : s.arb.active = none ∧ s.arb.stack = [] ∧ s.arb.queue = [.base] := by
      rcases hd with hd | hd <;> simpa [hd] using rest
    refine ⟨(State.demandsOk.posting_iff (s := t.updArb fun _ => t.arb.reselect.1)
      (by rw [State.updArb_osc, device]; rfl)).mpr ⟨?_, ?_⟩, Arb.markHas.ofFalse t.arb.reselect_expiring⟩
    · rw [State.updArb_arb, arb]
      exact (arbOk_iff.mp ok).1.ok_reselect ha
    · rw [State.updArb_arb, arb]
      exact Arb.reselect_active_ne (by simp [hq])
  · simp [device] at hn
  · simp [device] at hn

/-- The end of an entry into RUNNING, where `found` is the phase of a defrost record that still stands as the device found
it. -/
theorem Keeps.finishEntry (h : Keeps y true k r s) {found : DefrostPhase}
    (hp : found = .suspended → s.frg.defrost.phase.posts ∧ (r.endMarked → s.frg.defrost.endDue = none)) :
    Keeps y true true r (s.finishEntry found) := by
  have after {z l : Bool} {q : State} (hq : Keeps z true l q s) :
      Keeps z true true q s.inputPosts.tryHumidity.propagate.tryDryness.propagate :=
    hq.inputPosts.tryHumidity.propagate.tryDryness.propagate
  have waits := (after (Keeps.refl true true true s)).waits rfl
  have reposted : Keeps y true false r (s.entryPosts found) :=
    (after h).repostDefrost fun hf => ⟨(waits (hp hf).1).1, fun hr => (waits (hp hf).1).2 ((hp hf).2 hr)⟩
  exact reposted.dueStartTest.propagate.doorTest.propagate

theorem Keeps.entryEvaluation (h : Keeps y true k r s) : Keeps y true true r s.entryEvaluation :=
  Keeps.evaluateFrost (h.updFrg rfl)

/-- Before the zeroing completes: the rest of the state but the zero offsets, flags and captures. -/
theorem State.zeroAll_same (s : State) : s.zeroAll.osc = s.osc ∧ s.zeroAll.frg = s.frg := by
  have nozzle (t : State) (i : PathId) : (t.zeroNozzle i).osc = t.osc ∧ (t.zeroNozzle i).frg = t.frg := by
    unfold State.zeroNozzle
    dsimp only
    split
    · simp
    · exact ⟨rfl, rfl⟩
  have filter (t : State) (i : PathId) : (t.zeroFilter i).osc = t.osc ∧ (t.zeroFilter i).frg = t.frg := by
    unfold State.zeroFilter
    dsimp only
    split
    · simp
    · exact ⟨rfl, rfl⟩
  simp [State.zeroAll, nozzle, filter]

theorem Keeps.zeroAll (h : Keeps y w k r s) : Keeps y w false r s.zeroAll := h.zeroNozzle.zeroNozzle.zeroFilter.zeroFilter

theorem Keeps.activateHumidity (h : Keeps y w k r s) : Keeps y w k r s.activateHumidity := Keeps.deriveHumidity (h.updHum id)

theorem Keeps.enterFromStarting (h : Keeps y true k r s) (hd : s.osc.device = .starting) :
    Keeps y true true r s.enterFromStarting := by
  unfold State.enterFromStarting
  extract_lets a b c d
  have selected : Keeps y true true r b := (h.selectFirst (.inl hd) rfl).propagate
  have evaluated : Keeps y true true r c := selected.startLoad.activateHumidity.entryEvaluation
  clear_value c
  have released : Keeps y true true r d := evaluated.updDio rfl
  exact Keeps.finishEntry (Keeps.pollRound (released.updHum id)) (by simp)

theorem Keeps.enterFromWaking (h : Keeps y true k r s) (hd : s.osc.device = .waking)
    (hp : s.frg.defrost.phase = .suspended → r.endMarked → s.frg.defrost.endDue = none) :
    Keeps y true true r s.enterFromWaking := by
  let a := s.setDevice .running
  have entered {z l : Bool} {q : State} (hq : Keeps z true l q s) :
      Keeps z true true q (a.applyArb a.arb.reselect).propagate.entryEvaluation :=
    (hq.selectFirst (.inr hd) rfl).propagate.entryEvaluation
  have waits := (entered (Keeps.refl true true true s)).waits rfl
  refine (entered h).finishEntry fun hf => ?_
  have posts : s.frg.defrost.phase.posts := .inr (.inr (.inr hf))
  exact ⟨(waits posts).1, fun hr => (waits posts).2 (hp hf hr)⟩

/-! ### STANDBY and WAKE -/

theorem State.takeReport_standby {q : Report} (hq : q.kind = .freedByStandby) : (s.takeReport q).arb = s.arb := by
  have freed : (s.checkFreedByStandby).arb = s.arb := by
    unfold State.checkFreedByStandby
    split
    · rfl
    · rw [State.raiseFilterResult, State.raise_arb]
      rfl
  obtain ⟨kind, slot⟩ := q
  cases hq
  cases slot
  case filterCheck => exact freed
  all_goals rfl

/-- The posters' reports of what STANDBY frees leave the table. -/
theorem State.takeReports_standby {l : List Report} (hl : ∀ q ∈ l, q.kind = .freedByStandby) :
    (l.foldl State.takeReport s).arb = s.arb := by
  induction l generalizing s with
  | nil => rfl
  | cons q l ih =>
    rw [List.foldl_cons, ih fun q hq => hl q (List.mem_cons_of_mem _ hq)]
    exact State.takeReport_standby (hl q List.mem_cons_self)

theorem State.applyArb_standby (b : Bool) : (s.applyArb (s.arb.clearForStandby b)).arb = (s.arb.clearForStandby b).1 := by
  have reports : ∀ q ∈ (s.arb.clearForStandby b).2.filter (·.slot.internal), q.kind = .freedByStandby := by
    intro q hq
    obtain ⟨x, -, rfl⟩ := List.mem_map.mp (List.mem_filter.mp hq).1
    rfl
  unfold State.applyArb
  dsimp only
  rw [State.takeReports_standby reports]
  split
  · rfl
  · rw [State.raise_arb]
    rfl

theorem Defrost.standby_cases (d : Defrost) :
    d.standby.phase ≠ .prepare ∧ (d.standby.endDue = none ∨ d.standby = d)
      ∧ (d.phase.posts → d.standby.phase = .suspended ∧ (d.endDue = none → d.standby.endDue = none)) := by
  unfold Defrost.standby
  split <;> simp_all [DefrostPhase.posts]

/-- The table as STANDBY leaves it: BASE alone. -/
theorem Arb.clearForStandby_held (a : Arb) (b : Bool) {x : Slot} (hx : x ≠ .base) :
    (a.clearForStandby b).1.table.get x = none := by
  cases x with
  | base => exact absurd rfl hx
  | _ => rfl

theorem Arb.runsOk.clearForStandby {a : Arb} (h : a.runsOk) (b : Bool) : (a.clearForStandby b).1.runsOk := by
  refine ⟨fun x d n hx => h.1 x d n ?_, fun he => absurd he Bool.false_ne_true⟩
  by_cases e : x = .base
  · subst e
    exact hx
  · rw [a.clearForStandby_held b e] at hx
    cases hx

theorem Keeps.acceptStandby (h : Keeps y true k r s) : Keeps y true true r s.acceptStandby := by
  unfold State.acceptStandby
  extract_lets straight a b c
  have left : Keeps y false false s a := { Keeps.refl y false false s with owned := by simp, heater := by simp }
  have cleared : Keeps y false false s b := by
    refine Keeps.applyArb (left.updArb_loose (·.clearForStandby straight) fun hn => ?_)
    exact absurd (a.arb.clearForStandby_held straight (x := .defrost) (by decide)) hn
  have arb : b.arb = (s.arb.clearForStandby straight).1 := State.applyArb_standby (s := a) straight
  have free {x : Slot} (hx : x ≠ .base) : b.arb.table.get x = none := arb ▸ s.arb.clearForStandby_held straight hx
  obtain ⟨-, ended, stays⟩ := b.frg.defrost.standby_cases
  have waiting : Keeps y false false s c := by
    refine cleared.updDefrost_cold (fun hr hn => ?_) (fun _ hn => absurd (free (x := .defrost) (by decide)) hn)
      fun _ hd => ⟨.inr (.inr (.inr (stays hd).1)), (stays hd).2⟩
    have same : c.frg.defrost = b.frg.defrost := ended.resolve_left hn
    have := cleared.ends hr (same ▸ hn)
    exact same ▸ this
  have moved (d : DevState) (hd : d = if straight then .standby else .stopping) :
      Keeps y true false s (c.setDevice d) := by
    have arb' : (c.setDevice d).arb = (s.arb.clearForStandby straight).1 := by rw [State.setDevice_arb]; exact arb
    have device : (c.setDevice d).osc.device = d := by rw [State.setDevice_osc]
    refine waiting.setDevice.whole (fun _ hn => ?_) (fun hs _ => ⟨?_, Arb.markHas.ofFalse (by rw [arb']; rfl)⟩)
      (fun _ hn => ?_) fun _ hn => ?_
    · rw [arb'] at hn
      exact absurd (s.arb.clearForStandby_held straight (x := .manual) (by decide)) hn
    · unfold State.demandsOk
      rw [arb', device, hd]
      refine ⟨hs.1.clearForStandby straight, ?_⟩
      cases straight <;> exact ⟨rfl, rfl, rfl⟩
    · rw [device, hd] at hn
      split at hn <;> simp at hn
    · rw [device, hd] at hn
      split at hn <;> simp at hn
  exact (h.cold.trans (moved _ rfl)).propagate

theorem Keeps.startWaking (h : Keeps y true k r s) (hd : s.osc.device = .standby) : Keeps y true true r s.startWaking := by
  have waking : Keeps y true false s (s.setDevice .waking) := by
    refine (Keeps.refl y true false s).setDevice.whole (fun ho hn => ?_) (fun hs hm => ⟨?_, ?_⟩) (fun _ hn => ?_) fun _ hn => ?_
    · rw [State.setDevice_arb] at hn
      rw [State.setDevice_sup_owner]
      exact ho hn
    · obtain ⟨ok, alone⟩ := hs
      unfold State.demandsOk
      rw [State.setDevice_arb, State.setDevice_osc]
      exact ⟨ok, by simpa [hd] using alone⟩
    · rwa [State.setDevice_arb]
    · simp at hn
    · simp at hn
  unfold State.startWaking
  extract_lets a b
  have counted : Keeps y true false r a := (h.cold.trans waking).updOsc rfl
  have supply : Keeps y true false r b := counted.updAfc_cold fun hz => ⟨fun i => by
    cases i
    · exact hz.1 .supply
    · exact hz.1 .extract, hz.2⟩
  exact Keeps.propagate (k := false) (supply.updFlt id rfl rfl id id)

theorem Keeps.wakeFromStopping (h : Keeps y true k r s) (hd : s.osc.device = .stopping)
    (hp : s.frg.defrost.phase = .suspended → r.endMarked → s.frg.defrost.endDue = none) :
    Keeps y true true r s.wakeFromStopping := by
  have running : Keeps y true false s (s.setDevice .running) := by
    refine (Keeps.refl y true false s).setDevice.whole (fun ho hn => ?_) (fun hs hm => ⟨?_, ?_⟩) (fun _ hn => ?_) fun _ hn => ?_
    · rw [State.setDevice_arb] at hn
      rw [State.setDevice_sup_owner]
      exact ho hn
    · obtain ⟨ok, alone⟩ := hs
      refine (State.demandsOk.posting_iff (by rw [State.setDevice_osc]; rfl)).mpr ?_
      rw [State.setDevice_arb]
      rw [hd] at alone
      exact ⟨ok, by simp [alone.1]⟩
    · rwa [State.setDevice_arb]
    · simp at hn
    · simp at hn
  refine Keeps.finishEntry (h.cold.trans running) fun hf => ?_
  rw [State.setDevice_frg]
  exact ⟨.inr (.inr (.inr hf)), hp hf⟩

/-! ### Settings -/

theorem Keeps.setImbalance_of {n : Nat} (h : Keeps y w k r (s.updFrg fun g => { g with imbalance := n })) :
    Keeps y w k r (s.setImbalance n) := by
  unfold State.setImbalance
  dsimp only
  split
  · exact h
  · split
    · exact h.checkCapped
    · exact h.trySettle

/-- A written value reaches the working table, and the blocks that go by it. -/
theorem Keeps.takeSetting (h : Keeps y true k r s) {o : Origin} {id : Nat} {v : Int} {table : List Int}
    (ht : table = (writeSetting s.osc.working o id v).2.1) : Keeps y true k r (s.takeSetting id table) := by
  have valid : tableValid s.osc.working = true → tableValid table = true := fun hv => ht ▸ tableValid.write hv o id v
  have kept (hid : id ≠ 30) : settingNat table 30 = s.setting 30 := by
    unfold State.setting settingNat
    rw [ht, writeSetting_ne (Ne.symm hid)]
  unfold State.takeSetting
  split
  · exact h
  · refine Keeps.weaken ?_
    unfold State.settingChanged
    extract_lets a b
    have limited : Keeps y true false s a := by
      unfold a
      split
      · refine Keeps.setImbalance_of { Keeps.refl y true false s with
          tables := fun hs => ⟨valid hs.1, hs.2⟩, heater := by simp
          frost := fun _ hf => ⟨hf.1, min_le_right _ _⟩ }
      · next hid =>
        exact { Keeps.refl y true false s with
          tables := fun hs => ⟨valid hs.1, hs.2⟩, heater := by simp
          frost := fun _ hf => ⟨hf.1, hf.2.trans (kept hid).ge⟩ }
    have derived : Keeps y true false s b := by
      unfold b
      split
      · exact limited.deriveFilters
      · exact limited
    exact (h.cold.trans derived).propagate

theorem Keeps.startStore (h : Keeps y w k r s) : Keeps y w k r (s.updOsc Osc.startStore) := by
  refine h.updOsc ?_
  unfold Osc.startStore
  dsimp only
  split <;> rfl

theorem Keeps.stored (h : Keeps y w k r s) {c : SettingsWrite} : Keeps y w k r (s.updOsc (·.stored c)) := by
  refine h.updOsc ?_
  unfold Osc.stored
  dsimp only
  split <;> rfl

/-! ### The second -/

theorem Keeps.countSecond (h : Keeps y w k r s) : Keeps y w false r s.countSecond := by
  unfold State.countSecond
  extract_lets a b c
  have ticked : Keeps y w k r a := h.updOsc rfl
  have counted : Keeps y w false r b := by
    refine ticked.updHeater (fun hy hn => ?_) (fun hs hn => ?_) rfl
    · have : a.frg.runOn = 0 := hy hn
      simp [Frg.second, this]
    · have : a.frg.runOn = 0 := hs hn
      simp [Frg.second, this]
  have run : Keeps y w false r c := by
    unfold c
    split
    · exact counted.countRun
    · exact counted
  exact run.serviceSecond.busSecond

theorem Keeps.airSecond (h : Keeps y true k r s) {q : SecondReadings} : Keeps y true true r (s.airSecond q) := by
  unfold State.airSecond
  extract_lets oldS oldE a b
  have sensed : Keeps y true false r b := h.sensePath.sensePath
  exact sensed.regulatePath.regulatePath.propagate

theorem Keeps.readSecond (h : Keeps y true k r s) {q : SecondReadings} : Keeps y true true r (s.readSecond q) :=
  h.readTemp.readTemp.readTemp.readTemp.readFilter.propagate.readFilter.propagate

theorem Keeps.recordSecond (h : Keeps false true k r s) : Keeps false true true r s.recordSecond :=
  h.defrostSecond.checkSecond.accumulate.boostSecond.deriveHumidity.propagate

/-! ### FILTER_OPEN -/

/-- No poster's report starts a check. -/
theorem State.takeReport_checkIdle {q : Report} (h : s.flt.check.phase = .idle) : (s.takeReport q).flt.check.phase = .idle := by
  unfold State.takeReport
  split
  · unfold State.defrostActive
    split
    · rwa [State.raise_flt]
    all_goals exact h
  · unfold State.defrostPreempted
    split <;> exact h
  · unfold State.trySettle
    simpa [h] using h
  · unfold State.checkPreempted
    simpa [h] using h
  · unfold State.checkFreedByStandby
    simpa [h] using h
  all_goals exact h

theorem State.applyArb_checkIdle {b : Arb × List Report} (h : s.flt.check.phase = .idle) :
    (s.applyArb b).flt.check.phase = .idle := by
  have reports (l : List Report) (t : State) (ht : t.flt.check.phase = .idle) :
      (l.foldl State.takeReport t).flt.check.phase = .idle := by
    induction l generalizing t with
    | nil => exact ht
    | cons q l ih => exact ih _ (State.takeReport_checkIdle ht)
  unfold State.applyArb
  dsimp only
  refine reports _ _ ?_
  split
  · exact h
  · rwa [State.raise_flt]

theorem State.abandonCheck_idle (s : State) (o : CheckOutcome) : (s.abandonCheck o).flt.check.phase = .idle := by
  unfold State.abandonCheck
  split
  · assumption
  · rw [State.raiseFilterResult, State.raise_flt]
    exact State.applyArb_checkIdle rfl

/-- The device enters a state of a filter service from RUNNING, with no check in flight. -/
theorem Keeps.toService (h : Keeps y w k r s) {d : DevState} (hs : s.osc.device = .running)
    (hd : d = .servicePrepare ∨ d = .filterService) (hc : s.flt.check.phase = .idle)
    (hr : d = .filterService → s.frg.runOn = 0) : Keeps y w false r (s.setDevice d) := by
  have posting : d.posting = true := by rcases hd with rfl | rfl <;> rfl
  have running : s.osc.device.posting = true := by rw [hs]; rfl
  have moved : Keeps y w false s (s.updOsc fun o => { o with device := d }) :=
    { Keeps.refl y w false s with
      demands := fun _ ok hm => ⟨(State.demandsOk.posting_iff (s := s.updOsc fun o => { o with device := d }) posting).mpr
        ((State.demandsOk.posting_iff running).mp ok), hm⟩
      rests := fun _ _ _ => hc
      drained := fun _ _ => hr
      heater := by simp }
  exact (h.cold.trans moved).raise

theorem Keeps.filterOpen (h : Keeps y true k r s) (hd : s.osc.device = .running) : Keeps y true true r s.filterOpen := by
  unfold State.filterOpen
  extract_lets idle a
  have only : s.TableOnly a := .abandonCheck .deferred
  have device : a.osc.device = .running := by rw [only.osc, hd]
  have rests : a.flt.check.phase = .idle := s.abandonCheck_idle .deferred
  have ended : Keeps y true k r a := h.abandonCheck
  refine Keeps.propagate (k := false) ?_
  split
  · next hi =>
    have off : a.frg.runOn = 0 := by
      have : s.frg.applied = 0 ∧ s.frg.runOn = 0 := by simpa [idle, State.heaterIdle] using hi
      rw [only.frg]
      exact this.2
    exact Keeps.updFltRest (ended.toService device (.inr rfl) rests fun _ => off) rfl
  · exact ended.toService device (.inl rfl) rests (by simp)

end Blocks

end Sys2Proof.Machine
end

section
/-! Every row of the opcode table completes and keeps the invariants, and the statements that follow. -/

namespace Sys2Proof.Machine

/-! ### Requests -/

/-- A block's part of a request keeps the invariants. -/
def ActKeeps (act : State → Origin → List Byte → State × Reply) : Prop :=
  ∀ (r s : State) (o : Origin) (fields : List Byte), Keeps false true true r s →
    (r.frg.defrost = s.frg.defrost) → Keeps false true true r (act s o fields).1

section Requests

variable {r s : State}

theorem Keeps.answerUnknown {y w k : Bool} (h : Keeps y w k r s) {l : Link} : Keeps y w k r (s.answerUnknown l) := by
  unfold State.answerUnknown
  split
  · exact h
  · exact h.updLink

theorem Keeps.request (h : Keeps false true true r s) (hd : r.frg.defrost = s.frg.defrost) {l : Link} {q : RequestKind}
    {act : State → Origin → List Byte → State × Reply} (hact : ActKeeps act) :
    Keeps false true true r (s.request l q act) := by
  have checked (t : State) (f : Frame) (ht : Keeps false true true r t) (hd : r.frg.defrost = t.frg.defrost) :
      Keeps false true true r (t.checked l q f act).1 := by
    unfold State.checked
    split
    · exact ht
    · split
      · exact ht
      · dsimp only
        split
        · exact ht
        · split
          · exact ht
          · exact hact _ _ _ _ ht hd
  unfold State.request
  split
  · exact h
  · split
    · exact Keeps.answerUnknown (Keeps.updLink (checked _ _ h.updLink hd))
    · exact h

theorem Keeps.requireOrigin (h : Keeps false true true r s) {need o : Origin} {a : State × Reply}
    (ha : Keeps false true true r a.1) : Keeps false true true r (requireOrigin need o s a).1 := by
  unfold Machine.requireOrigin
  split
  · exact h
  · exact ha

/-- A request that its origin requirement lets through to one next state. -/
theorem Keeps.requireOrigin_to (h : Keeps false true true r s) {need o : Origin} {t : State} {a : Reply}
    (ht : Keeps false true true r t) : Keeps false true true r (Machine.requireOrigin need o s (t, a)).1 :=
  h.requireOrigin ht

theorem ActKeeps.ofRead {act : State → Origin → List Byte → State × Reply}
    (hact : ∀ s o fields, (act s o fields).1 = s) : ActKeeps act := fun r s o fields h _ => by rwa [hact]

theorem actQueryStatus_keeps : ActKeeps actQueryStatus := by
  intro r s o fields h _
  have elapsed : Keeps false true true r (s.updDio fun d =>
      { d with channels := d.channels.zipIdx.map fun c => c.1.elapse (Config.freeMs (s.freeCount + c.2)) }) :=
    h.updDio (by simp)
  exact elapsed.useFree.useFree.useFree.useFree

theorem actPostDemand_keeps (l : Link) : ActKeeps (actPostDemand l) := by
  intro r s o fields h _
  unfold actPostDemand
  split
  · split
    · exact h
    · split
      · exact h
      · split
        · exact h
        · next hw =>
          dsimp only
          have link := Origin.mayWrite_link hw
          refine h.linkPost ?_ ?_ ?_ <;> rcases link with rfl | rfl | rfl <;> decide
  · exact h

theorem actCancelDemand_keeps : ActKeeps actCancelDemand := by
  intro r s o fields h _
  unfold actCancelDemand
  split
  · split
    · exact h
    · split
      · exact h
      · split
        · exact h
        · next hw =>
          dsimp only
          have link := Origin.mayWrite_link hw
          refine h.cancel ?_
          rcases link with rfl | rfl | rfl <;> decide
  · exact h

theorem actProbeSensor_keeps : ActKeeps actProbeSensor := by
  intro r s o fields h _
  unfold actProbeSensor
  split
  · refine h.requireOrigin ?_
    dsimp only
    split
    · exact h
    · split
      case h_2 | h_3 => exact h.enterProbing
      case h_4 => exact h.updSensor
      all_goals exact h
  · exact h

theorem actCheckFilters_keeps : ActKeeps actCheckFilters := by
  intro r s o fields h _
  unfold actCheckFilters
  split
  · exact h
  · next hd =>
    refine h.requireOrigin ?_
    split
    · exact h
    · dsimp only
      exact (h.startCheck (not_not.mp hd)).propagate

theorem actFilterOpen_keeps : ActKeeps actFilterOpen := by
  intro r s o fields h _
  unfold actFilterOpen
  split
  · exact h
  · next hd =>
    refine h.requireOrigin ?_
    split
    · exact h
    · dsimp only
      exact h.filterOpen (not_not.mp hd)

theorem actFilterClose_keeps : ActKeeps actFilterClose := by
  intro r s o fields h _
  unfold actFilterClose
  split
  · exact h
  · next hd =>
    refine h.requireOrigin ?_
    split
    · exact h
    · dsimp only
      exact h.returnToRunning (by rw [not_not.mp hd]; rfl)

theorem actFilterChanged_keeps : ActKeeps actFilterChanged := by
  intro r s o fields h _
  unfold actFilterChanged
  split
  · split
    · exact h
    · refine h.requireOrigin ?_
      split
      · exact h
      · dsimp only
        exact h.filtersChanged
  · exact h

theorem actClearFlags_keeps : ActKeeps actClearFlags := by
  intro r s o fields h _
  refine h.requireOrigin ?_
  split
  · exact h
  · dsimp only
    exact h.clearFlags.propagate

/-- The watch configuration is of no invariant. -/
theorem Keeps.setWatch {y w k : Bool} (h : Keeps y w k r s) {c : Watch} : Keeps y w k r (s.updArb fun b => { b with watch := c }) :=
  h.trans { Keeps.refl y w k s with
    demands := fun _ hd hm => ⟨⟨⟨hd.1.placed, hd.1.apart, hd.1.top, hd.1.base⟩, hd.2⟩, hm⟩ }

theorem actSetWatch_keeps : ActKeeps actSetWatch := by
  intro r s o fields h _
  unfold actSetWatch
  split
  · refine h.requireOrigin ?_
    split
    · exact h.setWatch
    · exact h
  · exact h

theorem actReleaseCapture_keeps : ActKeeps actReleaseCapture := by
  intro r s o fields h _
  refine h.requireOrigin (h.updSup ?_)
  unfold Sup.release
  split <;> rfl

/-- A link takes the ownership that no other has. -/
theorem Keeps.takeOwner {y w k : Bool} (h : Keeps y w k r s) {l : Link} :
    Keeps y w k r (s.updSup fun u => { u with owner := some l }) :=
  h.trans { Keeps.refl y w k s with owned := fun _ _ _ => by simp }

theorem actClaimManual_keeps (l : Link) : ActKeeps (actClaimManual l) := by
  intro r s o fields h _
  unfold actClaimManual
  split
  · exact h
  · refine h.requireOrigin ?_
    split
    · exact h
    · split
      · exact h.takeOwner
      · split <;> exact h

theorem actReleaseManual_keeps (l : Link) : ActKeeps (actReleaseManual l) := by
  intro r s o fields h _
  refine h.requireOrigin ?_
  split
  · dsimp only
    exact h.releaseOwner
  · exact h

theorem ManualOutputs.clamp_run (m : ManualOutputs) : ∀ n, m.clamp.run = some n → 1 ≤ n ∧ n ≤ 14400 := by
  intro n hn
  unfold ManualOutputs.clamp at hn
  dsimp only at hn
  split at hn <;> cases hn
  · unfold clampN
    split_ifs <;> omega
  · omega

theorem actManualOutputs_keeps (l : Link) : ActKeeps (actManualOutputs l) := by
  intro r s o fields h _
  unfold actManualOutputs
  split
  · split
    · exact h
    · refine h.requireOrigin ?_
      split
      · exact h
      · next ho =>
        split
        · exact h
        · dsimp only
          exact h.postManual (by simp [not_not.mp ho]) (ManualOutputs.clamp_run _)
  · exact h

theorem actSetSetting_keeps : ActKeeps actSetSetting := by
  intro r s o fields h _
  unfold actSetSetting
  split
  · dsimp only
    split
    · exact h
    · exact h
    · exact h.takeSetting rfl
    · exact h.takeSetting rfl
  · exact h

theorem actStoreSettings_keeps : ActKeeps actStoreSettings := by
  intro r s o fields h _
  refine h.requireOrigin ?_
  split
  · exact h
  · exact h.startStore

theorem actStandby_keeps : ActKeeps actStandby := by
  intro r s o fields h _
  unfold actStandby
  split
  · exact h
  · exact h.requireOrigin_to h.acceptStandby

/-- The end of a defrost is marked in no SUSPENDED record. -/
theorem State.endMarked.suspended (h : r.endMarked) (hp : r.frg.defrost.phase = .suspended) : r.frg.defrost.endDue = none := by
  by_contra hn
  simpa [hp] using h hn

theorem actWake_keeps : ActKeeps actWake := by
  intro r s o fields h same
  have suspended (hp : s.frg.defrost.phase = .suspended) (hr : r.endMarked) : s.frg.defrost.endDue = none :=
    same ▸ hr.suspended (same ▸ hp)
  unfold actWake
  split
  · next hd => exact h.requireOrigin_to (h.wakeFromStopping hd suspended)
  · next hd => exact h.requireOrigin_to (h.startWaking hd)
  all_goals exact h

theorem actRestart_keeps (l : Link) : ActKeeps (actRestart l) := by
  intro r s o fields h _
  exact h.requireOrigin_to h.updLnk

theorem actGetNotices_keeps (l : Link) : ActKeeps (actGetNotices l) := by
  intro r s o fields h _
  exact Keeps.updLnk (f := (·.setQueue l (s.lnk.queue l).fetch.1)) h

end Requests

/-! ### Rows -/

/-- A row answers a next state, in which the invariants are kept. -/
def Completes (s : State) (a : Answer) : Prop := ∃ t, a = .next t ∧ Keeps false true true s t

theorem Completes.next {s t : State} (h : Keeps false true true s t) : Completes s (.next t) := ⟨t, rfl, h⟩

theorem Completes.same (s : State) : Completes s (.next s) := .next (.refl ..)

/-- A row that makes its change where it is due, and nothing otherwise (log 1). -/
theorem Completes.guarded {s t : State} {c : Prop} [Decidable c] (h : c → Keeps false true true s t) :
    Completes s (if c then .next t else .next s) := by
  split
  · next hc => exact .next (h hc)
  · exact .same s

theorem Completes.request {s : State} {l : Link} {q : RequestKind} {act : State → Origin → List Byte → State × Reply}
    (hact : ActKeeps act) : Completes s (.next (s.request l q act)) := .next ((Keeps.refl ..).request rfl hact)

section Rows

variable (s : State)

/-- Nothing has happened yet. -/
theorem State.keeps : Keeps false true true s s := .refl ..

theorem execDemandExpiry_completes : Completes s (execDemandExpiry s) := by
  unfold execDemandExpiry
  split
  · next x he =>
    have freed : Keeps false true true s (s.updArb fun _ => (s.arb.expire x).1) :=
      s.keeps.updArb (.free fun hd hm => hd.1.expiry_ne_base hm he) Arb.free_manual
    exact .next freed.applyArb.propagate
  · exact .same s

theorem execUptimeTick_completes (q : SecondReadings) : Completes s (execUptimeTick q s) :=
  .guarded fun _ => s.keeps.countSecond.airSecond.readSecond.recordSecond

theorem execSpinupEnd_completes (i : PathId) : Completes s (execSpinupEnd i s) := by
  unfold execSpinupEnd
  dsimp only
  split
  · split
    · refine .next (Keeps.propagate (k := false) (s.keeps.movePath_cold ?_))
      unfold FanPath.started
      repeat' split
      all_goals rfl
    · exact .next s.keeps.stallPath
  · exact .same s

theorem execStallDetected_completes (i : PathId) : Completes s (execStallDetected i s) := .guarded fun _ => s.keeps.stallPath

theorem execRetryEnd_completes (i : PathId) : Completes s (execRetryEnd i s) :=
  .guarded fun _ => Keeps.propagate (k := false) (s.keeps.movePath_cold rfl)

theorem execGoodTimeComplete_completes (i : PathId) : Completes s (execGoodTimeComplete i s) :=
  .guarded fun _ => s.keeps.movePath_still rfl rfl rfl

theorem execShortfallReported_completes (i : PathId) : Completes s (execShortfallReported i s) := by
  have reported : Keeps false true true s (s.movePath i { s.afc.path i with shortfallStanding := true }) :=
    s.keeps.movePath_still rfl rfl rfl
  unfold execShortfallReported
  dsimp only
  split
  · exact .next reported.setFlag.raise.shortfallPrompt.propagate
  · exact .same s

theorem execHoldExpired_completes (i : TempId) : Completes s (execHoldExpired i s) :=
  .guarded fun _ => s.keeps.invalidate.propagate

theorem execFrostEvaluation_completes : Completes s (execFrostEvaluation s) :=
  .guarded fun _ => Keeps.evaluateFrost (s.keeps.updFrg rfl)

theorem execRunOnEnd_completes : Completes s (execRunOnEnd s) :=
  .guarded fun hc => (s.keeps.runOnEnded hc.1).propagate

theorem execHeaterWindowEnd_completes : Completes s (execHeaterWindowEnd s) := .guarded fun _ => s.keeps.updFrg rfl

theorem execHeaterOnTimeEnd_completes : Completes s (execHeaterOnTimeEnd s) := .guarded fun _ => s.keeps.updFrg rfl

/-- The result of a defrost enters its record. -/
theorem Keeps.recordDefrost {s : State} {e : DefrostEnd} {m n : Nat} : Keeps false true true s
    (s.updDefrost fun d => { d with lastResult := some e, elapsed := m, confirm := n }) :=
  s.keeps.updDefrost id id (fun h => absurd h (by decide)) id

theorem execDefrostCleared_completes : Completes s (execDefrostCleared s) := by
  unfold execDefrostCleared
  split
  · exact .next Keeps.recordDefrost.endDefrost
  · exact .same s

theorem execDefrostIncomplete_completes : Completes s (execDefrostIncomplete s) := by
  unfold execDefrostIncomplete
  split
  · extract_lets a b c
    have faulted : Keeps false true true s b := Keeps.recordDefrost.faultEvent
    have loaded : Keeps false true true s c := faulted.updLoad (fun ht hf => ⟨ht.halfTrip, hf.2⟩) rfl
    exact .next loaded.endDefrost
  · exact .same s

theorem execLockoutEnd_completes : Completes s (execLockoutEnd s) := by
  refine .guarded fun hc => s.keeps.updDefrost (fun he hn => ?_) (fun hp hn => ?_) (by simp)
    (by simp [DefrostPhase.inProgress])
  · simpa [hc.1] using he hn
  · simpa [hc.1] using hp hn

theorem releaseSequence_untested : BusItem.lineTest ∉ releaseSequence := by decide

/-- What the head of the queue puts on the bus holds no line test of its own (R86). -/
theorem Hum.headSequence_untested (h : Hum) : BusItem.lineTest ∉ h.headSequence := by
  have untested (k : BusKind) (a : Nat) : BusItem.lineTest ∉ k.sequence a := by
    cases k <;> simp [BusKind.sequence]
  unfold Hum.headSequence
  split
  · split
    · exact untested _ _
    · simp
  · simp

theorem execTransactionStart_completes : Completes s (execTransactionStart s) := by
  refine .guarded fun _ => s.keeps.updHum fun _ _ => ?_
  refine ⟨if s.hum.bus.releaseDue then releaseSequence else [], s.hum.headSequence, ?_, s.hum.headSequence_untested, rfl⟩
  split
  · exact releaseSequence_untested
  · simp

theorem execProbeComplete_completes (a : ProbeReply) : Completes s (execProbeComplete a s) := by
  unfold execProbeComplete
  split
  · exact .next s.keeps.completeHead.probed
  · exact .same s

theorem execMeasureComplete_completes (m : MeasureReply) : Completes s (execMeasureComplete m s) := by
  unfold execMeasureComplete
  split
  · exact .next s.keeps.completeHead.measured
  · exact .same s

theorem execStretchTimeout_completes : Completes s (execStretchTimeout s) := by
  unfold execStretchTimeout
  split
  · exact .next s.keeps.stretched.probed
  · exact .next s.keeps.stretched.measured
  · exact .same s

theorem execRecoveryEnd_completes : Completes s (execRecoveryEnd s) :=
  .guarded fun _ => s.keeps.updHum fun _ => .idle (by simp)

theorem execPollRound_completes : Completes s (execPollRound s) := by
  unfold execPollRound
  split
  · exact .guarded fun _ => Keeps.pollRound (s.keeps.updHum id)
  · exact .same s

theorem execProbePauseEnd_completes (n : Nat) : Completes s (execProbePauseEnd n s) := by
  unfold execProbePauseEnd
  split
  · exact .guarded fun _ => s.keeps.updSensor.offerBus
  · exact .same s

theorem execLostTimeEnd_completes (n : Nat) : Completes s (execLostTimeEnd n s) := by
  unfold execLostTimeEnd
  split
  · exact .guarded fun _ => s.keeps.enterProbing
  · exact .same s

theorem execBoostLimit_completes (n : Nat) : Completes s (execBoostLimit n s) := by
  unfold execBoostLimit
  split
  · exact .guarded fun _ => s.keeps.endBoost.propagate
  · exact .same s

theorem execHoldoffEnd_completes (n : Nat) : Completes s (execHoldoffEnd n s) := by
  unfold execHoldoffEnd
  split
  · exact .guarded fun _ => s.keeps.updSensor
  · exact .same s

theorem execRingTick_completes : Completes s (execRingTick s) :=
  .guarded fun _ => (Keeps.evaluateDryness (s.keeps.updHum id)).propagate.tryHumidity.propagate.tryDryness.propagate

theorem execRunHour_completes : Completes s (execRunHour s) := .guarded fun _ => s.keeps.runHour

theorem execSettleStable_completes : Completes s (execSettleStable s) :=
  .guarded fun hc => s.keeps.updCheck fun hs => hs.updCheck_flying (by simp [hc.1])

theorem execSettleTimeout_completes : Completes s (execSettleTimeout s) :=
  .guarded fun _ => s.keeps.setFlag.abandonCheck.propagate

theorem execCheckWaitingExpired_completes : Completes s (execCheckWaitingExpired s) :=
  .guarded fun _ => s.keeps.abandonCheck.propagate

theorem execEvaluate_completes : Completes s (execEvaluate s) :=
  .guarded fun _ => s.keeps.evaluateFilters.completeCheck.propagate

theorem execServiceTimerEnd_completes : Completes s (execServiceTimerEnd s) := by
  unfold execServiceTimerEnd
  split
  · next hc =>
    split
    · exact .next (s.keeps.returnToRunning (by rw [hc.1]; rfl))
    · exact .next (Keeps.raise (s.keeps.updFltRest rfl))
  · exact .same s

/-- A successful filter write leaves its snapshot in its copy (R140). -/
theorem Keeps.written {s : State} {wr : FilterWrite} (hw : s.flt.writing = some wr) :
    Keeps false true true s (s.updFlt (·.written wr)) := by
  obtain ⟨snapshot, target, count⟩ := wr
  cases target with
  | first =>
    refine Keeps.updFlt (f := fun t => { t with copy1 := .sealed snapshot count }) s.keeps ?_ rfl rfl id id
    exact fun ⟨block, _, second, write⟩ => ⟨block, write _ hw, second, write⟩
  | second =>
    refine Keeps.updFlt (f := fun t => { t with copy2 := .sealed snapshot count }) s.keeps ?_ rfl rfl id id
    exact fun ⟨block, first, _, write⟩ => ⟨block, first, write _ hw, write⟩

theorem execFilterWriteComplete_completes (ok : Bool) : Completes s (execFilterWriteComplete ok s) := by
  unfold execFilterWriteComplete
  split
  · exact .same s
  · next wr hw =>
    extract_lets a
    have ended : Keeps false true true s a := by
      unfold a
      split
      · exact .written hw
      · exact s.keeps.setFlag
    have free : Keeps false true true s (a.updFlt fun t => { t with writing := none }) := by
      refine ended.updFlt (fun hs => ?_) rfl rfl id id
      obtain ⟨block, first, second, -⟩ := hs
      exact ⟨block, first, second, by simp⟩
    have twoSteps : (a.updFlt fun t => let t := { t with writing := none }; if t.again then t.startWrite else t)
        = (a.updFlt fun t => { t with writing := none }).updFlt fun t => if t.again then t.startWrite else t := rfl
    rw [twoSteps]
    refine .next ?_
    generalize a.updFlt (fun t => { t with writing := none }) = u at free
    by_cases again : u.flt.again = true
    · exact free.startWrite (by simp [again])
    · have same : (u.updFlt fun t => if t.again then t.startWrite else t) = u := by
        simp [State.updFlt, again]
      rwa [same]

theorem execStoreComplete_completes (ok : Bool) : Completes s (execStoreComplete ok s) := by
  unfold execStoreComplete
  split
  · exact .same s
  · next c _ =>
    have ended : Keeps false true true s (s.updOsc fun o => { o with writing := none }) := s.keeps.updOsc rfl
    dsimp only
    split
    · exact .next (Keeps.raise ended.stored)
    · exact .next ended.setFlag

theorem execZeroingComplete_completes : Completes s (execZeroingComplete s) := by
  obtain ⟨osc, frg⟩ := s.zeroAll_same
  unfold execZeroingComplete
  split
  · split
    · next hd => exact .next (s.keeps.zeroAll.enterFromStarting (osc ▸ hd))
    · next hd =>
      refine .next (s.keeps.zeroAll.enterFromWaking (osc ▸ hd) ?_)
      rw [frg]
      exact fun hp hr => hr.suspended hp
    all_goals exact .same s
  · exact .same s

theorem execRawContactChange_completes (line : InputLine) (c : Contact) : Completes s (execRawContactChange line c s) := by
  cases line with
  | input n => exact .next s.keeps.updChannel
  | cutout => exact .next (s.keeps.updDio rfl)

theorem execInputDebounced_completes (n : Nat) : Completes s (execInputDebounced n s) := by
  unfold execInputDebounced
  split
  · split
    · exact .same s
    · exact .next s.keeps.debounced
  · exact .same s

theorem execCutoutDebounced_completes : Completes s (execCutoutDebounced s) := by
  unfold execCutoutDebounced
  split
  · exact .same s
  · exact .next (Keeps.reportCutout (s.keeps.updDio rfl))

/-! ### The rows of the links -/

theorem execFrameArrived_completes (l : Link) (b : Byte) (ok : Bool) : Completes s (execFrameArrived l b ok s) := by
  unfold execFrameArrived
  split
  · exact .next s.keeps.updLink.answerUnknown
  · exact .same s

theorem execFrameError_completes (l : Link) (b : Byte) (ok : Bool) : Completes s (execFrameError l b ok s) := by
  unfold execFrameError
  split
  · exact .next s.keeps.updLink
  · exact .same s

theorem execFrameTimeout_completes (l : Link) : Completes s (execFrameTimeout l s) := .guarded fun _ => s.keeps.updLink

theorem execByteReceived_completes (l : Link) (b : Byte) (ok : Bool) : Completes s (execByteReceived l b ok s) := by
  unfold execByteReceived
  split
  · exact .next s.keeps.updLink
  · exact .same s

theorem execLinkBreak_completes (l : Link) : Completes s (execLinkBreak l s) := by
  have broken : Keeps false true true s (s.updLink l LinkRec.break) := s.keeps.updLink
  unfold execLinkBreak
  split
  · exact .same s
  · refine .next (Keeps.restartIfSent ?_)
    split
    · exact broken.releaseOwner
    · exact broken

theorem execReplyTransmitted_completes (l : Link) : Completes s (execReplyTransmitted l s) := by
  unfold execReplyTransmitted
  split
  · exact .same s
  · exact .next s.keeps.updLink.restartIfSent

end Rows

/-! ### Every command -/

/-- Every command answers a next state in which the invariants are kept. -/
theorem exec_completes (c : Instr) (s : State) : Completes s (exec c s) := by
  cases c with
  | powerOn => exact .next s.keeps.powerUp
  | queryStatus l => exact .request actQueryStatus_keeps
  | readDemands l => exact .request (.ofRead actReadDemands_state)
  | postDemand l => exact .request (actPostDemand_keeps l)
  | cancelDemand l => exact .request actCancelDemand_keeps
  | readAirflow l => exact .request (.ofRead fun _ _ _ => rfl)
  | readFrost l => exact .request (.ofRead fun _ _ _ => rfl)
  | readSensors l => exact .request (.ofRead actReadSensors_state)
  | probeSensor l => exact .request actProbeSensor_keeps
  | readFilters l => exact .request (.ofRead actReadFilters_state)
  | checkFilters l => exact .request actCheckFilters_keeps
  | filterOpen l => exact .request actFilterOpen_keeps
  | filterClose l => exact .request actFilterClose_keeps
  | filterChanged l => exact .request actFilterChanged_keeps
  | getNotices l => exact .request (actGetNotices_keeps l)
  | readFlags l => exact .request (.ofRead fun _ _ _ => rfl)
  | clearFlags l => exact .request actClearFlags_keeps
  | readCapture l => exact .request (.ofRead fun _ _ _ => rfl)
  | releaseCapture l => exact .request actReleaseCapture_keeps
  | setWatch l => exact .request actSetWatch_keeps
  | claimManual l => exact .request (actClaimManual_keeps l)
  | releaseManual l => exact .request (actReleaseManual_keeps l)
  | manualOutputs l => exact .request (actManualOutputs_keeps l)
  | getSetting l => exact .request (.ofRead actGetSetting_state)
  | setSetting l => exact .request actSetSetting_keeps
  | storeSettings l => exact .request actStoreSettings_keeps
  | standby l => exact .request actStandby_keeps
  | wake l => exact .request actWake_keeps
  | restart l => exact .request (actRestart_keeps l)
  | frameArrived l b stopOk => exact execFrameArrived_completes s l b stopOk
  | frameError l b stopOk => exact execFrameError_completes s l b stopOk
  | frameTimeout l => exact execFrameTimeout_completes s l
  | linkBreak l => exact execLinkBreak_completes s l
  | replyTransmitted l => exact execReplyTransmitted_completes s l
  | uptimeTick r => exact execUptimeTick_completes s r
  | demandExpiry => exact execDemandExpiry_completes s
  | spinupEnd p => exact execSpinupEnd_completes s p
  | stallDetected p => exact execStallDetected_completes s p
  | retryEnd p => exact execRetryEnd_completes s p
  | goodTimeComplete p => exact execGoodTimeComplete_completes s p
  | shortfallReported p => exact execShortfallReported_completes s p
  | holdExpired i => exact execHoldExpired_completes s i
  | frostEvaluation => exact execFrostEvaluation_completes s
  | runOnEnd => exact execRunOnEnd_completes s
  | heaterWindowEnd => exact execHeaterWindowEnd_completes s
  | heaterOnTimeEnd => exact execHeaterOnTimeEnd_completes s
  | defrostCleared => exact execDefrostCleared_completes s
  | defrostIncomplete => exact execDefrostIncomplete_completes s
  | lockoutEnd => exact execLockoutEnd_completes s
  | transactionStart => exact execTransactionStart_completes s
  | probeComplete ack => exact execProbeComplete_completes s ack
  | measureComplete m => exact execMeasureComplete_completes s m
  | stretchTimeout => exact execStretchTimeout_completes s
  | recoveryEnd => exact execRecoveryEnd_completes s
  | pollRound => exact execPollRound_completes s
  | probePauseEnd n => exact execProbePauseEnd_completes s n
  | lostTimeEnd n => exact execLostTimeEnd_completes s n
  | boostLimit n => exact execBoostLimit_completes s n
  | holdoffEnd n => exact execHoldoffEnd_completes s n
  | ringTick => exact execRingTick_completes s
  | runHour => exact execRunHour_completes s
  | settleStable => exact execSettleStable_completes s
  | settleTimeout => exact execSettleTimeout_completes s
  | checkWaitingExpired => exact execCheckWaitingExpired_completes s
  | evaluate => exact execEvaluate_completes s
  | serviceTimerEnd => exact execServiceTimerEnd_completes s
  | filterWriteComplete ok => exact execFilterWriteComplete_completes s ok
  | storeComplete ok => exact execStoreComplete_completes s ok
  | zeroingComplete => exact execZeroingComplete_completes s
  | rawContactChange line c => exact execRawContactChange_completes s line c
  | inputDebounced n => exact execInputDebounced_completes s n
  | cutoutDebounced => exact execCutoutDebounced_completes s
  | byteReceived l b stopOk => exact execByteReceived_completes s l b stopOk
  | lineReturnsToMark l => exact .next s.keeps.updLink

/-- A step keeps the invariants too; the queue of commands is of none of them (log 8). -/
theorem step_keeps {s t : State} (h : step s = .next t) :
    ∃ rest, Keeps false true true { s with pending := rest } t := by
  unfold step at h
  split at h
  · next e =>
    cases h
    exact ⟨s.pending, .refl ..⟩
  · next c rest _ =>
    obtain ⟨u, hu, keeps⟩ := exec_completes c { s with pending := rest }
    cases hu.symm.trans h
    exact ⟨rest, keeps⟩

/-! ### The statements -/

/-- Settles O2: each row's own lemma. -/
theorem everyCommandCompletes : Obligations.EveryCommandCompletes := by
  intro c s
  obtain ⟨t, ht, keeps⟩ := exec_completes c s
  exact ⟨t, ht, keeps.pending⟩

/-- Settles O55: both tables are written by the load and by SET_SETTING, which keep them valid. -/
theorem settingsTablesKept : Obligations.SettingsTablesKept := by
  intro s t hs ht
  obtain ⟨rest, keeps⟩ := step_keeps ht
  exact keeps.tables hs

/-- Settles O56: every change of the table is a post, a freeing, a reselection or a clearing in a device state that fits it. -/
theorem demandTableKept : Obligations.DemandTableKept := by
  intro s t ht
  obtain ⟨rest, keeps⟩ := step_keeps ht
  exact ⟨fun hs hr => (keeps.demands rfl hs hr.markTimed).1, fun hs => ⟨keeps.rests rfl hs.1, keeps.drained rfl hs.2⟩,
    keeps.ends⟩

/-- Settles O57: the propagation of a change brings the interlock back. -/
theorem heaterInterlockKept : Obligations.HeaterInterlockKept := by
  intro s t hs ht
  obtain ⟨rest, keeps⟩ := step_keeps ht
  exact keeps.heater rfl hs

/-- Settles O58: MANUAL is posted for its owner alone and goes with it; DEFROST is posted in the phases that hold it. -/
theorem postersKeepSlots : Obligations.PostersKeepSlots := by
  intro s t ht
  obtain ⟨rest, keeps⟩ := step_keeps ht
  exact ⟨keeps.owned rfl, keeps.posted⟩

/-- Settles O60: each range by the operations that write the value. -/
theorem rangesKept : Obligations.RangesKept := by
  intro s t ht
  obtain ⟨rest, keeps⟩ := step_keeps ht
  exact ⟨keeps.histories, keeps.frost, keeps.zeros, keeps.runs, keeps.flight, keeps.channels.trans, keeps.accumulator⟩

end Sys2Proof.Machine
end

section
/-! The control links: a row whose event is not due, bytes and frames, breaks and replies, and the checks of a request. -/

open Sys2Proof Sys2Proof.Machine

namespace Sys2Proof.Machine

/-! ### The record of a link -/

theorem Lnk.setLink_link (k : Lnk) (l : Link) : k.setLink l (k.link l) = k := by cases l <;> rfl

theorem Lnk.link_setLink_ne (k : Lnk) {l m : Link} (r : LinkRec) (h : m ≠ l) : (k.setLink l r).link m = k.link m := by
  cases l <;> cases m <;> simp_all [Lnk.setLink, Lnk.link]

theorem State.updLink_updLink (s : State) (l : Link) (f g : LinkRec → LinkRec) :
    (s.updLink l f).updLink l g = s.updLink l fun r => g (f r) := by
  simp only [State.updLink, State.updLnk, Lnk.link_setLink, Lnk.setLink_setLink]

theorem State.updLink_congr {s : State} {l : Link} {f g : LinkRec → LinkRec}
    (h : f (s.lnk.link l) = g (s.lnk.link l)) : s.updLink l f = s.updLink l g := by
  simp only [State.updLink, State.updLnk, h]

theorem State.updLink_same {s : State} {l : Link} {f : LinkRec → LinkRec} (h : f (s.lnk.link l) = s.lnk.link l) :
    s.updLink l f = s := by
  simp only [State.updLink, State.updLnk, h, Lnk.setLink_link]

/-! ### Frames of unknown kind -/

theorem State.answerUnknown_restarting {s : State} {l : Link} (h : s.lnk.restarting ≠ none) : s.answerUnknown l = s :=
  if_pos (Option.isSome_iff_ne_none.mpr h)

theorem State.answerUnknown_eq {s : State} {l : Link} (h : s.lnk.restarting = none) :
    s.answerUnknown l = s.updLink l fun r =>
      { r with
        waiting := r.waiting.dropWhile fun f => !kindKnown f.kind
        replies := r.replies ++
          (r.waiting.takeWhile fun f => !kindKnown f.kind).map fun f => replyFrame f .occupant (.bare .badRequest) } := by
  unfold State.answerUnknown
  rw [if_neg (by simp [h])]

/-- A link whose oldest frame is of a known kind waits for the row of that kind. -/
theorem State.answerUnknown_known {s : State} {l : Link}
    (h : ∀ g, (s.lnk.link l).waiting.head? = some g → kindKnown g.kind = true) : s.answerUnknown l = s := by
  unfold State.answerUnknown
  split
  · rfl
  · refine State.updLink_same ?_
    revert h
    generalize s.lnk.link l = r
    obtain ⟨_, waiting, _, _, _, _⟩ := r
    cases waiting with
    | nil => simp
    | cons g rest => simp_all

/-! ### A request -/

theorem State.nextFrame_some {s : State} {l : Link} {f : Frame} (h : s.nextFrame l = some f) :
    s.lnk.restarting = none ∧ ∃ rest, (s.lnk.link l).waiting = f :: rest := by
  unfold State.nextFrame at h
  split at h
  · cases h
  · next hr => exact ⟨by simpa using hr, by simpa [List.head?_eq_some_iff] using h⟩

/-- A state whose link `l` has handed its oldest frame on. -/
def State.handed (s : State) (l : Link) : State := s.updLink l fun r => { r with waiting := r.waiting.drop 1 }

/-- The state before `f` was handed on by link `l`. -/
def State.holding (s : State) (l : Link) (f : Frame) : State := s.updLink l fun r => { r with waiting := f :: r.waiting }

theorem State.holding_handed {s : State} {l : Link} {f : Frame} (h : s.nextFrame l = some f) :
    (s.handed l).holding l f = s := by
  obtain ⟨_, rest, hw⟩ := State.nextFrame_some h
  rw [State.handed, State.holding, State.updLink_updLink]
  refine State.updLink_same ?_
  revert hw
  generalize s.lnk.link l = r
  rintro hw
  cases r
  simp_all

theorem State.handed_holding (s : State) (l : Link) (f : Frame) : (s.holding l f).handed l = s := by
  rw [State.handed, State.holding, State.updLink_updLink]
  exact State.updLink_same rfl

/-- How a request is answered once its checks have led to `t` with the reply `r`. -/
theorem State.handed_answered {u : State} {l : Link} {f : Frame} {o : Origin} {r : Reply} (hr : u.lnk.restarting = none) :
    ((u.handed l).updLink l fun k => { k with replies := k.replies ++ [replyFrame f o r] }).answerUnknown l
      = u.afterReply l f o r := by
  rw [State.handed, State.updLink_updLink, State.answerUnknown_eq (by simpa using hr), State.updLink_updLink]
  rfl

theorem State.request_due {s : State} {l : Link} {k : RequestKind} {f : Frame}
    {act : State → Origin → List Byte → State × Reply} (hf : s.nextFrame l = some f) (hk : f.kind.toNat = k.code) :
    s.request l k act
      = (((s.handed l).checked l k f act).1.updLink l fun r =>
          { r with replies := r.replies ++
            [replyFrame f ((s.handed l).checked l k f act).2.1 ((s.handed l).checked l k f act).2.2] }).answerUnknown l := by
  unfold State.request
  rw [hf]
  dsimp only
  rw [if_pos hk]
  rfl

theorem State.request_notDue {s : State} {l : Link} {k : RequestKind} {act : State → Origin → List Byte → State × Reply}
    (h : ∀ f, s.nextFrame l = some f → f.kind.toNat ≠ k.code) : s.request l k act = s := by
  unfold State.request
  split
  · rfl
  · next f hf => exact if_neg (h f hf)

/-- A request that fails a check changes nothing but its link. -/
theorem State.request_refused {s : State} {l : Link} {k : RequestKind} {f : Frame} {o : Origin} {r : Reply}
    {act : State → Origin → List Byte → State × Reply} (hf : s.nextFrame l = some f) (hk : f.kind.toNat = k.code)
    (h : (s.handed l).checked l k f act = (s.handed l, o, r)) : s.request l k act = s.afterReply l f o r := by
  rw [State.request_due hf hk, h]
  exact State.handed_answered (State.nextFrame_some hf).1

/-- The block's part of a request that passes every check. -/
theorem State.hands.checked {s : State} {l : Link} {k : RequestKind} {f : Frame} {o : Origin} {fields : List Byte}
    (h : s.hands l k f o fields) {t : State} (ht : t.osc.device = s.osc.device)
    (act : State → Origin → List Byte → State × Reply) :
    t.checked l k f act = ((act t o fields).1, o, (act t o fields).2) := by
  obtain ⟨_, _, ⟨st, stated, hp, hs, ho⟩, hl, hd⟩ := h
  unfold State.checked
  rw [hp]
  simp only [hs, ← ho, hl, ht, hd]
  rfl

/-- A request whose block answers `r` and leaves the state `u`, but for the frame handed on. -/
theorem State.hands.request {s : State} {l : Link} {k : RequestKind} {f : Frame} {o : Origin} {fields : List Byte}
    (h : s.hands l k f o fields) {act : State → Origin → List Byte → State × Reply} {u : State} {r : Reply}
    (hu : u.lnk.restarting = none) (hact : act (s.handed l) o fields = (u.handed l, r)) :
    s.request l k act = u.afterReply l f o r := by
  rw [State.request_due h.1 h.2.1, h.checked (t := s.handed l) rfl act, hact]
  exact State.handed_answered hu

theorem State.hands.notRestarting {s : State} {l : Link} {k : RequestKind} {f : Frame} {o : Origin} {fields : List Byte}
    (h : s.hands l k f o fields) : s.lnk.restarting = none := (State.nextFrame_some h.1).1

theorem State.hands.fits {s : State} {l : Link} {k : RequestKind} {f : Frame} {o : Origin} {fields : List Byte}
    (h : s.hands l k f o fields) : k.lengthFits fields = true ∧ k.takenIn s.osc.device = true := h.2.2.2

/-- A request whose block answers `r` and changes nothing. -/
theorem State.hands.answers {s : State} {l : Link} {k : RequestKind} {f : Frame} {o : Origin} {fields : List Byte}
    (h : s.hands l k f o fields) {act : State → Origin → List Byte → State × Reply} {r : Reply}
    (hact : act (s.handed l) o fields = (s.handed l, r)) : s.request l k act = s.afterReply l f o r :=
  h.request h.notRestarting hact

/-- A request that its block's origin requirement turns away. -/
theorem requireOrigin_below {need o : Origin} {s : State} {a : State × Reply} (h : o.rank < need.rank) :
    requireOrigin need o s a = (s, .bare .notPermitted) := if_pos h

theorem requireOrigin_from {need o : Origin} {s : State} {a : State × Reply} (h : need.rank ≤ o.rank) :
    requireOrigin need o s a = a := if_neg (by omega)

theorem Origin.not_system_iff {o : Origin} : o.rank < Origin.system.rank ↔ o = .occupant := by
  cases o <;> decide

/-- Every request row is a request of its kind. -/
theorem RequestKind.command_eq (k : RequestKind) (l : Link) :
    ∃ act : State → Origin → List Byte → State × Reply, ∀ s, exec (k.command l) s = .next (s.request l k act) := by
  cases k <;> exact ⟨_, fun _ => rfl⟩

end Sys2Proof.Machine

/-- Settles O9. -/
theorem requestsCheckedInOrder : Obligations.RequestsCheckedInOrder := by
  intro k l s f hf hk
  obtain ⟨act, hact⟩ := k.command_eq l
  simp only [hact]
  refine ⟨fun hp => ?_, fun b fields hp hb => ?_, fun b fields o hp ho hl => ?_, fun b fields o hp ho hl hd => ?_⟩
  · rw [State.request_refused hf hk]
    simp [State.checked, hp]
  · have unknown : statedOrigin b = none := by
      have h0 : b ≠ 0 := by rintro rfl; simp at hb
      have h1 : b ≠ 1 := by rintro rfl; simp at hb
      have h2 : b ≠ 2 := by rintro rfl; simp at hb
      rw [statedOrigin, if_neg h0, if_neg h1, if_neg h2]
    rw [State.request_refused hf hk]
    simp [State.checked, hp, unknown]
  · rw [State.request_refused hf hk]
    simp [State.checked, hp, ho, hl]
  · rw [State.request_refused hf hk]
    simp [State.checked, hp, ho, hl, State.handed, hd]

namespace Sys2Proof.Machine

/-! ### Frames as bytes -/

theorem frameLength_cons (len : Byte) (rest : List Byte) : frameLength (len :: rest) = len.toNat + 5 := rfl

/-- Two bytes as a quantity, high byte first. -/
theorem Byte.toNat_append (hi lo : Byte) : (hi ++ lo).toNat = hi.toNat * 256 + lo.toNat := by
  rw [BitVec.toNat_append, ← Nat.shiftLeft_add_eq_or_of_lt lo.isLt, Nat.shiftLeft_eq]

/-- A frame is what its bytes after the start marker say, whatever their length byte promises. -/
theorem frameOf_iff {got : List Byte} {f : Frame} :
    frameOf got = some f ↔ f.bytes = startMarker :: got ∧ f.payload.length < 256 := by
  constructor
  · intro h
    unfold frameOf at h
    split at h
    · next len kind tag rest =>
      dsimp only at h
      split at h
      · next hi lo hcrc =>
        split at h
        · next crc =>
          cases h
          have split : rest = rest.take len.toNat ++ [hi, lo] := by rw [← hcrc, List.take_append_drop]
          have long : (rest.take len.toNat).length = len.toNat := by
            have := congrArg List.length hcrc
            simp only [List.length_drop, List.length_cons, List.length_nil] at this
            rw [List.length_take]
            omega
          refine ⟨?_, by rw [long]; exact len.isLt⟩
          have bytes : u16 (hi ++ lo).toNat = [hi, lo] := by
            have high : (hi.toNat * 256 + lo.toNat) / 256 = hi.toNat := by omega
            have low : BitVec.ofNat 8 (hi.toNat * 256 + lo.toNat) = lo :=
              BitVec.eq_of_toNat_eq (by rw [BitVec.toNat_ofNat]; omega)
            rw [u16, Byte.toNat_append, high, low, BitVec.ofNat_toNat, BitVec.setWidth_eq]
          simp only [Frame.bytes, long, BitVec.ofNat_toNat, BitVec.setWidth_eq, crc, bytes]
          rw [List.cons_append, List.cons_append, List.cons_append, List.cons_append, ← split]
        · cases h
      · cases h
    · cases h
  · rintro ⟨h, hlong⟩
    simp only [Frame.bytes, List.cons_append, List.cons.injEq, true_and] at h
    subst h
    have len : (BitVec.ofNat 8 f.payload.length).toNat = f.payload.length := by
      rw [BitVec.toNat_ofNat]
      omega
    generalize hcrc : crc16 (BitVec.ofNat 8 f.payload.length :: f.kind :: f.tag :: f.payload) = crc
    have halves : crc = BitVec.ofNat 8 (crc.toNat / 256) ++ BitVec.ofNat 8 crc.toNat := by
      refine BitVec.eq_of_toNat_eq ?_
      rw [Byte.toNat_append, BitVec.toNat_ofNat, BitVec.toNat_ofNat]
      omega
    simp only [frameOf, len, List.take_left, List.drop_left, u16, hcrc]
    rw [if_pos halves]

theorem Frame.bytes_eq (f : Frame) : f.bytes = startMarker :: BitVec.ofNat 8 f.payload.length :: f.kind :: f.tag
    :: (f.payload ++ u16 (crc16 (BitVec.ofNat 8 f.payload.length :: f.kind :: f.tag :: f.payload)).toNat) := rfl

/-! ### The receiver -/

section Receiver

variable {b : Byte} {got : List Byte}

theorem Receiver.byte_marker (c : Bool) : (Receiver.hunt c).byte 0x7E true = .ordinary (.header []) := rfl

theorem Receiver.byte_stray {c ok : Bool} (h : ok = false ∨ b ≠ 0x7E) :
    (Receiver.hunt c).byte b ok = if c then .ordinary (.hunt true) else .error := by
  refine if_neg ?_
  rintro ⟨rfl, rfl⟩
  simp [startMarker] at h

theorem Receiver.byte_header (h : got ≠ [] ∨ b.toNat ≤ 120) : (Receiver.header got).byte b true
    = .ordinary (if got.length < 2 then .header (got ++ [b]) else .body (got ++ [b])) := by
  simp only [Receiver.byte]
  rw [if_neg (by simp), if_neg (by rintro ⟨rfl, hb⟩; simp [Config.maxPayload] at h hb; omega)]
  by_cases hl : got.length < 2
  · rw [if_pos hl, if_pos (by simp; omega)]
  · rw [if_neg hl, if_neg (by simp; omega)]

theorem Receiver.byte_tooLong (h : 120 < b.toNat) : (Receiver.header []).byte b true = .error := by
  simp only [Receiver.byte]
  rw [if_neg (by simp), if_pos ⟨trivial, h⟩]

theorem Receiver.byte_inFrame {r : Receiver} (h : r.inFrame = true) : r.byte b false = .error := by
  cases r with
  | hunt c => cases h
  | header got => rfl
  | body got => rfl

theorem Receiver.byte_body (h : got.length + 1 < frameLength (got ++ [b])) :
    (Receiver.body got).byte b true = .ordinary (.body (got ++ [b])) := by
  simp only [Receiver.byte]
  rw [if_neg (by simp), if_pos (by simpa using h)]

theorem Receiver.byte_last (h : frameLength (got ++ [b]) ≤ got.length + 1) :
    (Receiver.body got).byte b true = (frameOf (got ++ [b])).elim .error .arrived := by
  simp only [Receiver.byte]
  rw [if_neg (by simp), if_neg (by simpa using h)]
  cases frameOf (got ++ [b]) <;> rfl

/-- The bytes of a frame are as many as its length byte makes them. -/
theorem Frame.frameLength_eq {f : Frame} (h : f.bytes = startMarker :: (got ++ [b])) (hl : f.payload.length < 256) :
    frameLength (got ++ [b]) = got.length + 1 := by
  have long := congrArg List.length h
  rw [Frame.bytes_eq, List.cons.injEq] at h
  rw [← h.2, frameLength_cons, BitVec.toNat_ofNat, Nat.mod_eq_of_lt hl]
  simp [Frame.bytes, u16] at long
  omega

theorem Receiver.byte_arrives {f : Frame} (h : f.bytes = startMarker :: (got ++ [b])) (hl : f.payload.length < 256) :
    (Receiver.body got).byte b true = .arrived f := by
  rw [Receiver.byte_last (Frame.frameLength_eq h hl).le, frameOf_iff.mpr ⟨h, hl⟩]
  rfl

theorem Receiver.arrived_iff {r : Receiver} {ok : Bool} {f : Frame} (h : r.byte b ok = .arrived f) :
    ∃ got, r = .body got ∧ ok = true ∧ frameOf (got ++ [b]) = some f := by
  unfold Receiver.byte at h
  split at h
  · split at h
    · cases h
    · split at h <;> cases h
  · split at h
    · cases h
    · split at h
      · cases h
      · dsimp only at h
        split at h <;> cases h
  · next got =>
    split at h
    · cases h
    · next hok =>
      dsimp only at h
      split at h
      · cases h
      · split at h
        · next f' hf =>
          cases h
          exact ⟨got, rfl, by simpa using hok, hf⟩
        · cases h

/-- A receiver inside a frame takes bytes up to the last one. -/
theorem Receiver.feed_body (len : Byte) (bs : List Byte) :
    ∀ got : List Byte, (len :: got).length + bs.length < len.toNat + 5 →
      (Receiver.body (len :: got)).feed bs = some (.body (len :: got ++ bs)) := by
  induction bs with
  | nil => intro got _; simp [Receiver.feed]
  | cons b rest ih =>
    intro got h
    simp only [List.length_cons] at h
    have taken : (Receiver.body (len :: got)).byte b true = .ordinary (.body (len :: (got ++ [b]))) :=
      Receiver.byte_body (by simp only [List.cons_append, frameLength_cons, List.length_cons]; omega)
    rw [Receiver.feed, taken]
    dsimp only
    rw [ih _ (by simp; omega)]
    simp

end Receiver

end Sys2Proof.Machine

/-- Settles O6. -/
theorem framesArriveWhole : Obligations.FramesArriveWhole := by
  refine ⟨fun f counted hl => ?_, fun r b ok f h => ?_⟩
  · let len : Byte := BitVec.ofNat 8 f.payload.length
    let crc := crc16 (len :: f.kind :: f.tag :: f.payload)
    have hlen : len.toNat = f.payload.length := by
      rw [BitVec.toNat_ofNat]
      omega
    let got := len :: f.kind :: f.tag :: (f.payload ++ [BitVec.ofNat 8 (crc.toNat / 256)])
    have bytes : f.bytes = startMarker :: (got ++ [BitVec.ofNat 8 crc.toNat]) := by
      simp [Frame.bytes_eq, got, len, crc, u16]
    refine ⟨startMarker :: got, BitVec.ofNat 8 crc.toNat, .body got, bytes, ?_,
      Receiver.byte_arrives bytes (by omega)⟩
    have marker : (Receiver.hunt counted).byte startMarker true = .ordinary (.header []) := Receiver.byte_marker _
    have first : (Receiver.header []).byte len true = .ordinary (.header [len]) :=
      Receiver.byte_header (.inr (by omega))
    have second : (Receiver.header [len]).byte f.kind true = .ordinary (.header [len, f.kind]) :=
      Receiver.byte_header (.inl (by simp))
    have third : (Receiver.header [len, f.kind]).byte f.tag true = .ordinary (.body [len, f.kind, f.tag]) :=
      Receiver.byte_header (.inl (by simp))
    simp only [Receiver.feed, marker, first, second, third, got]
    rw [Receiver.feed_body _ _ _ (by simp; omega)]
    simp
  · obtain ⟨got, hr, hok, hf⟩ := Receiver.arrived_iff h
    exact ⟨got, hr, hok, (frameOf_iff.mp hf).1⟩

end

section
/-! The rows of the links themselves: bytes, frames, errors, breaks, replies and a RESTART. -/

open Sys2Proof Sys2Proof.Machine

namespace Sys2Proof.Machine

/-! ### Bytes and frames -/

section Bytes

variable {l : Link} {b : Byte} {ok : Bool} {s : State}

theorem LinkRec.receive_eq {r : LinkRec} (h : r.spaceHeld = false) : r.receive b ok = some (r.receiver.byte b ok) :=
  if_neg (by simp [h])

theorem LinkRec.receive_held {r : LinkRec} (h : r.spaceHeld = true) : r.receive b ok = none := if_pos h

theorem execByteReceived_ordinary {q : Receiver} (h : (s.lnk.link l).spaceHeld = false)
    (hb : (s.lnk.link l).receiver.byte b ok = .ordinary q) :
    execByteReceived l b ok s = .next (s.updLink l fun r => { r with receiver := q }) := by
  simp only [execByteReceived, LinkRec.receive_eq h, hb]

theorem execFrameArrived_arrived {f : Frame} (h : (s.lnk.link l).spaceHeld = false)
    (hb : (s.lnk.link l).receiver.byte b ok = .arrived f) :
    execFrameArrived l b ok s = .next ((s.updLink l fun r => r.accept f).answerUnknown l) := by
  simp only [execFrameArrived, LinkRec.receive_eq h, hb]

theorem execFrameError_error (h : (s.lnk.link l).spaceHeld = false)
    (hb : (s.lnk.link l).receiver.byte b ok = .error) :
    execFrameError l b ok s = .next (s.updLink l LinkRec.failFrame) := by
  simp only [execFrameError, LinkRec.receive_eq h, hb]

theorem LinkRec.failFrame_inFrame {r : LinkRec} (h : r.receiver.inFrame = true) :
    r.failFrame = { r with receiver := .hunt false, frameErrors := min (r.frameErrors + 1) 65535 } := by
  unfold LinkRec.failFrame
  cases hr : r.receiver with
  | hunt c => simp [hr, Receiver.inFrame] at h
  | header got => rfl
  | body got => rfl

theorem LinkRec.failFrame_hunt {r : LinkRec} {c : Bool} (h : r.receiver = .hunt c) :
    r.failFrame = { r with receiver := .hunt true, frameErrors := min (r.frameErrors + 1) 65535 } := by
  unfold LinkRec.failFrame
  rw [h]
  rfl

/-- A byte that is a frame error inside a frame. -/
theorem execFrameError_inFrame (h : (s.lnk.link l).spaceHeld = false) (hin : (s.lnk.link l).receiver.inFrame = true)
    (hb : (s.lnk.link l).receiver.byte b ok = .error) :
    execFrameError l b ok s = .next (s.updLink l fun r =>
      { r with receiver := .hunt false, frameErrors := min (r.frameErrors + 1) 65535 }) := by
  refine (execFrameError_error h hb).trans (congrArg _ ?_)
  exact State.updLink_congr (LinkRec.failFrame_inFrame hin)

theorem LinkRec.accept_eq (r : LinkRec) (f : Frame) : r.accept f =
    if r.waiting.length + r.replies.length < 2 then
      { r with receiver := .hunt false, waiting := r.waiting ++ [f] }
    else { r with receiver := .hunt false, overruns := min (r.overruns + 1) 65535 } := rfl

/-- A known frame that arrives behind frames of known kinds waits for its row. -/
theorem execFrameArrived_known {f : Frame} (h : (s.lnk.link l).spaceHeld = false)
    (hb : (s.lnk.link l).receiver.byte b ok = .arrived f) (hf : kindKnown f.kind = true)
    (hw : ∀ g, (s.lnk.link l).waiting.head? = some g → kindKnown g.kind = true) :
    execFrameArrived l b ok s = .next (s.updLink l fun r => r.accept f) := by
  rw [execFrameArrived_arrived h hb, State.answerUnknown_known]
  intro g hg
  rw [State.updLink_lnk, Lnk.link_setLink, LinkRec.accept_eq] at hg
  split at hg
  · cases hwait : (s.lnk.link l).waiting with
    | nil =>
      rw [hwait] at hg
      cases hg
      exact hf
    | cons g' rest =>
      rw [hwait] at hg
      cases hg
      exact hw g (by rw [hwait]; rfl)
  · exact hw g hg

/-- A frame of unknown kind that finds its link empty is answered at once. -/
theorem execFrameArrived_unknown {f : Frame} (h : (s.lnk.link l).spaceHeld = false)
    (hb : (s.lnk.link l).receiver.byte b ok = .arrived f) (hf : kindKnown f.kind = false)
    (hw : (s.lnk.link l).waiting = []) (hr : (s.lnk.link l).replies.length < 2) (hn : s.lnk.restarting = none) :
    execFrameArrived l b ok s = .next (s.updLink l fun r =>
      { r with receiver := .hunt false, replies := r.replies ++ [replyFrame f .occupant (.bare .badRequest)] }) := by
  rw [execFrameArrived_arrived h hb, State.answerUnknown_eq (by simpa using hn), State.updLink_updLink,
    State.updLink_congr]
  rw [LinkRec.accept_eq, hw, if_pos (by simpa using hr)]
  simp [hf]

end Bytes

end Sys2Proof.Machine

/-- Settles O7. -/
theorem bytesReachReceiver : Obligations.BytesReachReceiver := by
  intro l s b held
  refine ⟨fun c hr => ?_, fun ok hr hb => ?_, fun got hr hb => ?_, fun got hr hb => ?_, fun got f hr hf hl hk hw => ?_,
    fun got f hr hf hl hk hw hn hs => ?_, fun ok hr hb => ?_, fun hin => ⟨?_, ?_⟩, fun hr hb => ?_,
    fun got hr hb hf => ?_⟩
  · exact execByteReceived_ordinary held (by rw [hr]; exact Receiver.byte_marker c)
  · have stray : (s.lnk.link l).receiver.byte b ok = .ordinary (.hunt true) := by rw [hr, Receiver.byte_stray hb]; rfl
    refine (execByteReceived_ordinary held stray).trans (congrArg _ (State.updLink_same ?_))
    rw [← hr]
  · exact execByteReceived_ordinary held (by rw [hr]; exact Receiver.byte_header hb)
  · exact execByteReceived_ordinary held (by rw [hr]; exact Receiver.byte_body hb)
  · exact execFrameArrived_known held (by rw [hr]; exact Receiver.byte_arrives hf (by omega)) hk hw
  · exact execFrameArrived_unknown held (by rw [hr]; exact Receiver.byte_arrives hf (by omega)) hk hw hn hs
  · refine (execFrameError_error held (by rw [hr, Receiver.byte_stray hb]; rfl)).trans (congrArg _ ?_)
    exact State.updLink_congr (LinkRec.failFrame_hunt hr)
  · exact execFrameError_inFrame held hin (Receiver.byte_inFrame hin)
  · refine (if_pos hin).trans (congrArg _ ?_)
    exact State.updLink_congr (LinkRec.failFrame_inFrame hin)
  · exact execFrameError_inFrame held (by rw [hr]; rfl) (by rw [hr]; exact Receiver.byte_tooLong hb)
  · have garbled : frameOf (got ++ [b]) = none := by
      refine Option.eq_none_iff_forall_ne_some.mpr fun f hsome => hf f (frameOf_iff.mp hsome).1
    exact execFrameError_inFrame held (by rw [hr]; rfl) (by rw [hr, Receiver.byte_last hb, garbled]; rfl)

namespace Sys2Proof.Machine

/-! ### Breaks, replies and the reset of a RESTART -/

section Restart

variable {l : Link} {s : State}

theorem State.restartIfSent_waits (h : ∀ m, s.lnk.restarting = some m → (s.lnk.link m).replies ≠ []) :
    s.restartIfSent = s := by
  unfold State.restartIfSent
  split
  · next m hm => exact if_neg (h m hm)
  · rfl

theorem State.restartIfSent_resets (h : s.lnk.restarting = some l) (hr : (s.lnk.link l).replies = []) :
    s.restartIfSent = s.powerUp := by
  unfold State.restartIfSent
  rw [h]
  exact if_pos hr

/-- A RESTART that is not taken, or whose link still has replies to send when link `l` changes. -/
theorem State.restartIfSent_other {f : LinkRec → LinkRec}
    (h : s.lnk.restarting = none ∨ ∃ m, m ≠ l ∧ s.lnk.restarting = some m ∧ (s.lnk.link m).replies ≠ []) :
    ∀ m, (s.updLink l f).lnk.restarting = some m → ((s.updLink l f).lnk.link m).replies ≠ [] := by
  intro m hm
  simp only [State.updLink_lnk, Lnk.restarting_setLink] at hm
  rcases h with none | ⟨m', hne, some, replies⟩
  · rw [none] at hm
    cases hm
  · rw [some] at hm
    cases hm
    rwa [State.updLink_lnk, Lnk.link_setLink_ne _ _ hne]

/-- What every reset leaves. -/
theorem State.powerUp_fresh (s : State) : s.powerUp.osc.device = .starting ∧ s.powerUp.osc.uptime = 0
    ∧ s.powerUp.arb = .reset ∧ s.powerUp.lnk.restarting = none
    ∧ ∀ m, (s.powerUp.lnk.link m).waiting = [] ∧ (s.powerUp.lnk.link m).replies = [] := by
  obtain ⟨-, arb, -, -, osc⟩ := s.powerUp_unloaded
  have links := s.powerUp_links
  simp only [Lnk.held, Prod.mk.injEq] at links
  obtain ⟨main, service, restarting⟩ := links
  refine ⟨by rw [osc]; rfl, by rw [osc]; rfl, arb, restarting, fun m => ?_⟩
  cases m with
  | main =>
    have link : s.powerUp.lnk.link .main = s.coldStart.lnk.main := main
    rw [link]
    exact ⟨rfl, rfl⟩
  | service =>
    have link : s.powerUp.lnk.link .service = s.coldStart.lnk.service := service
    rw [link]
    exact ⟨rfl, rfl⟩

theorem SameDemand.of_none {d : Option Demand} (h : SameDemand none d) : d = none := by
  cases d with
  | none => rfl
  | some d => exact h.elim

theorem SettledFrom.link {touched : List Slot} {t : State} (h : SettledFrom touched s t) (m : Link) :
    t.lnk.link m = s.lnk.link m := by
  obtain ⟨main, service, -⟩ := h.links
  cases m with
  | main => exact main
  | service => exact service

/-- Ownership ends with MANUAL's slot (R165, R166). -/
theorem State.releaseOwner_settled (s : State) : s.releaseOwner.sup.owner = none ∧ s.releaseOwner.arb.table.manual = none
    ∧ SettledFrom [.manual] { s with sup := { s.sup with owner := none } } s.releaseOwner := by
  unfold State.releaseOwner
  have freed := SettledFrom.withdraw (s.updSup fun u => { u with owner := none }) .manual
  have free := State.withdraw_free (s := s.updSup fun u => { u with owner := none }) .manual
  generalize (s.updSup fun u => { u with owner := none }).withdraw .manual = t at *
  have follow := SettledFrom.propagate t
  generalize t.propagate = v at *
  have manual := follow.slots .manual (by simp) (by decide) (by decide)
  rw [free] at manual
  exact ⟨follow.owner.trans freed.owner, manual.of_none, (freed.trans follow).weaken (by simp)⟩

theorem execLinkBreak_first (h : (s.lnk.link l).spaceHeld = false) :
    execLinkBreak l s = .next (if s.sup.owner = some l then (s.updLink l LinkRec.break).releaseOwner
      else s.updLink l LinkRec.break).restartIfSent := if_neg (by simp [h])

/-- The links after a break, whoever owned MANUAL. -/
theorem State.break_links (s : State) (l : Link) {t : State}
    (ht : t = if s.sup.owner = some l then (s.updLink l LinkRec.break).releaseOwner else s.updLink l LinkRec.break) :
    t.lnk.restarting = s.lnk.restarting ∧ ∀ m, t.lnk.link m = (s.updLink l LinkRec.break).lnk.link m := by
  subst ht
  split
  · exact ⟨(State.releaseOwner_restarting _).trans (Lnk.restarting_setLink _ _ _), (State.releaseOwner_settled _).2.2.link⟩
  · exact ⟨Lnk.restarting_setLink _ _ _, fun _ => rfl⟩

end Restart

end Sys2Proof.Machine

/-- Settles O8: what a break leaves of the links decides whether a RESTART's reset follows. -/
theorem breaksRepliesRestart : Obligations.BreaksRepliesRestart := by
  intro l s
  refine ⟨rfl, fun held => ⟨fun waits ho => ?_, fun waits ho => ?_, fun hl => ?_⟩, fun f rest hr waits => ?_,
    fun f hr hl => ?_, fun f o h => ⟨?_, fun ho => ?_⟩⟩
  · refine (execLinkBreak_first held).trans (congrArg _ ?_)
    rw [if_neg ho]
    exact State.restartIfSent_waits (State.restartIfSent_other waits)
  · refine ⟨_, execLinkBreak_first held, ?_⟩
    rw [if_pos ho, State.restartIfSent_waits]
    · exact State.releaseOwner_settled _
    · intro m hm
      rw [State.releaseOwner_restarting] at hm
      rw [(State.releaseOwner_settled _).2.2.link m]
      exact State.restartIfSent_other waits m hm
  · refine ⟨_, execLinkBreak_first held, ?_⟩
    obtain ⟨restarting, links⟩ := s.break_links l rfl
    rw [State.restartIfSent_resets (restarting.trans hl) (by rw [links, State.updLink_lnk, Lnk.link_setLink]; rfl)]
    obtain ⟨device, uptime, -, none, -⟩ := State.powerUp_fresh (if s.sup.owner = some l then
      (s.updLink l LinkRec.break).releaseOwner else s.updLink l LinkRec.break)
    exact ⟨device, uptime, none⟩
  · have sent : execReplyTransmitted l s = .next (s.updLink l fun r => { r with replies := rest }).restartIfSent := by
      simp only [execReplyTransmitted, hr]
    refine sent.trans (congrArg _ (State.restartIfSent_waits ?_))
    rcases waits with none | ⟨own, left⟩ | other
    · exact State.restartIfSent_other (.inl none)
    · intro m hm
      rw [State.updLink_lnk, Lnk.restarting_setLink, own] at hm
      obtain rfl : l = m := Option.some.inj hm
      rwa [State.updLink_lnk, Lnk.link_setLink]
    · exact State.restartIfSent_other (.inr other)
  · have sent : execReplyTransmitted l s = .next (s.updLink l fun r => { r with replies := [] }).restartIfSent := by
      simp only [execReplyTransmitted, hr]
    rw [State.restartIfSent_resets (l := l) ((Lnk.restarting_setLink _ _ _).trans hl)
      (by rw [State.updLink_lnk, Lnk.link_setLink])] at sent
    exact ⟨_, sent, State.powerUp_fresh _⟩
  · rintro rfl
    exact congrArg Host.Outcome.next (h.answers (requireOrigin_below (by decide)))
  · have allowed : Origin.system.rank ≤ o.rank := by
      rw [← not_lt, Origin.not_system_iff]
      exact ho
    refine congrArg Host.Outcome.next ?_
    rw [State.request_due h.1 h.2.1, h.checked (t := s.handed l) rfl, actRestart, requireOrigin_from allowed,
      State.answerUnknown_restarting (by simp [State.updLnk])]
    cases l <;> rfl

end

section
/-! The rows whose event is not due. -/

open Sys2Proof Sys2Proof.Machine

namespace Sys2Proof.Machine

section NotDue

variable {s : State}

theorem exec_request_notDue {k : RequestKind} {l : Link} (h : ∀ f, s.nextFrame l = some f → f.kind.toNat ≠ k.code) :
    exec (k.command l) s = .next s := by
  obtain ⟨act, hact⟩ := k.command_eq l
  rw [hact, State.request_notDue h]

theorem execDemandExpiry_notDue (h : s.arb.expiring = false ∨ s.arb.active = none) :
    execDemandExpiry s = .next s := by
  have none : s.arb.expiryDue = none := by
    unfold Arb.expiryDue
    rcases h with h | h <;> simp [h]
  simp only [execDemandExpiry, none]

theorem execDefrostEnds_notDue (h : s.frg.defrost.endDue = none) :
    execDefrostCleared s = .next s ∧ execDefrostIncomplete s = .next s := by
  simp only [execDefrostCleared, execDefrostIncomplete, h, and_self]

/-- A transaction completes only in BUSY. -/
theorem execTransactions_notBusy (h : s.hum.bus.state ≠ .busy) : (∀ a, execProbeComplete a s = .next s)
    ∧ (∀ m, execMeasureComplete m s = .next s) ∧ execStretchTimeout s = .next s := by
  refine ⟨fun a => ?_, fun m => ?_, ?_⟩
  · unfold execProbeComplete
    split
    · next hb _ => exact absurd hb h
    · rfl
  · unfold execMeasureComplete
    split
    · next hb _ => exact absurd hb h
    · rfl
  · unfold execStretchTimeout
    split
    · next hb _ => exact absurd hb h
    · next hb _ => exact absurd hb h
    · rfl

theorem execPollRound_notDue (h : ∀ n, s.hum.pollTimer = some n → n < 10) : execPollRound s = .next s := by
  unfold execPollRound
  split
  · next n hn => exact if_neg (not_le.mpr (h n hn))
  · rfl

theorem execProbePauseEnd_notDue {n : Nat}
    (h : ∀ e, s.hum.sensor n = some e → e.state ≠ .probing ∨ e.pause ≠ some 0) : execProbePauseEnd n s = .next s := by
  unfold execProbePauseEnd
  split
  · next e he => exact if_neg (not_and_or.mpr (h e he))
  · rfl

theorem execLostTimeEnd_notDue {n : Nat}
    (h : ∀ e, s.hum.sensor n = some e → e.state ≠ .lost ∨ 0 < e.lostTime) : execLostTimeEnd n s = .next s := by
  unfold execLostTimeEnd
  split
  · next e he => exact if_neg (not_and_or.mpr ((h e he).imp_right Nat.ne_of_gt))
  · rfl

theorem execBoostLimit_notDue {n : Nat} (h : ∀ e b, s.hum.sensor n = some e → e.boost = some b →
    b.state ≠ .boost ∨ b.limitDue = false) : execBoostLimit n s = .next s := by
  unfold execBoostLimit
  split
  · next b hb =>
    obtain ⟨e, he, hb⟩ := Option.bind_eq_some_iff.mp hb
    exact if_neg (not_and_or.mpr ((h e b he hb).imp_right (by simp [·])))
  · rfl

theorem execHoldoffEnd_notDue {n : Nat} (h : ∀ e b, s.hum.sensor n = some e → e.boost = some b →
    b.state ≠ .holdoff ∨ 0 < b.holdoff) : execHoldoffEnd n s = .next s := by
  unfold execHoldoffEnd
  split
  · next b hb =>
    obtain ⟨e, he, hb⟩ := Option.bind_eq_some_iff.mp hb
    exact if_neg (not_and_or.mpr ((h e b he hb).imp_right Nat.ne_of_gt))
  · rfl

theorem execZeroingComplete_notDue
    (h : s.osc.stoppedSecs < 18 ∨ (s.osc.device ≠ .starting ∧ s.osc.device ≠ .waking)) :
    execZeroingComplete s = .next s := by
  unfold execZeroingComplete
  split
  · next hdue =>
    have late : ¬ s.osc.stoppedSecs < 18 := not_lt.mpr hdue
    obtain ⟨starting, waking⟩ := h.resolve_left late
    split
    · next hd => exact absurd hd starting
    · next hd => exact absurd hd waking
    all_goals rfl
  · rfl

theorem execInputDebounced_notDue {n : Nat} (h : ∀ c, s.dio.channel n = some c → c.contact = some c.raw) :
    execInputDebounced n s = .next s := by
  unfold execInputDebounced
  split
  · next c hc => exact if_pos (h c hc)
  · rfl

/-- No byte is received at a line that is held at space, and no further break. -/
theorem execLink_held {l : Link} (h : (s.lnk.link l).spaceHeld = true) : execLinkBreak l s = .next s
    ∧ ∀ b ok, execByteReceived l b ok s = .next s ∧ execFrameArrived l b ok s = .next s
      ∧ execFrameError l b ok s = .next s := by
  refine ⟨if_pos h, fun b ok => ?_⟩
  simp only [execByteReceived, execFrameArrived, execFrameError, LinkRec.receive_held h, and_self]

end NotDue

end Sys2Proof.Machine

/-- Settles O5. -/
theorem eventsNotDueChangeNothing : Obligations.EventsNotDueChangeNothing := by
  intro s
  refine ⟨fun k l => exec_request_notDue, fun r h => ?_, execDemandExpiry_notDue, fun i h => ?_, fun i h => ?_,
    fun i h => ?_, fun i h => ?_, fun i h => ?_, fun i h => ?_, fun h => ?_, fun h => ?_, fun h => ⟨?_, ?_⟩,
    execDefrostEnds_notDue, fun h => ?_, fun h => ?_, execTransactions_notBusy, fun h => ?_, execPollRound_notDue,
    fun n => execProbePauseEnd_notDue, fun n => execLostTimeEnd_notDue, fun n => execBoostLimit_notDue,
    fun n => execHoldoffEnd_notDue, fun h => ?_, fun h => ?_, fun h => ?_, fun h => ?_, fun h => ?_, fun h => ?_,
    fun h => ?_, fun h ok => ?_, fun h ok => ?_, execZeroingComplete_notDue, fun n => execInputDebounced_notDue,
    fun h => if_pos h, fun l h => ?_, fun l => execLink_held⟩
  · exact if_neg (by rw [h]; decide)
  · exact if_neg (not_and_or.mpr (h.imp_right not_le.mpr))
  · exact if_neg (not_and_or.mpr (h.imp (by simp [·]) not_le.mpr))
  · exact if_neg (not_and_or.mpr (h.imp_right Nat.ne_of_gt))
  · exact if_neg (not_and_or.mpr (h.imp (by simp [·]) not_le.mpr))
  · exact if_neg (by
      rintro ⟨late, standing, cond⟩
      rcases h with h | h | h
      · exact absurd late (not_le.mpr h)
      · simp [h] at standing
      · simp [h] at cond)
  · exact if_neg (not_and_or.mpr (h.imp_right not_le.mpr))
  · exact if_neg (by
      rintro ⟨zeroing, late⟩
      rcases h with h | h | h
      · simp [h, DevState.zeroing] at zeroing
      · simp [h, DevState.zeroing] at zeroing
      · exact absurd late (not_le.mpr h))
  · exact if_neg fun hr => Nat.ne_of_gt h hr.1
  · exact if_neg (by rw [h]; decide)
  · exact if_neg fun hr => by simp [h] at hr
  · exact if_neg (not_and_or.mpr (h.imp_right Nat.ne_of_gt))
  · exact if_neg (not_and_or.mpr (h.imp_right fun hq => not_not.mpr hq))
  · exact if_neg (not_and_or.mpr (h.imp_right not_le.mpr))
  · exact if_neg (not_and_or.mpr (h.imp (by simp [·]) not_le.mpr))
  · exact if_neg (by simp [h])
  · exact if_neg (not_and_or.mpr (h.imp_right not_le.mpr))
  · exact if_neg (not_and_or.mpr (h.imp_right (by simp [·])))
  · exact if_neg (not_and_or.mpr (h.imp_right not_le.mpr))
  · exact if_neg (not_and_or.mpr (h.imp_right not_le.mpr))
  · exact if_neg (not_and_or.mpr (h.imp_right (by simp [·])))
  · simp only [exec, execFilterWriteComplete, h]
  · simp only [exec, execStoreComplete, h]
  · simp only [exec, execReplyTransmitted, h]

end

section
/-! What a change sets off while the preheater is at rest and no check start is due, and what the reports of ARB leave
alone. -/

open Sys2Proof Sys2Proof.Machine

namespace Sys2Proof.Machine

/-! ### Propagation at rest -/

/-- What the consequences of a change leave alone while the preheater is at rest: they reach the fans, the stage and the
notices only. -/
structure State.Rests (s t : State) : Prop where
  pending : t.pending = s.pending
  osc : t.osc = s.osc
  arb : t.arb = s.arb
  hum : t.hum = s.hum
  flt : t.flt = s.flt
  dio : t.dio = s.dio
  frg : t.frg = { s.frg with stage := t.frg.stage }
  sup : t.sup = { s.sup with flags := t.sup.flags }

section Rests

variable {s t u : State}

theorem State.Rests.refl (s : State) : s.Rests s := ⟨rfl, rfl, rfl, rfl, rfl, rfl, rfl, rfl⟩

theorem State.Rests.trans (h : s.Rests t) (g : t.Rests u) : s.Rests u where
  pending := g.pending.trans h.pending
  osc := g.osc.trans h.osc
  arb := g.arb.trans h.arb
  hum := g.hum.trans h.hum
  flt := g.flt.trans h.flt
  dio := g.dio.trans h.dio
  frg := by
    have := g.frg
    rw [h.frg] at this
    exact this
  sup := by
    have := g.sup
    rw [h.sup] at this
    exact this

/-- Blocks that stay as they are stay so. -/
theorem State.Rests.atRest (h : s.Rests t) (hs : s.atRest) : t.atRest := by
  obtain ⟨request, applied, runOn, due⟩ := hs
  unfold State.atRest
  rw [h.frg, h.flt]
  exact ⟨request, applied, runOn, due⟩

theorem State.Rests.raise (s : State) (n : NoticeKind) (x : Nat) (v : Int) : s.Rests (s.raise n x v) := by
  rw [State.raise_eq s n x v rfl rfl rfl]
  exact ⟨rfl, rfl, rfl, rfl, rfl, rfl, rfl, rfl⟩

theorem State.Rests.updAfc (s : State) (f : Afc → Afc) : s.Rests (s.updAfc f) := ⟨rfl, rfl, rfl, rfl, rfl, rfl, rfl, rfl⟩

theorem State.Rests.movePath (s : State) (i : PathId) (p : FanPath) : s.Rests (s.movePath i p) := by
  unfold State.movePath
  dsimp only
  split
  · exact .updAfc _ _
  · exact (State.Rests.updAfc _ _).trans (.raise _ _ _ _)

theorem State.Rests.serveFans (s : State) : s.Rests s.serveFans := by
  unfold State.serveFans State.servePath
  exact (State.Rests.movePath _ _ _).trans ((State.Rests.movePath _ _ _).trans (.updAfc _ _))

theorem State.Rests.deriveStage (s : State) : s.Rests s.deriveStage := by
  unfold State.deriveStage
  dsimp only
  split
  · exact .refl _
  · have staged (g : Stage) : s.Rests (s.updFrg fun f => { f with stage := g }) :=
      ⟨rfl, rfl, rfl, rfl, rfl, rfl, rfl, rfl⟩
    exact (staged _).trans (.raise _ _ _ _)

theorem State.forceRequest_atRest (h : s.atRest) : s.forceRequest = s := by
  unfold State.forceRequest
  split
  · have same : (fun g : Frg => { g with request := 0 }) s.frg = s.frg := by
      obtain ⟨request, -⟩ := h
      dsimp only
      rw [← request]
    exact congrArg (fun g => { s with frg := g }) same
  · rfl

theorem State.deriveDuty_atRest (h : s.atRest) : s.deriveDuty = s := by
  obtain ⟨request, applied, -⟩ := h
  unfold State.deriveDuty State.applyDuty
  rw [request, applied]
  simp

theorem State.cutRunOn_atRest (h : s.frg.runOn = 0) : s.cutRunOn = s := by
  unfold State.cutRunOn
  split
  · rfl
  · exact if_neg (by omega)

theorem State.startTest_notDue (h : s.flt.startTestDue = false) : s.startTest = s := if_neg (by simp [h])

/-- A round at rest serves the fans. -/
theorem State.round_atRest (h : s.atRest) : s.round = s.serveFans := by
  have served := (State.Rests.serveFans s).atRest h
  unfold State.round
  rw [State.forceRequest_atRest h, State.deriveDuty_atRest served, State.cutRunOn_atRest served.2.2.1,
    State.startTest_notDue served.2.2.2]

theorem State.Rests.stagedRound (h : s.atRest) : s.Rests s.stagedRound := by
  unfold State.stagedRound
  rw [State.round_atRest h]
  exact (State.Rests.serveFans s).trans (.deriveStage _)

theorem State.Rests.propagate (h : s.atRest) : s.Rests s.propagate := by
  have staged := State.Rests.deriveStage s
  have first := staged.trans (.stagedRound (staged.atRest h))
  have second := first.trans (.stagedRound (first.atRest h))
  have third := second.trans (.stagedRound (second.atRest h))
  exact third.trans (.stagedRound (third.atRest h))

end Rests

/-! ### Reports -/

/-- What a change of the demand table leaves alone beside what `SettledFrom` says: the capture record. -/
structure State.Reports (s t : State) : Prop where
  sup : t.sup = { s.sup with flags := t.sup.flags }
  restarting : t.lnk.restarting = s.lnk.restarting

section Reports

variable {s t u : State}

theorem State.Reports.refl (s : State) : s.Reports s := ⟨rfl, rfl⟩

theorem State.Reports.trans (h : s.Reports t) (g : t.Reports u) : s.Reports u where
  sup := by
    have := g.sup
    rw [h.sup] at this
    exact this
  restarting := g.restarting.trans h.restarting

theorem State.Reports.raise (s : State) (n : NoticeKind) (x : Nat) (v : Int) : s.Reports (s.raise n x v) :=
  ⟨(State.Rests.raise s n x v).sup, by simp⟩

theorem State.Reports.updCheck (s : State) (f : Check → Check) : s.Reports (s.updCheck f) := ⟨rfl, rfl⟩
theorem State.Reports.updArb (s : State) (f : Arb → Arb) : s.Reports (s.updArb f) := ⟨rfl, rfl⟩
theorem State.Reports.updDefrost (s : State) (f : Defrost → Defrost) : s.Reports (s.updDefrost f) := ⟨rfl, rfl⟩
theorem State.Reports.updDio (s : State) (f : Dio → Dio) : s.Reports (s.updDio f) := ⟨rfl, rfl⟩
theorem State.Reports.updHum (s : State) (f : Hum → Hum) : s.Reports (s.updHum f) := ⟨rfl, rfl⟩
theorem State.Reports.recordCheckEnd (s : State) (o : CheckOutcome) : s.Reports (s.recordCheckEnd o) :=
  ⟨rfl, rfl⟩

theorem State.Reports.trySettle (s : State) : s.Reports s.trySettle := by
  unfold State.trySettle
  split
  · exact .updCheck _ _
  · exact .refl _

theorem State.Reports.checkPreempted (s : State) : s.Reports s.checkPreempted := by
  unfold State.checkPreempted
  split
  · dsimp only
    split
    · exact (State.Reports.updCheck _ _).trans ((State.Reports.recordCheckEnd _ _).trans
        ((State.Reports.updArb _ _).trans (.raise _ _ _ _)))
    · exact .updCheck _ _
  · exact .refl _

theorem State.Reports.checkFreedByStandby (s : State) : s.Reports s.checkFreedByStandby := by
  unfold State.checkFreedByStandby
  split
  · exact .refl _
  · exact (State.Reports.recordCheckEnd _ _).trans ((State.Reports.updCheck _ _).trans (.raise _ _ _ _))

theorem State.Reports.defrostActive (s : State) : s.Reports s.defrostActive := by
  unfold State.defrostActive
  split
  · exact (State.Reports.updDefrost _ _).trans (.raise _ _ _ _)
  · exact .updDefrost _ _
  all_goals exact .refl _

theorem State.Reports.defrostPreempted (s : State) : s.Reports s.defrostPreempted := by
  unfold State.defrostPreempted
  split
  case h_1 | h_2 => exact .updDefrost _ _
  all_goals exact .refl _

theorem State.Reports.takeReport (s : State) (q : Report) : s.Reports (s.takeReport q) := by
  unfold State.takeReport
  split
  case h_1 => exact .defrostActive s
  case h_2 => exact .defrostPreempted s
  case h_3 => exact .trySettle s
  case h_4 => exact .checkPreempted s
  case h_5 => exact .checkFreedByStandby s
  case h_14 => exact .refl s
  case h_12 | h_13 => exact .updHum s _
  all_goals exact .updDio s _

theorem State.Reports.takeReports (l : List Report) (s : State) : s.Reports (l.foldl State.takeReport s) := by
  induction l generalizing s with
  | nil => exact .refl s
  | cons q l ih => exact (State.Reports.takeReport s q).trans (ih _)

theorem State.Reports.applyArb (s : State) (r : Arb × List Report) : s.Reports (s.applyArb r) := by
  unfold State.applyArb
  dsimp only
  split
  · exact (State.Reports.updArb s _).trans (.takeReports _ _)
  · exact (State.Reports.updArb s _).trans ((State.Reports.raise _ _ _ _).trans (.takeReports _ _))

/-- The reports that can end a check, and so free a slot again or make a check start due. -/
def Report.interrupts (q : Report) : Bool :=
  q.slot == .filterCheck && (q.kind == .suspended || q.kind == .freedByStandby)

/-- What a report leaves alone unless it ends a check. -/
theorem State.takeReport_table {q : Report} (h : q.interrupts = false) (s : State) :
    (s.takeReport q).arb = s.arb ∧ (s.takeReport q).flt.startTestDue = s.flt.startTestDue := by
  unfold State.takeReport
  split
  case h_1 =>
    unfold State.defrostActive
    split
    case h_1 => simp
    all_goals exact ⟨rfl, rfl⟩
  case h_2 =>
    unfold State.defrostPreempted
    split <;> exact ⟨rfl, rfl⟩
  case h_3 =>
    unfold State.trySettle
    split <;> exact ⟨rfl, rfl⟩
  case h_4 hk hx => simp [Report.interrupts, hk, hx] at h
  case h_5 hk hx => simp [Report.interrupts, hk, hx] at h
  all_goals exact ⟨rfl, rfl⟩

theorem State.takeReports_table {l : List Report} (h : ∀ q ∈ l, q.interrupts = false) (s : State) :
    (l.foldl State.takeReport s).arb = s.arb
      ∧ (l.foldl State.takeReport s).flt.startTestDue = s.flt.startTestDue := by
  induction l generalizing s with
  | nil => exact ⟨rfl, rfl⟩
  | cons q l ih =>
    obtain ⟨arb, due⟩ := ih (fun q' hq => h q' (List.mem_cons_of_mem q hq)) (s.takeReport q)
    obtain ⟨arb', due'⟩ := State.takeReport_table (h q List.mem_cons_self) s
    exact ⟨arb.trans arb', due.trans due'⟩

/-- The demand table after a change whose reports end no check. -/
theorem State.applyArb_table {r : Arb × List Report} (h : ∀ q ∈ r.2, q.interrupts = false) (s : State) :
    (s.applyArb r).arb = r.1 ∧ (s.applyArb r).flt.startTestDue = s.flt.startTestDue := by
  unfold State.applyArb
  dsimp only
  obtain ⟨arb, due⟩ := State.takeReports_table (l := r.2.filter (·.slot.internal))
    (fun q hq => h q (List.mem_filter.mp hq).1) (if r.1.active = s.arb.active then s.updArb fun _ => r.1
      else (s.updArb fun _ => r.1).raise .demandChanged (slotCode r.1.active)
        (twoPart r.1.activeLevel (slotCode s.arb.active)))
  rw [arb, due]
  split
  · exact ⟨rfl, rfl⟩
  · simp

/-- A change of the demand table that ends no check wakes nothing of a preheater at rest. -/
theorem State.applyArb_atRest (hs : s.atRest) {r : Arb × List Report} (h : ∀ q ∈ r.2, q.interrupts = false) :
    (s.applyArb r).atRest := by
  obtain ⟨request, applied, runOn, due⟩ := hs
  unfold State.atRest
  rw [(State.TableOnly.applyArb r).frg, (State.applyArb_table h s).2]
  exact ⟨request, applied, runOn, due⟩

/-- At rest a change of the demand table that frees nothing more is all that happens to it. -/
theorem State.applyArb_propagate_arb (hs : s.atRest) {r : Arb × List Report} (h : ∀ q ∈ r.2, q.interrupts = false) :
    (s.applyArb r).propagate.arb = r.1 :=
  (State.Rests.propagate (State.applyArb_atRest hs h)).arb.trans (State.applyArb_table h s).1

/-- The end of a demand suspends none. -/
theorem Arb.free_reportsActive (a : Arb) (x : Slot) : ∀ q ∈ (a.free x).2, q.kind = .active := by
  have reselected (b : Arb) : ∀ q ∈ b.reselect.2, q.kind = .active := by
    unfold Arb.reselect
    split <;> simp
  unfold Arb.free
  split
  · simp
  · dsimp only
    split
    · exact reselected _
    · simp

theorem Report.interrupts_active {q : Report} (h : q.kind = .active) : q.interrupts = false := by
  simp [Report.interrupts, h]

theorem Arb.free_interrupts (a : Arb) (x : Slot) : ∀ q ∈ (a.free x).2, q.interrupts = false :=
  fun q hq => Report.interrupts_active (a.free_reportsActive x q hq)

theorem Arb.expire_interrupts (a : Arb) (x : Slot) : ∀ q ∈ (a.expire x).2, q.interrupts = false := by
  intro q hq
  rcases List.mem_cons.mp hq with rfl | hq
  · simp [Report.interrupts]
  · exact a.free_interrupts x q hq

theorem Arb.preempt_interrupts {a : Arb} {old x : Slot} (h : old ≠ .filterCheck) :
    ∀ q ∈ (a.preempt old x).2, q.interrupts = false := by
  simp [Arb.preempt, Report.interrupts, h]

/-- A post interrupts a check only where FILTER_CHECK is the active slot. -/
theorem Arb.post_interrupts {a : Arb} (h : a.active ≠ some .filterCheck) (x : Slot) (p : PostArgs) (now : Nat) :
    ∀ q ∈ (a.post x p now).2, q.interrupts = false := by
  unfold Arb.post
  split
  · unfold Arb.postFresh
    dsimp only
    split
    · next old ha =>
      split
      · exact Arb.preempt_interrupts (by rintro rfl; exact h ha)
      · simp
    · simp
  · unfold Arb.renew
    dsimp only
    split
    · simp
    · next act ha =>
      have other : act ≠ .filterCheck := by rintro rfl; exact h ha
      split
      · next hx =>
        subst hx
        split
        · simp
        · split
          · exact Arb.preempt_interrupts other
          · simp
      · split
        · exact Arb.preempt_interrupts other
        · simp

end Reports

end Sys2Proof.Machine

end

section
/-! The requests that read, and those that change one record: notices, watch, ownership, capture and sensors. -/

open Sys2Proof Sys2Proof.Machine

namespace Sys2Proof.Machine

/-! ### Fields -/

theorem slotOfCode_code (x : Slot) : slotOfCode x.code = some x := by cases x <;> rfl

theorem slotOfCode_eq_some_iff {c : Nat} {x : Slot} : slotOfCode c = some x ↔ c = x.code := by
  constructor
  · intro h
    have coded : ∀ i : Fin 12, ∀ y, allSlots[i.val]? = some y → y.code = i.val + 1 := by decide
    unfold slotOfCode at h
    split at h
    · cases h
    · obtain ⟨hlt, -⟩ := List.getElem?_eq_some_iff.mp h
      have := coded ⟨c - 1, hlt⟩ x h
      dsimp only at this
      omega
  · rintro rfl
    exact slotOfCode_code x

theorem slotOfCode_none {c : Byte} (h : c = 0 ∨ 12 < c.toNat) : slotOfCode c.toNat = none := by
  rcases h with rfl | h
  · rfl
  · unfold slotOfCode
    rw [if_neg (by omega), List.getElem?_eq_none]
    change 12 ≤ _
    omega

theorem Byte.eq_zero_or_pos (b : Byte) : b = 0 ∨ 1 ≤ b.toNat := by
  by_cases h : b.toNat = 0
  · exact .inl (BitVec.eq_of_toNat_eq h)
  · exact .inr (by omega)

theorem Byte.ne_zero_iff {b : Byte} : b ≠ 0 ↔ 1 ≤ b.toNat := by
  constructor
  · exact fun h => (Byte.eq_zero_or_pos b).resolve_left h
  · rintro h rfl
    simp at h

theorem Byte.lt_two {b : Byte} (h : b.toNat < 2) : b = 0 ∨ b = 1 := by
  refine (Byte.eq_zero_or_pos b).imp_right fun h1 => BitVec.eq_of_toNat_eq ?_
  change b.toNat = 1
  omega

theorem Byte.two_le_iff {b : Byte} : 2 ≤ b.toNat ↔ b ≠ 0 ∧ b ≠ 1 := by
  constructor
  · intro h
    exact ⟨by rintro rfl; simp at h, by rintro rfl; simp at h⟩
  · rintro ⟨h0, h1⟩
    by_contra h
    exact (Byte.lt_two (by omega)).elim h0 h1

/-! ### QUERY_STATUS -/

theorem State.elapseInputs_dio (s : State) : s.elapseInputs.dio =
    { s.dio with channels := s.dio.channels.zipIdx.map fun c => c.1.elapse (Config.freeMs (s.freeCount + c.2)) } := rfl

theorem State.elapseInputs_eq (s : State) :
    s.elapseInputs = { s with dio := s.elapseInputs.dio, freeCount := s.freeCount + 4 } := by
  simp only [State.elapseInputs, State.useFree, State.updDio, Nat.add_assoc, Nat.reduceAdd]

/-- Each channel has run on by a free value of its own. -/
theorem State.elapseInputs_channel {s : State} {n : Nat} {ch : Channel} (h : s.dio.channel n = some ch) :
    ∃ free, s.elapseInputs.dio.channel n = some (ch.elapse free) := by
  unfold Dio.channel at h ⊢
  split at h
  · cases h
  · next h0 =>
    rw [if_neg h0, State.elapseInputs_dio, List.getElem?_map, List.getElem?_zipIdx, h]
    exact ⟨_, rfl⟩

theorem State.elapseInputs_relayBytes (s : State) (n : Nat) : s.elapseInputs.relayBytes n = s.relayBytes n := rfl

end Sys2Proof.Machine

/-- Settles O10. -/
theorem readsAnswerFields : Obligations.ReadsAnswerFields := by
  intro l s f o p
  refine ⟨fun h => ⟨s.elapseInputs, congrArg Host.Outcome.next (h.request h.notRestarting ?_), ?_, ?_, rfl,
      fun n ch hch => ?_⟩,
    fun h => congrArg Host.Outcome.next (h.answers ?_), fun h => congrArg Host.Outcome.next (h.answers ?_),
    fun h => congrArg Host.Outcome.next (h.answers ?_), fun h => congrArg Host.Outcome.next (h.answers ?_),
    fun h => congrArg Host.Outcome.next (h.answers ?_), fun h => congrArg Host.Outcome.next (h.answers ?_),
    fun h => congrArg Host.Outcome.next (h.answers ?_), fun h => congrArg Host.Outcome.next (h.answers ?_),
    fun h => congrArg Host.Outcome.next (h.answers ?_), fun h => congrArg Host.Outcome.next (h.answers ?_),
    fun h => ⟨fun hp => congrArg Host.Outcome.next (h.answers ?_),
      fun row hr => congrArg Host.Outcome.next (h.answers ?_)⟩⟩
  · have status : (s.handed l).elapseInputs.statusBytes = s.elapseInputs.statusBytes := by cases l <;> rfl
    unfold actQueryStatus
    rw [status]
    simp only [State.statusBytes, LinkRec.counterBytes, NoticeQueue.bytes, State.elapseInputs_relayBytes,
      List.append_assoc]
    rfl
  · rw [State.elapseInputs_eq]
  · rw [State.elapseInputs_eq]
  · obtain ⟨free, run⟩ := State.elapseInputs_channel hch
    obtain ⟨ms, hms, settled, moving⟩ := ch.elapse_spec free
    exact ⟨ms, run.trans (congrArg some hms), settled, moving⟩
  · rfl
  · rfl
  · rfl
  · rfl
  · rfl
  · unfold actReadDemands
    dsimp only
    cases slotOfCode p.toNat <;> rfl
  · rfl
  · unfold actReadSensors
    dsimp only
    split
    · rfl
    · change (match s.hum.sensor p.toNat with | some e => _ | none => _) = _
      cases s.hum.sensor p.toNat <;> rfl
  · rfl
  · unfold actReadFilters
    dsimp only
    split
    · rfl
    · split
      · rfl
      · split <;> rfl
  · have absent : settingRow p.toNat = none := by
      refine Option.eq_none_iff_forall_ne_some.mpr fun row hrow => ?_
      obtain ⟨h0, h84⟩ := settingRow_some hrow
      rcases hp with rfl | hp
      · exact h0 rfl
      · omega
    simp only [actGetSetting, absent]
  · simp only [actGetSetting, hr]
    rfl

namespace Sys2Proof.Machine

/-! ### GET_NOTICES and ATTN -/

theorem State.attn_iff {s : State} : s.attn = true ↔ s.lnk.mainQueue.entries ≠ [] := by
  simp [State.attn]

theorem noticeBytes_length (k x : Nat) (v : Int) (t r : Nat) : (noticeBytes k x v t r).length = 11 := rfl

theorem noticeList_length (lost : Nat) (entries : List Notice) (now : Nat) :
    (noticeList lost entries now).length = 1 + 11 * (entries.length + if 0 < lost then 1 else 0) := by
  have items : (entries.flatMap fun n => noticeBytes n.kind.code n.subject n.value n.uptime n.repeats).length
      = 11 * entries.length := by
    simp [List.length_flatMap, noticeBytes_length, Nat.mul_comm]
  simp only [noticeList, List.length_append, items]
  split
  · simp only [noticeBytes_length, u8, List.length_singleton]
    omega
  · simp only [u8, List.length_singleton, List.length_nil]
    omega

/-- An offer leaves a queue that holds an entry. -/
theorem NoticeQueue.offer_ne_nil {q : NoticeQueue} {cap : Nat} (hc : 0 < cap) (n : Notice) :
    (q.offer cap n).1.entries ≠ [] := by
  by_cases held : n.key ∈ q.keys
  · have kept := NoticeQueue.offer_places q cap n
    intro empty
    have keys : (q.offer cap n).1.keys = [] := by simp [NoticeQueue.keys, empty]
    rw [keys, List.prefix_nil] at kept
    simp [kept] at held
  · by_cases room : q.entries.length < cap
    · rw [NoticeQueue.offer_of_room held room]
      simp
    · rw [NoticeQueue.offer_of_full held (by omega)]
      intro empty
      simp only at empty
      rw [empty] at room
      exact room hc

theorem State.raise_attn (s : State) (k : NoticeKind) (x : Nat) (v : Int) :
    (s.raise k x v).attn = true ↔ s.attn = true ∨ inMask (settingVal s.osc.working 83) k.code = true := by
  rw [State.attn_iff, State.attn_iff, State.raise_eq s k x v rfl rfl rfl]
  dsimp only [NoticeQueue.offerIf]
  cases inMask (settingVal s.osc.working 83) k.code with
  | false => simp
  | true => simp [NoticeQueue.offer_ne_nil]

theorem actGetNotices_handed (l : Link) (s : State) (o : Origin) : actGetNotices l (s.handed l) o []
    = ((s.updLnk fun k => k.setQueue l ⟨(s.lnk.queue l).entries.drop 8, 0⟩).handed l,
      ⟨.ok, noticeList (s.lnk.queue l).lost ((s.lnk.queue l).entries.take 8) s.osc.uptime⟩) := by
  cases l <;> rfl

end Sys2Proof.Machine

/-- Settles O11. -/
theorem noticesFetched : Obligations.NoticesFetched := by
  refine ⟨fun l s f o h => ?_, fun s k x v => ⟨State.attn_iff, s.raise_attn k x v⟩, fun c s t hr hp hg ht ha => ?_⟩
  · have quiet : (s.updLnk fun k => k.setQueue l ⟨(s.lnk.queue l).entries.drop 8, 0⟩).lnk.restarting = none := by
      cases l <;> exact h.notRestarting
    have fetched : exec (.getNotices l) s = .next _ :=
      congrArg Host.Outcome.next (h.request quiet (actGetNotices_handed l s o))
    refine ⟨fetched, ?_, fun t ht => ?_⟩
    · rw [noticeList_length, List.length_take]
    · obtain rfl := Host.Outcome.next.inj (fetched.symm.trans ht)
      refine ⟨?_, ?_⟩
      · rintro rfl
        rw [State.attn_iff]
        change s.lnk.mainQueue.entries.drop 8 ≠ [] ↔ _
        rw [Ne, List.drop_eq_nil_iff]
        omega
      · rintro rfl
        rfl
  · have kept := exec_places (l := .main) hr hp hg ht
    rw [State.attn_iff] at ha ⊢
    intro empty
    have keys : (t.lnk.queue .main).keys = [] := by
      change t.lnk.mainQueue.keys = []
      simp [NoticeQueue.keys, empty]
    rw [keys, List.prefix_nil] at kept
    exact ha (List.map_eq_nil_iff.mp kept)

namespace Sys2Proof.Machine

/-! ### The slots that an origin writes -/

theorem Origin.mayWrite_of_not_mem {o : Origin} {x : Slot} (h : x ∉ (match o with
    | .occupant => [Slot.panel]
    | .system => [.schedule, .panel]
    | .service => [.service, .schedule, .panel]
    | .internal => [])) : o.mayWrite x = false := by
  revert h
  cases o <;> cases x <;> decide

/-- No link writes a slot that a block of the part posts. -/
theorem Origin.mayWrite_external {o : Origin} {x : Slot} (h : o.mayWrite x = true) :
    x = .panel ∨ x = .schedule ∨ x = .service := by
  revert h
  cases o <;> cases x <;> decide

section Refused

variable {s : State} {o : Origin} {c v s1 s0 e1 e0 m r1 r0 : Byte}

theorem actPostDemand_refusedState (l : Link) (h : s.osc.device.posting = false) :
    actPostDemand l s o [c, v, s1, s0, e1, e0, m, r1, r0] = (s, .bare .refusedState) := if_pos h

theorem actPostDemand_badRequest (l : Link) (h : s.osc.device.posting = true) (hc : c = 0 ∨ 12 < c.toNat) :
    actPostDemand l s o [c, v, s1, s0, e1, e0, m, r1, r0] = (s, .bare .badRequest) := by
  simp only [actPostDemand, h, slotOfCode_none hc]
  rfl

theorem actPostDemand_notPermitted (l : Link) {x : Slot} (h : s.osc.device.posting = true)
    (hc : slotOfCode c.toNat = some x) (hw : o.mayWrite x = false) :
    actPostDemand l s o [c, v, s1, s0, e1, e0, m, r1, r0] = (s, .bare .notPermitted) := by
  simp only [actPostDemand, h, hc, hw]
  rfl

theorem actCancelDemand_refusedState (h : s.osc.device.posting = false) :
    actCancelDemand s o [c] = (s, .bare .refusedState) := if_pos h

theorem actCancelDemand_badRequest (h : s.osc.device.posting = true) (hc : c = 0 ∨ 12 < c.toNat) :
    actCancelDemand s o [c] = (s, .bare .badRequest) := by
  simp only [actCancelDemand, h, slotOfCode_none hc]
  rfl

theorem actCancelDemand_notPermitted {x : Slot} (h : s.osc.device.posting = true) (hc : slotOfCode c.toNat = some x)
    (hw : o.mayWrite x = false) : actCancelDemand s o [c] = (s, .bare .notPermitted) := by
  simp only [actCancelDemand, h, hc, hw]
  rfl

end Refused

end Sys2Proof.Machine

/-- Settles O14. -/
theorem demandRequestsRefused : Obligations.DemandRequestsRefused := by
  intro l s f o c v s1 s0 e1 e0 m r1 r0
  refine ⟨fun h => ⟨fun hd => ?_, fun hd hc => ?_, fun x hd hc hx => ?_⟩,
    fun h => ⟨fun hd => ?_, fun hd hc => ?_, fun x hd hc hx => ?_⟩⟩
  · exact congrArg Host.Outcome.next (h.answers (actPostDemand_refusedState (s := s.handed l) l hd))
  · exact congrArg Host.Outcome.next (h.answers (actPostDemand_badRequest (s := s.handed l) l hd hc))
  · exact congrArg Host.Outcome.next
      (h.answers (actPostDemand_notPermitted (s := s.handed l) l hd hc (Origin.mayWrite_of_not_mem hx)))
  · exact congrArg Host.Outcome.next (h.answers (actCancelDemand_refusedState (s := s.handed l) hd))
  · exact congrArg Host.Outcome.next (h.answers (actCancelDemand_badRequest (s := s.handed l) hd hc))
  · exact congrArg Host.Outcome.next
      (h.answers (actCancelDemand_notPermitted (s := s.handed l) hd hc (Origin.mayWrite_of_not_mem hx)))

end

section
/-! The requests that change one record: a demand's cancellation, the watch, ownership, the capture record and an entry of
the sensor table. -/

open Sys2Proof Sys2Proof.Machine

namespace Sys2Proof.Machine

/-! ### A request whose block changes the state -/

/-- A frame that is held again leaves every link as it was. -/
theorem State.holding_link {s : State} {l : Link} {f : Frame} (h : s.nextFrame l = some f) {t : State}
    (ht : ∀ m, t.lnk.link m = (s.handed l).lnk.link m) (m : Link) : (t.holding l f).lnk.link m = s.lnk.link m := by
  conv_rhs => rw [← State.holding_handed h]
  simp only [State.holding, State.updLink_lnk]
  by_cases hm : m = l
  · subst hm
    rw [Lnk.link_setLink, Lnk.link_setLink, ht]
  · rw [Lnk.link_setLink_ne _ _ hm, Lnk.link_setLink_ne _ _ hm, ht]

theorem State.holding_restarting (s : State) (l : Link) (f : Frame) :
    (s.holding l f).lnk.restarting = s.lnk.restarting := Lnk.restarting_setLink _ _ _

theorem State.holding_nextFrame {s : State} {l : Link} {f : Frame} (h : s.nextFrame l = some f)
    {touched : List Slot} {t : State} (ht : SettledFrom touched (s.handed l) t) :
    SettledFrom touched s (t.holding l f) :=
  { ht with
    links := ⟨State.holding_link h ht.link .main, State.holding_link h ht.link .service, by
      rw [State.holding_restarting, ht.restarting, State.handed, State.updLink_lnk, Lnk.restarting_setLink]⟩ }

/-- A request whose block leads to `t` and answers `r`. -/
theorem State.hands.leads {s : State} {l : Link} {k : RequestKind} {f : Frame} {o : Origin} {fields : List Byte}
    (h : s.hands l k f o fields) {act : State → Origin → List Byte → State × Reply} {t : State} {r : Reply}
    (ht : t.lnk.restarting = none) (hact : act (s.handed l) o fields = (t, r)) :
    s.request l k act = (t.holding l f).afterReply l f o r := by
  refine h.request ?_ ?_
  · rw [State.holding, State.updLink_lnk, Lnk.restarting_setLink, ht]
  · rw [State.handed_holding, hact]

theorem State.handed_restarting {s : State} {l : Link} : (s.handed l).lnk.restarting = s.lnk.restarting :=
  Lnk.restarting_setLink _ _ _

/-- The effective origin of a request is that of a link. -/
theorem effectiveOrigin_link {b : Byte} {stated : Origin} (h : statedOrigin b = some stated) (l : Link) :
    effectiveOrigin stated (linkMode l) ≠ .internal := by
  have known : stated ≠ .internal := by
    unfold statedOrigin at h
    rintro rfl
    split at h
    · cases h
    · split at h
      · cases h
      · split at h <;> cases h
  unfold effectiveOrigin
  split
  · exact known
  · cases l <;> decide

theorem State.hands.fromLink {s : State} {l : Link} {k : RequestKind} {f : Frame} {o : Origin} {fields : List Byte}
    (h : s.hands l k f o fields) : o ≠ .internal := by
  obtain ⟨_, _, ⟨st, stated, _, hs, rfl⟩, _⟩ := h
  exact effectiveOrigin_link hs l

/-! ### CANCEL_DEMAND -/

theorem State.cancel_eq (s : State) (x : Slot) : s.cancel x = (s.withdraw x).propagate := rfl

/-- A slot that is withdrawn, with what follows. -/
theorem State.cancel_settled (s : State) (x : Slot) : SettledFrom [x] s (s.cancel x) := by
  rw [State.cancel_eq]
  exact ((SettledFrom.withdraw s x).trans (.propagate _)).weaken (by simp)

theorem State.cancel_free (s : State) {x : Slot} (hx : x ≠ .filterCheck ∧ x ≠ .defrost) :
    (s.cancel x).arb.table.get x = none := by
  have free := State.withdraw_free (s := s) x
  have kept := (SettledFrom.propagate (s.withdraw x)).slots x (by simp) hx.1 hx.2
  rw [free] at kept
  rw [State.cancel_eq]
  exact kept.of_none

theorem Origin.mayWrite_spared {o : Origin} {x : Slot} (h : o.mayWrite x = true) : x ≠ .filterCheck ∧ x ≠ .defrost := by
  rcases Origin.mayWrite_external h with rfl | rfl | rfl <;> decide

end Sys2Proof.Machine

/-- Settles O15. -/
theorem cancelDemandFrees : Obligations.CancelDemandFrees := by
  intro l s f o c x h hd hx hw
  have taken : actCancelDemand (s.handed l) o [c]
      = ((s.handed l).cancel x, ⟨.ok, u8 x.code ++ u8 (s.arb.slotState x).code⟩) := by
    have posting : (s.handed l).osc.device.posting ≠ false := by simp [State.handed, hd]
    have writes : ¬o.mayWrite x = false := by simp [hw]
    simp only [actCancelDemand, if_neg posting, hx, if_neg writes]
    rfl
  have settled := (s.handed l).cancel_settled x
  have quiet : ((s.handed l).cancel x).lnk.restarting = none :=
    settled.restarting.trans (State.handed_restarting.trans h.notRestarting)
  have free := (s.handed l).cancel_free (Origin.mayWrite_spared hw)
  have table (hs : s.atRest) : ((s.handed l).cancel x).arb = (s.arb.free x).1 :=
    State.applyArb_propagate_arb (s := s.handed l) hs ((s.handed l).arb.free_interrupts x)
  generalize (s.handed l).cancel x = t at *
  exact ⟨_, congrArg Host.Outcome.next (h.leads quiet taken), State.holding_nextFrame h.1 settled, free, table⟩

namespace Sys2Proof.Machine

/-! ### SET_WATCH -/

theorem slotSet_none {codes : List Byte} (h : ∃ c ∈ codes, c = 0 ∨ 12 < c.toNat) : slotSet codes = none := by
  induction codes with
  | nil => simp at h
  | cons c rest ih =>
    obtain ⟨d, hd, bad⟩ := h
    rcases List.mem_cons.mp hd with rfl | hd
    · simp [slotSet, slotOfCode_none bad]
    · cases hc : slotOfCode c.toNat <;> simp [slotSet, hc, ih ⟨d, hd, bad⟩]

/-- The slots of a list of codes are those that it names. -/
theorem slotSet_some {codes : List Byte} (h : ∀ c ∈ codes, c ≠ 0 ∧ c.toNat ≤ 12) :
    ∃ l, slotSet codes = some l ∧ ∀ x : Slot, x ∈ l ↔ ∃ c ∈ codes, c.toNat = x.code := by
  induction codes with
  | nil => exact ⟨[], rfl, by simp⟩
  | cons c rest ih =>
    obtain ⟨l, hl, mem⟩ := ih fun d hd => h d (List.mem_cons_of_mem c hd)
    obtain ⟨hc0, hc12⟩ := h c List.mem_cons_self
    have named : ∃ y, slotOfCode c.toNat = some y := by
      rw [← Option.isSome_iff_exists]
      unfold slotOfCode
      have pos := Byte.ne_zero_iff.mp hc0
      have inside : c.toNat - 1 < allSlots.length := by
        change _ < 12
        omega
      rw [if_neg (by omega), List.getElem?_eq_getElem inside]
      rfl
    obtain ⟨y, hy⟩ := named
    refine ⟨y :: l.filter (· != y), by simp only [slotSet, hy, hl], fun x => ?_⟩
    have code := slotOfCode_eq_some_iff.mp hy
    have same : c.toNat = x.code ↔ x = y := by
      rw [code]
      exact ⟨fun e => Option.some.inj ((slotOfCode_code x).symm.trans (e ▸ slotOfCode_code y)), fun e => by rw [e]⟩
    simp only [List.mem_cons, List.mem_filter, mem, exists_eq_or_imp, same, bne_iff_ne]
    tauto

theorem yesNoField_none {b : Byte} (h : 2 ≤ b.toNat) : yesNoField b = none := by
  obtain ⟨h0, h1⟩ := Byte.two_le_iff.mp h
  rw [yesNoField, if_neg h0, if_neg h1]

theorem watchMatch_none {b : Byte} (h : 2 ≤ b.toNat) : watchMatch b = none := by
  obtain ⟨h0, h1⟩ := Byte.two_le_iff.mp h
  rw [watchMatch, if_neg h0, if_neg h1]

theorem watchAction_none {b : Byte} (h : 2 ≤ b.toNat) : watchAction b = none := by
  obtain ⟨h0, h1⟩ := Byte.two_le_iff.mp h
  rw [watchAction, if_neg h0, if_neg h1]

theorem yesNoField_some {b : Byte} (h : b.toNat < 2) : yesNoField b = some (b == 1) := by
  rcases Byte.lt_two h with rfl | rfl <;> rfl

theorem watchMatch_some {b : Byte} (h : b.toNat < 2) : ∃ m, watchMatch b = some m ∧ (m = .all ↔ b = 1) := by
  rcases Byte.lt_two h with rfl | rfl
  · exact ⟨.newOnly, rfl, by decide⟩
  · exact ⟨.all, rfl, by decide⟩

theorem watchAction_some {b : Byte} (h : b.toNat < 2) : ∃ a, watchAction b = some a ∧ (a = .block ↔ b = 1) := by
  rcases Byte.lt_two h with rfl | rfl
  · exact ⟨.capture, rfl, by decide⟩
  · exact ⟨.block, rfl, by decide⟩

theorem watchOf_none {en m a lo hi : Byte} {codes : List Byte} (h : 2 ≤ en.toNat ∨ 2 ≤ m.toNat ∨ 2 ≤ a.toNat ∨ lo = 0
    ∨ 15 < hi.toNat ∨ hi.toNat < lo.toNat ∨ ∃ c ∈ codes, c = 0 ∨ 12 < c.toNat) : watchOf en m a lo hi codes = none := by
  unfold watchOf
  split
  · next hen hm ha hs =>
    refine if_neg fun levels => ?_
    rcases h with h | h | h | rfl | h | h | h
    · simp [yesNoField_none h] at hen
    · simp [watchMatch_none h] at hm
    · simp [watchAction_none h] at ha
    · simp at levels
    · omega
    · omega
    · simp [slotSet_none h] at hs
  · rfl

/-- SET_WATCH once its origin is SERVICE. -/
theorem actSetWatch_service {s : State} {en m a lo hi n : Byte} {codes : List Byte} :
    actSetWatch s .service (en :: m :: a :: lo :: hi :: n :: codes) = match watchOf en m a lo hi codes with
      | some w => (s.updArb fun b => { b with watch := w }, ⟨.ok, w.bytes⟩)
      | none => (s, .bare .badRequest) := by
  exact requireOrigin_from le_rfl

end Sys2Proof.Machine

/-- Settles O18. -/
theorem setWatchReplaces : Obligations.SetWatchReplaces := by
  intro l s f o en m a lo hi n codes h
  refine ⟨fun ho => ?_, fun ho bad => ?_, fun ho hen hm ha hlo hhi hle hcodes => ?_⟩
  · have below : o.rank < Origin.service.rank := by
      have link := h.fromLink
      cases o <;> simp_all [Origin.rank]
    exact congrArg Host.Outcome.next (h.answers (requireOrigin_below below))
  · subst ho
    refine congrArg Host.Outcome.next (h.answers ?_)
    rw [actSetWatch_service, watchOf_none bad]
  · subst ho
    obtain ⟨m', hm', all⟩ := watchMatch_some hm
    obtain ⟨a', ha', block⟩ := watchAction_some ha
    obtain ⟨slots, hslots, mem⟩ := slotSet_some hcodes
    have pos := Byte.ne_zero_iff.mp hlo
    have watch : watchOf en m a lo hi codes = some
        { enabled := en == 1, slots := slots, levelMin := lo.toNat, levelMax := hi.toNat, mode := m', action := a' } := by
      simp only [watchOf, yesNoField_some hen, hm', ha', hslots]
      exact if_pos ⟨pos, by omega, by omega, hhi, hle⟩
    refine ⟨{ enabled := en == 1, slots := slots, levelMin := lo.toNat, levelMax := hi.toNat, mode := m', action := a' },
      congrArg Host.Outcome.next (h.request h.notRestarting ?_), rfl, all, block, rfl, rfl, mem⟩
    rw [actSetWatch_service, watch]
    rfl

namespace Sys2Proof.Machine

/-! ### Ownership -/

theorem Origin.system_le {o : Origin} (h : o ≠ .occupant) : Origin.system.rank ≤ o.rank := by
  rw [← not_lt, Origin.not_system_iff]
  exact h

theorem DefrostPhase.inProgress_iff {p : DefrostPhase} : p.inProgress = true ↔ p ≠ .idle ∧ p ≠ .lockout := by
  cases p <;> decide

/-- CLAIM_MANUAL in RUNNING, at SYSTEM origin or above and with no defrost in progress. -/
theorem actClaimManual_claims {s : State} {o : Origin} {fields : List Byte} (l : Link) (hd : s.osc.device = .running)
    (ho : o ≠ .occupant) (hp : s.frg.defrost.phase = .idle ∨ s.frg.defrost.phase = .lockout) :
    actClaimManual l s o fields = match s.sup.owner with
      | none => (s.updSup fun u => { u with owner := some l }, ⟨.ok, u8 (ownerCode (some l))⟩)
      | some h => if h = l then (s, ⟨.ok, u8 (ownerCode (some l))⟩) else (s, ⟨.held, u8 (linkCode h)⟩) := by
  have quiet : s.frg.defrost.phase.inProgress = false := by rcases hp with hp | hp <;> simp [hp, DefrostPhase.inProgress]
  exact (if_neg (not_not.mpr hd)).trans
    ((requireOrigin_from (Origin.system_le ho)).trans (if_neg (by simp [quiet])))

end Sys2Proof.Machine

/-- Settles O19. -/
theorem manualOwnership : Obligations.ManualOwnership := by
  intro l s f o
  refine ⟨fun h => ⟨fun hd => ?_, fun hd ho => ?_, fun hd ho h1 h2 => ?_, fun hd ho hp => ⟨fun m hm hne => ?_, fun hm => ?_⟩⟩,
    fun h => ⟨fun ho => ?_, fun ho hm => ?_, fun ho hm => ?_⟩⟩
  · exact congrArg Host.Outcome.next (h.answers (if_pos hd))
  · subst ho
    refine congrArg Host.Outcome.next (h.answers ?_)
    exact (if_neg (not_not.mpr hd)).trans (requireOrigin_below (by decide))
  · refine congrArg Host.Outcome.next (h.answers ?_)
    have busy : (s.handed l).frg.defrost.phase.inProgress = true := DefrostPhase.inProgress_iff.mpr ⟨h1, h2⟩
    exact (if_neg (not_not.mpr hd)).trans ((requireOrigin_from (Origin.system_le ho)).trans (if_pos busy))
  · refine congrArg Host.Outcome.next (h.answers ?_)
    have owner : (s.handed l).sup.owner = some m := hm
    rw [actClaimManual_claims (s := s.handed l) l hd ho hp]
    simp only [owner]
    exact if_neg hne
  · refine congrArg Host.Outcome.next (h.request h.notRestarting ?_)
    rw [actClaimManual_claims (s := s.handed l) l hd ho hp]
    have owner : (s.handed l).sup.owner = s.sup.owner := rfl
    rcases hm with hm | hm
    · simp only [owner, hm]
      rfl
    · have same : ({ s.sup with owner := some l } : Sup) = s.sup := by rw [← hm]
      simp only [owner, hm, same]
      rw [if_pos trivial]
  · subst ho
    exact congrArg Host.Outcome.next (h.answers (requireOrigin_below (by decide)))
  · exact congrArg Host.Outcome.next (h.answers ((requireOrigin_from (Origin.system_le ho)).trans (if_neg hm)))
  · have taken : actReleaseManual l (s.handed l) o [] = ((s.handed l).releaseOwner, ⟨.ok, u8 0⟩) := by
      have owner : (s.handed l).sup.owner = some l := hm
      unfold actReleaseManual
      rw [requireOrigin_from (Origin.system_le ho), if_pos owner]
      rfl
    have quiet : (s.handed l).releaseOwner.lnk.restarting = none :=
      (State.releaseOwner_restarting _).trans (State.handed_restarting.trans h.notRestarting)
    obtain ⟨owner, manual, settled⟩ := (s.handed l).releaseOwner_settled
    generalize (s.handed l).releaseOwner = t at *
    exact ⟨_, congrArg Host.Outcome.next (h.leads quiet taken), owner, manual,
      State.holding_nextFrame (s := { s with sup := { s.sup with owner := none } }) h.1 settled⟩

/-- Settles O24. -/
theorem captureReleased : Obligations.CaptureReleased := by
  intro l s f o h
  refine ⟨fun ho => ?_, fun ho hc => ?_, fun ho hc => ?_⟩
  · subst ho
    exact congrArg Host.Outcome.next (h.answers (requireOrigin_below (by decide)))
  · refine congrArg Host.Outcome.next (h.request h.notRestarting ((requireOrigin_from (Origin.system_le ho)).trans ?_))
    have released : s.sup.release = { s.sup with capture := none, missed := 0 } := by
      unfold Sup.release
      split
      · rfl
      · next hn => exact absurd hn hc
    rw [← released]
    rfl
  · refine congrArg Host.Outcome.next (h.answers ((requireOrigin_from (Origin.system_le ho)).trans ?_))
    have armed : (s.handed l).sup.release = s.sup := by
      change s.sup.release = s.sup
      unfold Sup.release
      rw [hc]
    unfold State.updSup
    rw [armed]
    rfl

end

section
/-! What the records of the sensors and the filters leave alone as they change; the requests on entries, settings and
stores. -/

open Sys2Proof Sys2Proof.Machine

namespace Sys2Proof.Machine

/-! ### Changes of the sensor and filter records -/

/-- A change of the sensor and filter records, with their notices: of the flags only those of `flags` may be set, and
NOTICES_LOST with a notice that is dropped. -/
structure State.Records (flags : List Flag) (s t : State) : Prop where
  pending : t.pending = s.pending
  osc : t.osc = s.osc
  arb : t.arb = s.arb
  afc : t.afc = s.afc
  frg : t.frg = s.frg
  dio : t.dio = s.dio
  sup : t.sup = { s.sup with flags := t.sup.flags }
  kept : ∀ g, g ∉ flags → g ≠ .noticesLost → t.sup.flags.get g = s.sup.flags.get g
  stay : ∀ g, s.sup.flags.get g = true → t.sup.flags.get g = true
  links : t.lnk.held = s.lnk.held

section Records

variable {a : List Flag} {s t u : State}

theorem State.Records.refl (a : List Flag) (s : State) : s.Records a s where
  pending := rfl
  osc := rfl
  arb := rfl
  afc := rfl
  frg := rfl
  dio := rfl
  sup := rfl
  kept _ _ _ := rfl
  stay _ := id
  links := rfl

theorem State.Records.trans (h : s.Records a t) (k : t.Records a u) : s.Records a u where
  pending := k.pending.trans h.pending
  osc := k.osc.trans h.osc
  arb := k.arb.trans h.arb
  afc := k.afc.trans h.afc
  frg := k.frg.trans h.frg
  dio := k.dio.trans h.dio
  sup := by
    have := k.sup
    rw [h.sup] at this
    exact this
  kept g h1 h2 := (k.kept g h1 h2).trans (h.kept g h1 h2)
  stay g hg := k.stay g (h.stay g hg)
  links := k.links.trans h.links

theorem State.Records.weaken {b : List Flag} (h : s.Records a t) (hab : ∀ g ∈ a, g ∈ b) : s.Records b t :=
  { h with kept := fun g h1 h2 => h.kept g (fun hg => h1 (hab g hg)) h2 }

theorem State.Records.updHum (s : State) (f : Hum → Hum) : s.Records a (s.updHum f) := { State.Records.refl a s with }
theorem State.Records.updFlt (s : State) (f : Flt → Flt) : s.Records a (s.updFlt f) := { State.Records.refl a s with }
theorem State.Records.useFree (s : State) : s.Records a s.useFree := { State.Records.refl a s with }

theorem State.Records.setFlag (s : State) {g : Flag} (hg : g ∈ a) : s.Records a (s.setFlag g) :=
  { State.Records.refl a s with
    sup := rfl
    kept := fun x h1 _ => by
      have : x ≠ g := by rintro rfl; exact h1 hg
      simp [State.setFlag, FlagSet.get_put, this]
    stay := fun x hx => by
      simp only [State.setFlag, State.updSup_sup, FlagSet.get_put]
      split <;> simp_all }

theorem State.Records.raise (s : State) (k : NoticeKind) (x : Nat) (v : Int) : s.Records a (s.raise k x v) where
  pending := (State.Rests.raise s k x v).pending
  osc := (State.Rests.raise s k x v).osc
  arb := (State.Rests.raise s k x v).arb
  afc := by simp
  frg := by simp
  dio := (State.Rests.raise s k x v).dio
  sup := (State.Rests.raise s k x v).sup
  kept g _ h2 := by
    rw [State.raise_eq s k x v rfl rfl rfl]
    dsimp only
    split
    · simp [FlagSet.get_put, h2]
    · rfl
  stay := (SettledFrom.raise s k x v).flagsStay
  links := by rw [State.raise_eq s k x v rfl rfl rfl]; rfl

theorem State.Records.foldl {α : Type} {f : State → α → State} (hf : ∀ (t : State) x, t.Records a (f t x)) (l : List α) (s : State) :
    s.Records a (l.foldl f s) := by
  induction l generalizing s with
  | nil => exact .refl a s
  | cons x l ih => exact (hf s x).trans (ih _)

/-- What a change of the records leaves to its consequences. -/
theorem State.Records.settled (h : s.Records a t) :
    SettledFrom [] { s with hum := t.hum, flt := t.flt, sup := t.sup } t := by
  have links := h.links
  simp only [Lnk.held, Prod.mk.injEq] at links
  obtain ⟨main, service, restarting⟩ := links
  exact { SettledFrom.refl [] t with
    pending := h.pending
    osc := by rw [h.osc]
    device := .inl (by rw [h.osc])
    watch := by rw [h.arb]
    slots := fun x _ _ _ => by
      rw [h.arb]
      exact (SettledFrom.refl [] s).slots x (by simp) ‹_› ‹_›
    paths := fun i => by simp [h.afc]
    frost := by rw [h.frg]
    dio := h.dio
    links := ⟨main, service, restarting⟩ }

/-- Of a change of the sensor table. -/
theorem State.Records.settledHum (h : s.Records a t) (hf : t.flt = s.flt) :
    SettledFrom [] { s with hum := t.hum, sup := t.sup } t := by
  have := h.settled
  rwa [hf] at this

theorem State.Records.restarting (h : s.Records a t) : t.lnk.restarting = s.lnk.restarting :=
  congrArg (fun x : LinkRec × LinkRec × Option Link => x.2.2) h.links

end Records

/-! ### The sensor table -/

section Entries

variable {s : State}

theorem State.deriveHumidity_same (s : State) : s.Records [.frostDegraded] s.deriveHumidity
    ∧ s.deriveHumidity.hum = { s.hum with extract := s.deriveHumidity.hum.extract }
    ∧ s.deriveHumidity.flt = s.flt := by
  unfold State.deriveHumidity
  split
  · dsimp only
    split
    · exact ⟨(State.Records.updHum s _).trans (.setFlag _ (by simp)), rfl, rfl⟩
    · exact ⟨.updHum s _, rfl, rfl⟩
  · exact ⟨.refl _ s, rfl, rfl⟩

theorem State.setSensor_same (s : State) (n : Nat) (st : SensorState) (f : Sensor → Sensor) :
    s.Records [] (s.setSensor n st f) ∧ (s.setSensor n st f).hum = s.hum.updSensor n fun e => { f e with state := st } := by
  unfold State.setSensor
  exact ⟨(State.Records.updHum s _).trans (.raise _ _ _ _), by rw [State.raise_hum]; rfl⟩

/-- An entry that enters PROBING (R93). -/
theorem State.enterProbing_same (s : State) (n : Nat) : s.Records [.frostDegraded] (s.enterProbing n)
    ∧ (s.enterProbing n).flt = s.flt
    ∧ (s.enterProbing n).hum.sensors = (s.hum.updSensor n fun e =>
        { e with attempts := 0, pause := none, lostTime := 0, state := .probing }).sensors
    ∧ (s.enterProbing n).hum.bus = s.hum.bus.offer n .probe := by
  unfold State.enterProbing
  obtain ⟨set, hum⟩ := s.setSensor_same n .probing fun e => { e with attempts := 0, pause := none, lostTime := 0 }
  have flt : (s.setSensor n .probing fun e => { e with attempts := 0, pause := none, lostTime := 0 }).flt = s.flt := by
    unfold State.setSensor
    rw [State.raise_flt]
    rfl
  generalize (s.setSensor n .probing fun e => { e with attempts := 0, pause := none, lostTime := 0 }) = t at *
  obtain ⟨derived, same, fltSame⟩ := (t.offerBus n .probe).deriveHumidity_same
  refine ⟨(set.weaken (by simp)).trans ((State.Records.updHum t _).trans derived), fltSame.trans flt, ?_, ?_⟩
  · rw [same]
    change t.hum.sensors = _
    rw [hum]
  · rw [same]
    change t.hum.bus.offer n .probe = _
    rw [hum]
    unfold Hum.updSensor
    split <;> rfl

theorem Hum.sensor_of_sensors {h k : Hum} (e : h.sensors = k.sensors) (n : Nat) : h.sensor n = k.sensor n := by
  unfold Hum.sensor
  rw [e]

theorem Hum.sensor_some {h : Hum} {n : Nat} {e : Sensor} (hn : h.sensor n = some e) : n ≠ 0 := by
  rintro rfl
  simp [Hum.sensor] at hn

/-- An image of entry `n` leaves the others. -/
theorem Hum.updSensor_sensor {h : Hum} {n : Nat} {e : Sensor} (hn : h.sensor n = some e) (f : Sensor → Sensor) :
    (h.updSensor n f).sensor n = some (f e) ∧ ∀ m, m ≠ n → (h.updSensor n f).sensor m = h.sensor m := by
  have n0 := Hum.sensor_some hn
  refine ⟨?_, fun m hm => ?_⟩
  · rw [Hum.sensor_updSensor n0 h f n0, if_pos rfl, hn]
    rfl
  · by_cases m0 : m = 0
    · subst m0
      rfl
    · rw [Hum.sensor_updSensor n0 h f m0, if_neg hm]

theorem Bus.offer_eq (b : Bus) (n : Nat) (k : BusKind) :
    b.offer n k = { b with queue := if (n, k) ∈ b.queue then b.queue else b.queue ++ [(n, k)] } := by
  unfold Bus.offer
  simp only [List.contains_iff_mem]
  split <;> rfl

end Entries

end Sys2Proof.Machine

/-- Settles O29. -/
theorem probeSensorRestarts : Obligations.ProbeSensorRestarts := by
  intro l s f o p h
  refine ⟨fun ho => ?_, fun ho hn => ?_, fun e ho he => ⟨fun hs => ?_, fun hs => ?_, fun hs => ?_⟩⟩
  · have below : o.rank < Origin.service.rank := by
      have link := h.fromLink
      cases o <;> simp_all [Origin.rank]
    exact congrArg Host.Outcome.next (h.answers (requireOrigin_below below))
  · subst ho
    refine congrArg Host.Outcome.next (h.answers ((requireOrigin_from le_rfl).trans ?_))
    rcases hn with hn | ⟨e, hn, hs⟩
    · have none : (s.handed l).hum.sensor p.toNat = none := hn
      simp only [none]
    · have some : (s.handed l).hum.sensor p.toNat = some e := hn
      simp only [some, hs]
  · subst ho
    have some : (s.handed l).hum.sensor p.toNat = some e := he
    refine congrArg Host.Outcome.next (h.answers ((requireOrigin_from le_rfl).trans ?_))
    simp only [some, hs]
    rfl
  · subst ho
    have some : (s.handed l).hum.sensor p.toNat = some e := he
    refine congrArg Host.Outcome.next (h.request h.notRestarting ((requireOrigin_from le_rfl).trans ?_))
    simp only [some, hs]
    rfl
  · subst ho
    have some : (s.handed l).hum.sensor p.toNat = some e := he
    obtain ⟨records, flt, sensors, bus⟩ := (s.handed l).enterProbing_same p.toNat
    have taken : actProbeSensor (s.handed l) .service [p]
        = ((s.handed l).enterProbing p.toNat, ⟨.ok, u8 p.toNat ++ u8 1⟩) := by
      refine (requireOrigin_from le_rfl).trans ?_
      rcases hs with hs | hs <;> simp only [some, hs] <;> rfl
    generalize (s.handed l).enterProbing p.toNat = t at *
    have quiet : t.lnk.restarting = none :=
      records.restarting.trans (State.handed_restarting.trans h.notRestarting)
    obtain ⟨entry, others⟩ := Hum.updSensor_sensor some fun e =>
      { e with attempts := 0, pause := none, lostTime := 0, state := .probing }
    refine ⟨_, congrArg Host.Outcome.next (h.leads quiet taken), ?_, fun n hn => ?_, bus.trans (Bus.offer_eq _ _ _), ?_⟩
    · exact (Hum.sensor_of_sensors sensors p.toNat).trans entry
    · exact (Hum.sensor_of_sensors sensors n).trans (others n hn)
    · exact State.holding_nextFrame (s := { s with hum := t.hum, sup := t.sup }) h.1 (records.settledHum flt)

end

section
/-! SET_SETTING, and the writes of the nonvolatile store. -/

open Sys2Proof Sys2Proof.Machine

namespace Sys2Proof.Machine

/-! ### A write of a setting -/

section Settings

variable {t : List Int} {id : Nat} {row : SettingRow} {o : Origin} {v w : Int}

theorem settingRow_none {b : Byte} (h : b = 0 ∨ 84 < b.toNat) : settingRow b.toNat = none := by
  refine Option.eq_none_iff_forall_ne_some.mpr fun row hrow => ?_
  obtain ⟨h0, h84⟩ := settingRow_some hrow
  rcases h with rfl | h
  · exact h0 rfl
  · omega

theorem writeSetting_unknown (h : settingRow id = none) : writeSetting t o id v = (.badRequest, t, v) := by
  simp only [writeSetting, h]

theorem writeSetting_notPermitted (hr : settingRow id = some row) (ho : o.rank < row.origin.rank) :
    writeSetting t o id v = (.notPermitted, t, v) := by
  simp only [writeSetting, hr, if_pos ho]

theorem writeSetting_meaningless (hr : settingRow id = some row) (ho : row.origin.rank ≤ o.rank)
    (hw : settingTaken t id row v = none) : writeSetting t o id v = (.badRequest, t, v) := by
  simp only [writeSetting, hr, if_neg (not_lt.mpr ho), hw]

theorem writeSetting_clash (hr : settingRow id = some row) (ho : row.origin.rank ≤ o.rank)
    (hw : settingTaken t id row v = some w) (hc : sensorClash t id w = true) :
    writeSetting t o id v = (.badRequest, t, v) := by
  simp only [writeSetting, hr, if_neg (not_lt.mpr ho), hw, if_pos hc]

theorem writeSetting_taken (hr : settingRow id = some row) (ho : row.origin.rank ≤ o.rank)
    (hw : settingTaken t id row v = some w) (hc : sensorClash t id w = false) :
    writeSetting t o id v = (if w = v then .ok else .clamped, settingSet t id w, w) := by
  simp only [writeSetting, hr, if_neg (not_lt.mpr ho), hw, hc]
  rfl

/-- An enumeration or a set takes no value outside its range. -/
theorem settingTaken_outside (hk : row.kind = .enumeration ∨ row.kind = .set) (h : v < row.lo ∨ row.hi < v) :
    settingTaken t id row v = none := by
  rcases hk with hk | hk <;> simp only [settingTaken, hk] <;> exact if_neg (by omega)

end Settings

section SetSetting

variable {s : State} {o : Origin} {b v3 v2 v1 v0 : Byte}

theorem actSetSetting_badRequest {t : List Int} {v : Int}
    (h : writeSetting s.osc.working o b.toNat (be32 v3 v2 v1 v0) = (.badRequest, t, v)) :
    actSetSetting s o [b, v3, v2, v1, v0] = (s, .bare .badRequest) := by
  simp only [actSetSetting, h]

theorem actSetSetting_notPermitted {t : List Int} {v : Int}
    (h : writeSetting s.osc.working o b.toNat (be32 v3 v2 v1 v0) = (.notPermitted, t, v)) :
    actSetSetting s o [b, v3, v2, v1, v0] = (s, .bare .notPermitted) := by
  simp only [actSetSetting, h]

theorem actSetSetting_taken {t : List Int} {w : Int} (h : writeSetting s.osc.working o b.toNat (be32 v3 v2 v1 v0)
      = (if w = be32 v3 v2 v1 v0 then .ok else .clamped, t, w)) :
    actSetSetting s o [b, v3, v2, v1, v0] = (s.takeSetting b.toNat t,
      ⟨if w = be32 v3 v2 v1 v0 then .ok else .clamped, u8 b.toNat ++ s32 w⟩) := by
  by_cases hw : w = be32 v3 v2 v1 v0
  · rw [if_pos hw] at h ⊢
    simp only [actSetSetting, h]
  · rw [if_neg hw] at h ⊢
    simp only [actSetSetting, h]

/-! ### What follows from a changed setting -/

theorem State.takeSetting_same {id : Nat} {t : List Int} (h : settingVal s.osc.working id = settingVal t id) :
    s.takeSetting id t = s := if_pos h

theorem State.takeSetting_changed {id : Nat} {t : List Int} (h : settingVal s.osc.working id ≠ settingVal t id) :
    s.takeSetting id t = (s.updOsc fun o => { o with working := t }).settingChanged id := if_neg h

theorem State.settingChanged_other {id : Nat} (h1 : id ≠ 30) (h2 : id ≠ 64) : s.settingChanged id = s.propagate := by
  simp only [State.settingChanged, if_neg h1, if_neg h2]

theorem State.settingChanged_imbalance :
    s.settingChanged 30 = (s.setImbalance (min s.frg.imbalance (s.setting 30))).propagate := rfl

theorem State.settingChanged_filterHours : s.settingChanged 64 = s.deriveFilters.propagate := rfl

theorem State.setImbalance_settled (s : State) (n : Nat) :
    SettledFrom [] { s with frg := { s.frg with imbalance := n } } (s.setImbalance n) := by
  unfold State.setImbalance
  dsimp only
  split
  · exact .refl _ _
  · split
    · exact .checkCapped _
    · exact .trySettle _

theorem State.flagDue_records (s : State) (old new : FilterState) : s.Records [.filterDue] (s.flagDue old new) := by
  unfold State.flagDue
  split
  · exact .setFlag _ (by simp)
  · exact .refl _ _

theorem State.deriveFilter_records (s : State) (i : PathId) : s.Records [.filterDue] (s.deriveFilter i) := by
  unfold State.deriveFilter
  dsimp only
  split
  · exact .updFlt _ _
  · exact (State.Records.updFlt s _).trans ((State.Records.raise _ _ _ _).trans (State.flagDue_records _ _ _))

theorem State.deriveFilter_hum (s : State) (i : PathId) : (s.deriveFilter i).hum = s.hum := by
  unfold State.deriveFilter State.flagDue
  dsimp only
  split
  · rfl
  · split <;> simp [State.setFlag]

theorem State.deriveFilters_records (s : State) : s.Records [.filterDue] s.deriveFilters :=
  (s.deriveFilter_records .supply).trans (State.deriveFilter_records _ _)

theorem State.deriveFilters_hum (s : State) : s.deriveFilters.hum = s.hum :=
  (State.deriveFilter_hum _ _).trans (s.deriveFilter_hum _)

/-- What a setting that is taken leads to. -/
structure State.TakesSetting (s : State) (id : Nat) (table : List Int) (t : State) : Prop where
  working : t.osc.working = table
  restarting : t.lnk.restarting = s.lnk.restarting
  other : id ≠ 30 → id ≠ 64 → SettledFrom [] { s with osc := { s.osc with working := table } } t
  imbalance : id = 30 → SettledFrom [] { s with
      osc := { s.osc with working := table }, frg := { s.frg with imbalance := t.frg.imbalance } } t
    ∧ t.frg.imbalance = min s.frg.imbalance (settingNat table 30)
  filterHours : id = 64 → SettledFrom [] { s with
      osc := { s.osc with working := table }, flt := t.flt, sup := t.sup } t
    ∧ ∀ g, g ≠ .filterDue → g ≠ .runOnCut → g ≠ .noticesLost → t.sup.flags.get g = s.sup.flags.get g

/-- What has settled from a change of records, seen from the state before the change. -/
theorem State.Records.settledFrom {a : List Flag} {s t u : State} (h : s.Records a t) (hum : t.hum = s.hum)
    (k : SettledFrom [] t u) : SettledFrom [] { s with flt := u.flt, sup := u.sup } u := by
  have links := h.links
  simp only [Lnk.held, Prod.mk.injEq] at links
  obtain ⟨main, service, restarting⟩ := links
  exact { SettledFrom.refl [] u with
    pending := k.pending.trans h.pending
    osc := by rw [← h.osc]; exact k.osc
    device := by rw [← h.osc]; exact k.device
    watch := k.watch.trans (congrArg Arb.watch h.arb)
    slots := by
      have := k.slots
      rw [h.arb] at this
      exact this
    paths := by
      have := k.paths
      rw [h.afc] at this
      exact this
    frost := by
      have := k.frost
      rw [h.frg] at this
      exact this
    hum := k.hum.trans hum
    dio := k.dio.trans h.dio
    links := ⟨k.links.1.trans main, k.links.2.1.trans service, k.links.2.2.trans restarting⟩ }

theorem State.takesSetting {s : State} {id : Nat} {table : List Int}
    (h : settingVal s.osc.working id ≠ settingVal table id) : s.TakesSetting id table (s.takeSetting id table) := by
  rw [State.takeSetting_changed h]
  have base : s.updOsc (fun o => { o with working := table }) = { s with osc := { s.osc with working := table } } := rfl
  by_cases h30 : id = 30
  · subst h30
    rw [State.settingChanged_imbalance, base]
    have set := State.setImbalance_settled { s with osc := { s.osc with working := table } }
      (min s.frg.imbalance (settingNat table 30))
    have follow := set.next (.propagate _)
    change SettledFrom [] _ (State.setImbalance _ (min s.frg.imbalance (settingNat table 30))).propagate at follow
    change State.TakesSetting _ _ _ (State.setImbalance _ (min s.frg.imbalance (settingNat table 30))).propagate
    generalize (State.setImbalance _ (min s.frg.imbalance (settingNat table 30))).propagate = t at *
    have low : t.frg.imbalance = min s.frg.imbalance (settingNat table 30) := by
      have := congrArg Frg.imbalance follow.frost
      exact this
    exact {
      working := congrArg Osc.working follow.osc
      restarting := follow.restarting
      other := fun hne => absurd rfl hne
      imbalance := fun _ => ⟨by rw [low]; exact follow, low⟩
      filterHours := by simp }
  · by_cases h64 : id = 64
    · subst h64
      rw [State.settingChanged_filterHours, base]
      have records := State.deriveFilters_records { s with osc := { s.osc with working := table } }
      have hum := State.deriveFilters_hum { s with osc := { s.osc with working := table } }
      generalize State.deriveFilters _ = t at *
      have follow := SettledFrom.propagate t
      generalize t.propagate = u at *
      exact {
        working := (congrArg Osc.working follow.osc).trans (congrArg Osc.working records.osc)
        restarting := follow.restarting.trans records.restarting
        other := fun _ hne => absurd rfl hne
        imbalance := by simp
        filterHours := fun _ => ⟨records.settledFrom hum follow, fun g h1 h2 h3 =>
          (follow.flags g h2 h3).trans (records.kept g (by simpa using h1) h3)⟩ }
    · rw [State.settingChanged_other h30 h64, base]
      have follow := SettledFrom.propagate { s with osc := { s.osc with working := table } }
      generalize State.propagate _ = u at *
      exact {
        working := congrArg Osc.working follow.osc
        restarting := follow.restarting
        other := fun _ _ => follow
        imbalance := fun h => absurd h h30
        filterHours := fun h => absurd h h64 }

end SetSetting

end Sys2Proof.Machine

/-- Settles O25: a value that the table holds changes nothing; another one leads to what `TakesSetting` says. -/
theorem setSettingWrites : Obligations.SetSettingWrites := by
  intro l s f o b v3 v2 v1 v0 h
  refine ⟨fun hb => ?_, fun row hr => ⟨fun ho => ?_, fun ho hk hv => ?_, fun w ho hw => ⟨fun hc => ?_, fun hc => ?_⟩,
    fun hk => ?_⟩⟩
  · exact congrArg Host.Outcome.next
      (h.answers (actSetSetting_badRequest (s := s.handed l) (writeSetting_unknown (settingRow_none hb))))
  · exact congrArg Host.Outcome.next
      (h.answers (actSetSetting_notPermitted (s := s.handed l) (writeSetting_notPermitted hr ho)))
  · exact congrArg Host.Outcome.next (h.answers (actSetSetting_badRequest (s := s.handed l)
      (writeSetting_meaningless hr ho (settingTaken_outside hk hv))))
  · exact congrArg Host.Outcome.next
      (h.answers (actSetSetting_badRequest (s := s.handed l) (writeSetting_clash hr ho hw hc)))
  · have taken := actSetSetting_taken (s := s.handed l) (writeSetting_taken hr ho hw hc)
    have held : s.osc.working.length = 84 → settingVal (settingSet s.osc.working b.toNat w) b.toNat = w := by
      intro hl
      obtain ⟨h0, h84⟩ := settingRow_some hr
      exact settingVal_set_self h0 (by omega) w
    have others (id : Nat) (hid : id ≠ b.toNat) :
        settingVal (settingSet s.osc.working b.toNat w) id = settingVal s.osc.working id := settingVal_set_ne hid w
    have id30 : b = 30 ↔ b.toNat = 30 := ⟨fun e => by rw [e]; rfl, fun e => BitVec.eq_of_toNat_eq e⟩
    have id64 : b = 64 ↔ b.toNat = 64 := ⟨fun e => by rw [e]; rfl, fun e => BitVec.eq_of_toNat_eq e⟩
    by_cases same : settingVal s.osc.working b.toNat = settingVal (settingSet s.osc.working b.toNat w) b.toNat
    · have kept : (s.handed l).takeSetting b.toNat (settingSet s.osc.working b.toNat w) = s.handed l :=
        State.takeSetting_same (s := s.handed l) same
      refine ⟨s, congrArg Host.Outcome.next (h.answers (taken.trans ?_)), fun hl => same.trans (held hl), fun _ _ => rfl,
        fun _ _ => rfl, fun _ _ => .refl [] s, fun _ => .refl [] s, fun _ => ⟨.refl [] s, fun _ _ _ _ => rfl⟩,
        fun hb hl => .inr ⟨?_, rfl⟩⟩
      · exact congrArg (fun u => (u, _)) kept
      · rw [id30.mp hb] at same held
        exact same.trans (held hl)
    · have leads : (s.handed l).TakesSetting b.toNat (settingSet s.osc.working b.toNat w)
          ((s.handed l).takeSetting b.toNat (settingSet s.osc.working b.toNat w)) :=
        State.takesSetting (s := s.handed l) same
      change actSetSetting (s.handed l) o [b, v3, v2, v1, v0]
        = ((s.handed l).takeSetting b.toNat (settingSet s.osc.working b.toNat w), _) at taken
      generalize (s.handed l).takeSetting b.toNat (settingSet s.osc.working b.toNat w) = t at *
      obtain ⟨working, restarting, other, imbalance, filterHours⟩ := leads
      have quiet : t.lnk.restarting = none := restarting.trans (State.handed_restarting.trans h.notRestarting)
      refine ⟨t.holding l f, congrArg Host.Outcome.next (h.leads quiet taken), fun hl => ?_, fun id hid => ?_,
        fun hs hl => absurd (hs.trans (held hl).symm) same, fun h30 h64 => ?_, fun h30 => ?_, fun h64 => ?_,
        fun h30 hl => .inl ?_⟩
      · exact (congrArg (settingVal · b.toNat) working).trans (held hl)
      · exact (congrArg (settingVal · id) working).trans (others id hid)
      · rw [← working] at other
        exact State.holding_nextFrame (s := { s with osc := { s.osc with working := t.osc.working } }) h.1
          (other (fun e => h30 (id30.mpr e)) fun e => h64 (id64.mpr e))
      · rw [← working] at imbalance
        exact State.holding_nextFrame (s := { s with
          osc := { s.osc with working := t.osc.working }, frg := { s.frg with imbalance := t.frg.imbalance } }) h.1
          (imbalance (id30.mp h30)).1
      · rw [← working] at filterHours
        obtain ⟨settled, flags⟩ := filterHours (id64.mp h64)
        exact ⟨State.holding_nextFrame (s := { s with
          osc := { s.osc with working := t.osc.working }, flt := t.flt, sup := t.sup }) h.1 settled, flags⟩
      · rw [← working] at imbalance
        exact (imbalance (id30.mp h30)).2
  · simp only [settingTaken, hk]

end

section
/-! The writes of the nonvolatile store: their start, their end and their failure. -/

open Sys2Proof Sys2Proof.Machine

namespace Sys2Proof.Machine

/-! ### Which copy, and its count -/

section Target

variable {v1 v2 : Bool} {n1 n2 : Nat}

theorem writeTarget_firstInvalid (h : v1 = false) : writeTarget v1 v2 n1 n2 = .first := if_pos h

theorem writeTarget_secondInvalid (h1 : v1 = true) (h2 : v2 = false) : writeTarget v1 v2 n1 n2 = .second := by
  simp [writeTarget, h1, h2]

theorem writeTarget_lowerFirst (h1 : v1 = true) (h2 : v2 = true) (h : n1 < n2) : writeTarget v1 v2 n1 n2 = .first := by
  simp [writeTarget, h1, h2, not_lt.mpr h.le]

theorem writeTarget_lowerSecond (h1 : v1 = true) (h2 : v2 = true) (h : n2 < n1) : writeTarget v1 v2 n1 n2 = .second := by
  simp [writeTarget, h1, h2, h]

theorem nextCount_none (h1 : v1 = false) (h2 : v2 = false) : nextCount v1 v2 n1 n2 = 1 := if_pos ⟨h1, h2⟩

theorem nextCount_first (h1 : v1 = true) (h2 : v2 = false) (h : n1 < 4294967295) : nextCount v1 v2 n1 n2 = n1 + 1 := by
  simp [nextCount, h1, h2, Config.last32, h]

theorem nextCount_both (h1 : v1 = true) (h2 : v2 = true) (h : max n1 n2 < 4294967295) :
    nextCount v1 v2 n1 n2 = max n1 n2 + 1 := by
  simp only [nextCount, h1, h2, if_true, Config.last32]
  rw [if_neg (by simp), if_pos h]

end Target

/-- A settings store as it starts: the copy that it goes to no longer counts. -/
theorem Osc.startStore_eq (o : Osc) {target : CopyId} {count : Nat}
    (ht : target = writeTarget o.copy1.valid o.copy2.valid o.copy1.writeCount o.copy2.writeCount)
    (hn : count = nextCount o.copy1.valid o.copy2.valid o.copy1.writeCount o.copy2.writeCount) :
    o.startStore = { o with
      writing := some { snapshot := o.working, target := target, count := count }
      copy1 := if target = .first then o.copy1.spoiled else o.copy1
      copy2 := if target = .second then o.copy2.spoiled else o.copy2 } := by
  unfold Osc.startStore
  dsimp only
  rw [← ht, ← hn]
  cases target <;> rfl

theorem actStoreSettings_system {s : State} {o : Origin} {fields : List Byte} (ho : o ≠ .occupant) :
    actStoreSettings s o fields = if s.osc.writing.isSome then (s, .bare .busy) else (s.updOsc Osc.startStore, .bare .ok) :=
  requireOrigin_from (Origin.system_le ho)

/-- What a store that ends well leaves. -/
theorem Osc.stored_eq (o : Osc) (w : SettingsWrite) : o.stored w = { o with
    copy1 := if w.target = .first then .sealed w.snapshot w.count else o.copy1
    copy2 := if w.target = .second then .sealed w.snapshot w.count else o.copy2 } := by
  unfold Osc.stored
  cases w.target <;> rfl

theorem Flt.written_eq (t : Flt) (w : FilterWrite) : t.written w = { t with
    copy1 := if w.target = .first then .sealed w.snapshot w.count else t.copy1
    copy2 := if w.target = .second then .sealed w.snapshot w.count else t.copy2 } := by
  unfold Flt.written
  cases w.target <;> rfl

theorem CopyId.first_ne_second {c : CopyId} : c = .first → c ≠ .second := by cases c <;> decide

section Ends

variable {s : State}

theorem execStoreComplete_done {w : SettingsWrite} (h : s.osc.writing = some w) : execStoreComplete true s
    = .next ((s.updOsc fun o => { o with writing := none }.stored w).raise .settingsStored 0 0) := by
  simp only [execStoreComplete, h]
  rfl

theorem execStoreComplete_failed {w : SettingsWrite} (h : s.osc.writing = some w) : execStoreComplete false s
    = .next ((s.updOsc fun o => { o with writing := none }).setFlag .storeFailed) := by
  simp only [execStoreComplete, h]
  rfl

theorem execFilterWriteComplete_last {w : FilterWrite} (ok : Bool) (h : s.flt.writing = some w) (ha : s.flt.again = false) :
    execFilterWriteComplete ok s
      = .next ((if ok then s.updFlt (·.written w) else s.setFlag .storeFailed).updFlt fun t =>
          { t with writing := none }) := by
  have again : (if ok then s.updFlt (·.written w) else s.setFlag .storeFailed).flt.again = false := by
    cases ok
    · exact ha
    · simp only [if_true, State.updFlt_flt, Flt.written_eq, ha]
  simp only [execFilterWriteComplete, h]
  refine congrArg Host.Outcome.next ?_
  unfold State.updFlt at again ⊢
  dsimp only at again ⊢
  rw [again]
  rfl

theorem execFilterWriteComplete_again {w : FilterWrite} (ok : Bool) (h : s.flt.writing = some w) (ha : s.flt.again = true) :
    execFilterWriteComplete ok s
      = .next ((if ok then s.updFlt (·.written w) else s.setFlag .storeFailed).updFlt fun t =>
          { t with writing := none }.startWrite) := by
  have again : (if ok then s.updFlt (·.written w) else s.setFlag .storeFailed).flt.again = true := by
    cases ok
    · exact ha
    · simp only [if_true, State.updFlt_flt, Flt.written_eq, ha]
  simp only [execFilterWriteComplete, h]
  refine congrArg Host.Outcome.next ?_
  unfold State.updFlt at again ⊢
  dsimp only at again ⊢
  rw [again]
  rfl

end Ends

end Sys2Proof.Machine

/-- Settles O26. -/
theorem storesWriteAndEnd : Obligations.StoresWriteAndEnd := by
  intro l s f o
  refine ⟨fun h => ⟨fun ho => ?_, fun ho hw => ?_, fun ho hw => ?_⟩, fun w hw => ⟨?_, ?_⟩, fun w hw ha => ⟨?_, ?_⟩,
    fun w ok hw ha => ?_⟩
  · subst ho
    exact congrArg Host.Outcome.next (h.answers (requireOrigin_below (by decide)))
  · refine congrArg Host.Outcome.next (h.answers ((actStoreSettings_system ho).trans (if_pos ?_)))
    exact Option.isSome_iff_ne_none.mpr hw
  · generalize ht : writeTarget s.osc.copy1.valid s.osc.copy2.valid s.osc.copy1.writeCount s.osc.copy2.writeCount = target
    generalize hn : nextCount s.osc.copy1.valid s.osc.copy2.valid s.osc.copy1.writeCount s.osc.copy2.writeCount = count
    have start := s.osc.startStore_eq ht.symm hn.symm
    refine ⟨(target, count), _, _, congrArg Host.Outcome.next (h.request h.notRestarting
      ((actStoreSettings_system ho).trans ((if_neg (by simp [State.handed, hw])).trans
        (congrArg (fun u => (({ s with osc := u } : State).handed l, Reply.bare .ok)) start)))),
      fun e => ?_, fun e => ?_, fun h1 => ?_, fun h1 h2 => ?_, fun h1 h2 => ?_, fun h1 h2 => ?_⟩
    · dsimp only at e
      simp [e]
    · dsimp only at e
      simp [e]
    · rw [← ht]
      exact writeTarget_firstInvalid h1
    · rw [← ht, ← hn]
      exact ⟨writeTarget_secondInvalid h1 h2, nextCount_first h1 h2⟩
    · rw [← ht, ← hn]
      exact ⟨writeTarget_lowerFirst h1 h2, writeTarget_lowerSecond h1 h2, nextCount_both h1 h2⟩
    · rw [← hn]
      exact nextCount_none h1 h2
  · refine ⟨_, execStoreComplete_done hw, ?_⟩
    have settled := SettledFrom.raise (s.updOsc fun o => { o with writing := none }.stored w) .settingsStored 0 0
    have osc := State.raise_osc (s.updOsc fun o => { o with writing := none }.stored w) .settingsStored 0 0
    generalize (s.updOsc fun o => { o with writing := none }.stored w).raise .settingsStored 0 0 = t at *
    rw [State.updOsc_osc, Osc.stored_eq] at osc
    refine ⟨by rw [osc], fun c hc => ?_, fun e => ?_, fun e => ?_, ?_⟩
    · have copy : c = .sealed w.snapshot w.count := by
        rcases hc with ⟨e, rfl⟩ | ⟨e, rfl⟩ <;> simp [osc, e]
      rw [copy]
      exact ⟨rfl, rfl, rfl, SettingsCopy.sealed_valid w.count⟩
    · rw [osc]
      exact if_neg (CopyId.first_ne_second e)
    · rw [osc]
      exact if_neg fun e' => CopyId.first_ne_second e' e
    · rw [osc]
      change SettledFrom [] { s with osc := Osc.stored { s.osc with writing := none } w } t at settled
      rw [Osc.stored_eq] at settled
      exact settled
  · exact execStoreComplete_failed hw
  · refine ⟨.sealed w.snapshot w.count, (execFilterWriteComplete_last true hw ha).trans (congrArg Host.Outcome.next ?_),
      rfl, rfl, FilterCopy.sealed_crcOk _ _⟩
    rw [if_pos rfl]
    unfold State.updFlt
    dsimp only
    rw [Flt.written_eq]
  · exact execFilterWriteComplete_last false hw ha
  · have ended := execFilterWriteComplete_again ok hw ha
    have kept : ∃ (t : State) (c1 c2 : FilterCopy),
        (if ok then s.updFlt (·.written w) else s.setFlag .storeFailed) = t ∧ t.flt = { s.flt with copy1 := c1, copy2 := c2 }
          ∧ t.osc = s.osc ∧ t.arb = s.arb := by
      cases ok
      · exact ⟨_, s.flt.copy1, s.flt.copy2, rfl, rfl, rfl, rfl⟩
      · exact ⟨_, _, _, rfl, Flt.written_eq _ _, rfl, rfl⟩
    obtain ⟨t, c1, c2, he, flt, osc, arb⟩ := kept
    rw [he] at ended
    obtain ⟨d1, d2, v, -, -, snapshot, shape⟩ := Flt.startWrite_eq { t.flt with writing := none }
    refine ⟨_, v, ended, ?_⟩
    rw [State.updFlt_flt, shape, flt]
    refine ⟨rfl, ?_, rfl, rfl, rfl, osc, arb⟩
    rw [snapshot, flt]
    rfl

end

section
/-! Posts: what one does to its slot, what the watch does to it, and what follows. -/

open Sys2Proof Sys2Proof.Machine

namespace Sys2Proof.Machine

/-! ### The record of a post -/

/-- The record that a post makes of what its slot held. -/
def PostArgs.record (p : PostArgs) (old : Option Demand) (now : Nat) : Demand :=
  match old with
  | none => p.demand now
  | some d => p.renewed d

theorem PostArgs.record_eq (p : PostArgs) (old : Option Demand) (now : Nat) : (p.record old now).level = p.level
    ∧ (p.record old now).origin = p.origin ∧ (p.record old now).carry = p.carry ∧ (p.record old now).run = p.run
    ∧ (p.record old now).postedAt = match old with | some d => d.postedAt | none => now := by
  cases old <;> exact ⟨rfl, rfl, rfl, rfl, rfl⟩

/-- A preemption leaves every demand what it was, but for a suspension counted. -/
theorem Arb.preempt_demand (a : Arb) (o w x : Slot) : SameDemand (a.table.get x) ((a.preempt o w).1.table.get x) := by
  change SameDemand _ ((a.push o).table.get x)
  rw [Arb.push_get]
  split
  · next e =>
    subst e
    exact .pushed _
  · exact .refl _

/-- After a post its slot holds the record of the post. -/
theorem Arb.post_record (a : Arb) (x : Slot) (p : PostArgs) (now : Nat) :
    SameDemand (some (p.record (a.table.get x) now)) ((a.post x p now).1.table.get x) := by
  have preempted (d : Demand) (e : Bool) (b : Arb) (hb : b.table = (a.filled x d e).table) (o w : Slot) :
      SameDemand (some d) ((b.preempt o w).1.table.get x) := by
    have := b.preempt_demand o w x
    rwa [hb, Arb.filled_get_same] at this
  have posted := a.post_posted x p now
  generalize a.post x p now = r at *
  cases posted with
  | preempts act free active above =>
    rw [free]
    exact preempted (p.demand now) a.expiring _ rfl act x
  | waits free below =>
    rw [free]
    change SameDemand _ ((a.filled x (p.demand now) a.expiring).table.get x)
    rw [Arb.filled_get_same]
    exact .refl _
  | overtaken w d held active leads above =>
    rw [held]
    exact preempted (p.renewed d) (a.markAfter x) (Arb.leave _ w) rfl x w
  | overtakes act d held active other above =>
    rw [held]
    exact preempted (p.renewed d) (a.markAfter x) (Arb.leave _ x) rfl act x
  | stays d held self other =>
    rw [held]
    change SameDemand _ ((a.filled x (p.renewed d) (a.markAfter x)).table.get x)
    rw [Arb.filled_get_same]
    exact .refl _

theorem SameDemand.of_some {d : Demand} {e : Option Demand} (h : SameDemand (some d) e) : ∃ b, e = some b
    ∧ b.level = d.level ∧ b.origin = d.origin ∧ b.carry = d.carry ∧ b.run = d.run ∧ b.postedAt = d.postedAt := by
  cases e with
  | none => exact h.elim
  | some b => exact ⟨b, rfl, h⟩

section Posts

variable {s : State}

/-- What the reports of a change of the demand table lead to, from the change itself. -/
theorem SettledFrom.reported (s : State) (r : Arb × List Report) (hr : ∀ q ∈ r.2, q.kind = .active ∨ q.kind = .suspended) :
    SettledFrom [] (s.updArb fun _ => r.1) (s.applyArb r) := by
  unfold State.applyArb
  dsimp only
  refine SettledFrom.next ?_ (.takeReports _ (fun q hq => hr q (List.mem_of_mem_filter hq)) _)
  split
  · exact .refl _ _
  · exact .raise _ _ _ _

/-- What a post that takes effect leads to. -/
structure State.Posted (s : State) (x : Slot) (p : PostArgs) (u : State) : Prop where
  settled : SettledFrom [x] s u
  record : x ≠ .filterCheck → x ≠ .defrost →
    SameDemand (some (p.record (s.arb.table.get x) s.osc.uptime)) (u.arb.table.get x)
  atRest : s.atRest → s.arb.active ≠ some .filterCheck →
    u.arb = (s.arb.post x p s.osc.uptime).1 ∧ u.sup = { s.sup with flags := u.sup.flags }

/-- A post with what follows. -/
theorem State.applyPost_posted (s : State) (x : Slot) (p : PostArgs) :
    s.Posted x p (s.applyArb (s.arb.post x p s.osc.uptime)).propagate where
  settled := ((SettledFrom.applyArb s _ (.post _ _ _ _) (Arb.post_reports _ _ _ _)).trans (.propagate _)).weaken (by simp)
  record h1 h2 := by
    have reported := SettledFrom.reported s (s.arb.post x p s.osc.uptime) (Arb.post_reports _ _ _ _)
    have follow := reported.next (.propagate _)
    exact (Arb.post_record s.arb x p s.osc.uptime).trans (follow.slots x (by simp) h1 h2)
  atRest hs ha := by
    have plain := Arb.post_interrupts ha x p s.osc.uptime
    refine ⟨State.applyArb_propagate_arb hs plain, ?_⟩
    have reports := (State.Reports.applyArb s (s.arb.post x p s.osc.uptime)).sup
    have rests := (State.Rests.propagate (State.applyArb_atRest hs plain)).sup
    rw [reports] at rests
    exact rests

/-- The record as its fields. -/
theorem State.Posted.fields {x : Slot} {p : PostArgs} {u : State} (h : s.Posted x p u) (h1 : x ≠ .filterCheck)
    (h2 : x ≠ .defrost) : ∃ d, u.arb.table.get x = some d ∧ d.level = p.level ∧ d.origin = p.origin ∧ d.carry = p.carry
      ∧ d.run = p.run
      ∧ d.postedAt = match s.arb.table.get x with | some old => old.postedAt | none => s.osc.uptime := by
  obtain ⟨d, hd, level, origin, carry, run, at_⟩ := (h.record h1 h2).of_some
  obtain ⟨level', origin', carry', run', at'⟩ := p.record_eq (s.arb.table.get x) s.osc.uptime
  exact ⟨d, hd, level.trans level', origin.trans origin', carry.trans carry', run.trans run', at_.trans at'⟩

/-! ### The watch -/

/-- A capture offered: an ARMED record takes it, a HELD one counts it as missed (R160). -/
theorem State.offerCapture_taken (s : State) (c : Capture) : { s.offerCapture c with sup := s.sup, lnk := s.lnk } = s
    ∧ (∀ n, (s.offerCapture c).lnk.link n = s.lnk.link n) ∧ (s.offerCapture c).lnk.restarting = s.lnk.restarting
    ∧ (s.sup.capture = none → (s.offerCapture c).sup.capture = some c ∧ (s.offerCapture c).sup.missed = 0)
    ∧ (s.sup.capture ≠ none →
      s.offerCapture c = { s with sup := { s.sup with missed := min (s.sup.missed + 1) 255 } }) := by
  unfold State.offerCapture Sup.offer
  cases hc : s.sup.capture with
  | none =>
    dsimp only
    rw [if_pos rfl]
    refine ⟨?_, fun n => by simp, by simp, fun _ => by simp, fun h => absurd rfl h⟩
    rw [State.raise_eq _ _ _ _ rfl rfl rfl]
    rfl
  | some k =>
    dsimp only
    rw [if_neg (by decide)]
    refine ⟨rfl, fun n => rfl, rfl, by simp, fun _ => ?_⟩
    unfold State.updSup
    rw [← hc]
    rfl

/-- What a WATCH capture of a post holds (R21). -/
def PostArgs.capture (p : PostArgs) (x : Slot) (requested : Nat) (l : Option Link) (now : Nat) : Capture :=
  .watch x p.origin requested p.level p.carry.figures.1 p.carry.figures.2 l now

theorem Capture.isFault_iff {k : Capture} : k.isFault = true ↔ ∃ f x v t, k = .fault f x v t := by
  cases k <;> simp [Capture.isFault]

section Watch

variable {x : Slot} {n : Nat} {p : PostArgs} {l : Option Link}

theorem State.watchTest_missed (h : s.arb.watch.hits x (s.arb.isFree x) p.level = false) :
    s.watchTest x n p l = (s, false) := if_neg (by simp [h])

/-- A FAULT capture makes the watch dormant, but the match counts. -/
theorem State.watchTest_dormant (h : s.arb.watch.hits x (s.arb.isFree x) p.level = true) {k : Capture}
    (hk : s.sup.capture = some k) (hf : k.isFault = true) :
    s.watchTest x n p l = ({ s with sup := { s.sup with missed := min (s.sup.missed + 1) 255 } }, false) := by
  obtain ⟨g, y, v, t, rfl⟩ := Capture.isFault_iff.mp hf
  unfold State.watchTest
  rw [if_pos h]
  simp only [hk]
  unfold State.updSup
  rw [← hk]
  rfl

/-- A match while no FAULT capture is held offers its capture, and blocks where the watch is set to. -/
theorem State.watchTest_matched (h : s.arb.watch.hits x (s.arb.isFree x) p.level = true)
    (hk : ∀ k, s.sup.capture = some k → k.isFault = false) :
    s.watchTest x n p l = (s.offerCapture (p.capture x n l s.osc.uptime),
      s.arb.watch.action == .block && x != .defrost && x != .fire) := by
  unfold State.watchTest
  rw [if_pos h]
  split
  · next g y v t hc => exact absurd (hk _ hc) (by simp [Capture.isFault])
  · rfl

/-- A match that does not block: the state in which the post takes effect. -/
theorem State.watchTest_passes (h : s.arb.watch.hits x (s.arb.isFree x) p.level = true)
    (ha : s.arb.watch.action = .capture ∨ ∃ k, s.sup.capture = some k ∧ k.isFault = true) :
    ∃ w : State, s.watchTest x n p l = (w, false) ∧ { w with sup := s.sup, lnk := s.lnk } = s
      ∧ (∀ m, w.lnk.link m = s.lnk.link m) ∧ w.lnk.restarting = s.lnk.restarting
      ∧ (s.sup.capture = none → w.sup.capture = some (p.capture x n l s.osc.uptime))
      ∧ (s.sup.capture ≠ none → w.sup.capture = s.sup.capture)
      ∧ w.sup.missed = if s.sup.capture = none then 0 else min (s.sup.missed + 1) 255 := by
  by_cases hf : ∃ k, s.sup.capture = some k ∧ k.isFault = true
  · obtain ⟨k, hk, hf⟩ := hf
    refine ⟨_, State.watchTest_dormant h hk hf, rfl, fun _ => rfl, rfl, by simp [hk], fun _ => rfl, ?_⟩
    rw [if_neg (by simp [hk])]
  · have noFault : ∀ k, s.sup.capture = some k → k.isFault = false := by
      intro k hk
      simpa using fun hf' => hf ⟨k, hk, hf'⟩
    have action : s.arb.watch.action = .capture := ha.resolve_right hf
    obtain ⟨same, links, restarting, armed, held⟩ := s.offerCapture_taken (p.capture x n l s.osc.uptime)
    refine ⟨_, (State.watchTest_matched h noFault).trans (by rw [action]; rfl), same, links, restarting,
      fun hc => (armed hc).1, fun hc => by rw [held hc], ?_⟩
    split
    · next hc => exact (armed hc).2
    · next hc => rw [held hc]

theorem State.postCore_passes (hd : s.osc.device.posting = true) {w : State} (hw : s.watchTest x n p l = (w, false)) :
    s.postCore x n p l = (w.applyArb (w.arb.post x p w.osc.uptime), .ok) := by
  unfold State.postCore
  rw [if_pos hd, hw]
  rfl

theorem State.postCore_blocked (hd : s.osc.device.posting = true) {w : State} (hw : s.watchTest x n p l = (w, true)) :
    s.postCore x n p l = (w, .blocked) := by
  unfold State.postCore
  rw [if_pos hd, hw]
  rfl

/-- FIRE and DEFROST are never blocked, and nothing is while a FAULT capture is held. -/
theorem State.watchTest_unblocked (h : x = .fire ∨ x = .defrost ∨ ∃ k, s.sup.capture = some k ∧ k.isFault = true) :
    (s.watchTest x n p l).2 = false := by
  by_cases hm : s.arb.watch.hits x (s.arb.isFree x) p.level = true
  · by_cases hf : ∃ k, s.sup.capture = some k ∧ k.isFault = true
    · obtain ⟨k, hk, hf⟩ := hf
      rw [State.watchTest_dormant hm hk hf]
    · have noFault : ∀ k, s.sup.capture = some k → k.isFault = false := by
        intro k hk
        simpa using fun hf' => hf ⟨k, hk, hf'⟩
      rw [State.watchTest_matched hm noFault]
      rcases h with rfl | rfl | h
      · simp
      · simp
      · exact absurd h hf
  · rw [State.watchTest_missed (by simpa using hm)]

end Watch

end Posts

end Sys2Proof.Machine

namespace Sys2Proof.Machine

/-! ### POST_DEMAND -/

theorem clampN_eq {x lo hi : Nat} (h : lo ≤ hi) : clampN x lo hi = max lo (min x hi) := by
  unfold clampN
  split
  · omega
  · split <;> omega

/-- The post that a link's values make once clamped (R6). -/
def LinkPost.args (t : LinkPost) (o : Origin) : PostArgs :=
  { level := t.level, origin := o, carry := .flows t.supply t.extract, run := t.run }

section LinkPosts

variable {s : State} {l : Link} {o : Origin} {x : Slot} {p : LinkPost}

theorem State.linkPost_passes (hd : s.osc.device.posting = true) {w : State}
    (hw : s.watchTest x p.level ((s.clampPost o p).args o) (some l) = (w, false)) :
    s.linkPost l o x p
      = ((w.applyArb (w.arb.post x ((s.clampPost o p).args o) w.osc.uptime)).propagate, .ok) := by
  have core := State.postCore_passes hd hw
  unfold LinkPost.args at core
  unfold State.linkPost LinkPost.args
  dsimp only
  rw [core]

theorem State.linkPost_blocked (hd : s.osc.device.posting = true) {w : State}
    (hw : s.watchTest x p.level ((s.clampPost o p).args o) (some l) = (w, true)) :
    s.linkPost l o x p = (w, .blocked) := by
  have core := State.postCore_blocked hd hw
  unfold LinkPost.args at core
  unfold State.linkPost
  dsimp only
  rw [core]

/-- POST_DEMAND once its first three checks have passed. -/
theorem actPostDemand_posts {c v s1 s0 e1 e0 m r1 r0 : Byte} (hd : s.osc.device.posting = true)
    (hc : slotOfCode c.toNat = some x) (hw : o.mayWrite x = true)
    (hp : p = { level := v.toNat, supply := be16 s1 s0, extract := be16 e1 e0, run := runTimeField m r1 r0 })
    {w : State} {a : PostAnswer} (hl : s.linkPost l o x p = (w, a)) :
    actPostDemand l s o [c, v, s1, s0, e1, e0, m, r1, r0]
      = (w, ⟨postResult a (s.clampPost o p != p), w.postReply x (s.clampPost o p)⟩) := by
  subst hp
  have posting : ¬s.osc.device.posting = false := by simp [hd]
  have writes : ¬o.mayWrite x = false := by simp [hw]
  simp only [actPostDemand, if_neg posting, hc, if_neg writes, hl]

theorem postResult_ok (t p : LinkPost) : postResult .ok (t != p) = if t = p then .ok else .clamped := by
  by_cases h : t = p <;> simp [postResult, h]

/-- The clamps of R6, by the origin of a link. -/
theorem State.clampPost_eq (ho : o ≠ .internal) (hs : s.setting 2 ≤ s.setting 3) (v sup ext : Nat) (m r1 r0 : Byte) :
    s.clampPost o { level := v, supply := sup, extract := ext, run := runTimeField m r1 r0 } =
      { level := max 1 (min v (if o = .occupant then 8 else if o = .system then 10 else 12))
        supply := max (s.setting 2) (min sup (s.setting 3))
        extract := max (s.setting 2) (min ext (s.setting 3))
        run := if o = .service ∧ m ≠ 0 then none
          else some (if m ≠ 0 then (if o = .occupant then 3600 else 14400)
            else max 1 (min (be16 r1 r0) (if o = .occupant then 3600 else 14400))) } := by
  unfold State.clampPost runTimeField
  rw [clampN_eq hs, clampN_eq hs]
  congr 1
  · cases o
    case internal => exact absurd rfl ho
    all_goals exact clampN_eq (by decide)
  · by_cases hm : m = 0
    · cases o
      case internal => exact absurd rfl ho
      all_goals simp [hm, Origin.clampRun, clampN_eq]
    · have hm' : ¬m = 0#8 := hm
      cases o
      case internal => exact absurd rfl ho
      all_goals simp [hm', Origin.clampRun]

/-- The state of a link's request after its post has taken effect. -/
theorem State.hands.posted {k : RequestKind} {f : Frame} {fields : List Byte} (h : s.hands l k f o fields)
    {w u : State} (same : { w with sup := (s.handed l).sup, lnk := (s.handed l).lnk } = s.handed l)
    (links : ∀ m, w.lnk.link m = (s.handed l).lnk.link m) (restarting : w.lnk.restarting = (s.handed l).lnk.restarting)
    {y : Slot} {q : PostArgs} (posted : w.Posted y q u) :
    SettledFrom [y] { s with sup := w.sup } (u.holding l f) := by
  refine State.holding_nextFrame (s := { s with sup := w.sup }) h.1 ?_
  have base : SettledFrom [] { s.handed l with sup := w.sup } w := by
    have parts := congrArg (fun z : State => ({ z with sup := w.sup, lnk := w.lnk } : State)) same
    change w = { s.handed l with sup := w.sup, lnk := w.lnk } at parts
    rw [parts]
    exact { SettledFrom.refl [] { s.handed l with sup := w.sup, lnk := w.lnk } with
      links := ⟨links .main, links .service, restarting⟩ }
  exact (base.trans posted.settled).weaken (by simp)

end LinkPosts

end Sys2Proof.Machine

/-- Settles O12. -/
theorem postDemandTaken : Obligations.PostDemandTaken := by
  intro l s f o c v s1 s0 e1 e0 m r1 r0 x h hd hc hw level supply extract run hlevel hflows hsupply hextract hrun miss
  obtain ⟨h1, h2⟩ := Origin.mayWrite_spared hw
  generalize hp : ({ level := v.toNat, supply := be16 s1 s0, extract := be16 e1 e0, run := runTimeField m r1 r0 }
    : LinkPost) = p
  have clamped : (s.handed l).clampPost o p = { level := level, supply := supply, extract := extract, run := run } := by
    rw [hlevel, hsupply, hextract, hrun, ← hp]
    exact State.clampPost_eq (s := s.handed l) h.fromLink hflows _ _ _ _ _ _
  have passes : (s.handed l).watchTest x p.level (((s.handed l).clampPost o p).args o) (some l) = (s.handed l, false) :=
    State.watchTest_missed (s := s.handed l) (by rw [clamped]; exact miss)
  have taken := actPostDemand_posts (s := s.handed l) hd hc hw hp.symm
    (State.linkPost_passes (s := s.handed l) hd passes)
  have posted := (s.handed l).applyPost_posted x (((s.handed l).clampPost o p).args o)
  generalize ((s.handed l).applyArb _).propagate = u at *
  have quiet : u.lnk.restarting = none := posted.settled.restarting.trans (State.handed_restarting.trans h.notRestarting)
  have fields := posted.fields h1 h2
  rw [clamped] at taken fields posted
  refine ⟨_, (congrArg Host.Outcome.next (h.leads quiet taken)).trans ?_, State.holding_nextFrame h.1 posted.settled, fields,
    fun hs ha => (posted.atRest hs ha).1⟩
  rw [postResult_ok, ← hp]
  simp only [LinkPost.mk.injEq, runTimeField, State.postReply]
  rfl

end

section
/-! Posts that the watch matches, and the posts of MANUAL. -/

open Sys2Proof Sys2Proof.Machine

namespace Sys2Proof.Machine

section Matched

variable {s : State} {l : Link} {f : Frame}

/-- A match that blocks a request's post, seen from the state before the frame was handed on. -/
theorem State.captured_holding (h : s.nextFrame l = some f) (c : Capture) {u : State}
    (hu : u = ((s.handed l).offerCapture c).holding l f) : { u with sup := s.sup, lnk := s.lnk } = s
      ∧ (∀ n, u.lnk.link n = s.lnk.link n) ∧ u.lnk.restarting = s.lnk.restarting
      ∧ (s.sup.capture = none → u.sup.capture = some c ∧ u.sup.missed = 0)
      ∧ (s.sup.capture ≠ none → u.sup = { s.sup with missed := min (s.sup.missed + 1) 255 }) := by
  subst hu
  obtain ⟨same, links, restarting, armed, held⟩ := (s.handed l).offerCapture_taken c
  refine ⟨congrArg (fun z : State => ({ z with lnk := s.lnk } : State)) same, State.holding_link h links,
    (State.holding_restarting _ _ _).trans (restarting.trans State.handed_restarting), armed, fun hc => ?_⟩
  exact congrArg State.sup (held hc)

/-- What has settled whatever SUP was before. -/
theorem SettledFrom.ownSup {a : List Slot} {v : Sup} {t : State} (h : SettledFrom a { s with sup := v } t) :
    SettledFrom a { s with sup := t.sup } t :=
  { h with
    flags := fun _ _ _ => rfl
    flagsStay := fun _ => id
    capture := fun _ => rfl
    owner := rfl }

/-- What a matched post that takes effect leaves of the capture record. -/
theorem State.Posted.captures {w u : State} {x : Slot} {q : PostArgs} (posted : w.Posted x q u) {c : Capture}
    (same : { w with sup := s.sup, lnk := s.lnk } = s) (armed : s.sup.capture = none → w.sup.capture = some c)
    (held : s.sup.capture ≠ none → w.sup.capture = s.sup.capture) :
    (s.sup.capture = none → u.sup.capture = some c) ∧ (s.sup.capture ≠ none → u.sup.capture = s.sup.capture)
      ∧ (s.atRest → s.arb.active ≠ some .filterCheck → u.sup.missed = w.sup.missed) := by
  have frg : w.frg = s.frg := by rw [← same]
  have flt : w.flt = s.flt := by rw [← same]
  have arb : w.arb = s.arb := by rw [← same]
  refine ⟨fun hc => ?_, fun hc => ?_, fun hs ha => ?_⟩
  · rw [posted.settled.capture (by simp [armed hc]), armed hc]
  · rw [posted.settled.capture (by rwa [held hc]), held hc]
  · have rest : w.atRest := by
      unfold State.atRest
      rw [frg, flt]
      exact hs
    rw [(posted.atRest rest (by rwa [arb])).2]

end Matched

/-! ### Posts of the part itself -/

section Internal

variable {s : State} {x : Slot} {n : Nat} {c : Carry} {run : Option Nat}

/-- What a post of the part brings. -/
def internalArgs (n : Nat) (c : Carry) (run : Option Nat) : PostArgs := { level := n, origin := .internal, carry := c, run := run }

theorem State.internalPost_eq : s.internalPost x n c run = s.postCore x n (internalArgs n c run) none := rfl

theorem State.internalPost_passes (hd : s.osc.device.posting = true) {w : State}
    (hw : s.watchTest x n (internalArgs n c run) none = (w, false)) :
    s.internalPost x n c run = (w.applyArb (w.arb.post x (internalArgs n c run) w.osc.uptime), .ok) :=
  State.postCore_passes hd hw

theorem State.internalPost_missed (hd : s.osc.device.posting = true)
    (h : s.arb.watch.hits x (s.arb.isFree x) n = false) :
    s.internalPost x n c run = (s.applyArb (s.arb.post x (internalArgs n c run) s.osc.uptime), .ok) :=
  State.internalPost_passes hd (State.watchTest_missed (p := internalArgs n c run) h)

end Internal

end Sys2Proof.Machine

/-- Settles O13. -/
theorem watchBlocksAndCaptures : Obligations.WatchBlocksAndCaptures := by
  refine ⟨?_, ?_, fun s x n carry run hd => ⟨fun hx => ?_, fun hit => ⟨fun k hk hf => ?_, fun hk => ?_⟩⟩⟩
  · intro l s f o c v s1 s0 e1 e0 m r1 r0 x t h hd hc hw ht hit block noFault
    obtain ⟨h1, h2⟩ := Origin.mayWrite_spared hw
    have h3 : x ≠ .fire := by rcases Origin.mayWrite_external hw with rfl | rfl | rfl <;> decide
    generalize hp : ({ level := v.toNat, supply := be16 s1 s0, extract := be16 e1 e0, run := runTimeField m r1 r0 }
      : LinkPost) = p at ht
    have clamped : (s.handed l).clampPost o p = t := ht.symm
    have watched := State.watchTest_matched (s := s.handed l) (x := x) (n := p.level)
      (p := ((s.handed l).clampPost o p).args o) (l := some l) (by rw [clamped]; exact hit) noFault
    have blocks : ((s.handed l).arb.watch.action == .block && x != .defrost && x != .fire) = true := by
      have action : (s.handed l).arb.watch.action = .block := block
      simp [action, h2, h3]
    rw [blocks] at watched
    have taken := actPostDemand_posts (s := s.handed l) hd hc hw hp.symm (State.linkPost_blocked (s := s.handed l) hd watched)
    rw [clamped] at taken
    have captured := State.captured_holding h.1 ((t.args o).capture x p.level (some l) (s.handed l).osc.uptime) rfl
    have offered := (s.handed l).offerCapture_taken ((t.args o).capture x p.level (some l) (s.handed l).osc.uptime)
    generalize (s.handed l).offerCapture ((t.args o).capture x p.level (some l) (s.handed l).osc.uptime) = w at *
    obtain ⟨same, links, restarting, armed, held⟩ := captured
    obtain ⟨sameW, -, restartingW, -⟩ := offered
    have arb : w.arb = (s.handed l).arb := by rw [← sameW]
    have quiet : w.lnk.restarting = none := restartingW.trans (State.handed_restarting.trans h.notRestarting)
    refine ⟨w.holding l f, (congrArg Host.Outcome.next (h.leads quiet taken)).trans ?_, same, links, restarting,
      fun hn => ?_, held⟩
    · rw [State.postReply, arb]
      rfl
    · rw [← hp] at armed
      exact armed hn
  · intro l s f o c v s1 s0 e1 e0 m r1 r0 x p t h hd hc hw hp ht hit action
    obtain ⟨h1, h2⟩ := Origin.mayWrite_spared hw
    have clamped : (s.handed l).clampPost o p = t := ht.symm
    obtain ⟨w, watched, same, links, restarting, armed, held, missed⟩ := State.watchTest_passes (s := s.handed l) (x := x)
      (n := p.level) (p := ((s.handed l).clampPost o p).args o) (l := some l) (by rw [clamped]; exact hit) action
    have taken := actPostDemand_posts (s := s.handed l) hd hc hw hp (State.linkPost_passes (s := s.handed l) hd watched)
    have posted := w.applyPost_posted x (((s.handed l).clampPost o p).args o)
    generalize (w.applyArb _).propagate = u at *
    rw [clamped] at taken armed posted
    have quiet : u.lnk.restarting = none := posted.settled.restarting.trans
      (restarting.trans (State.handed_restarting.trans h.notRestarting))
    obtain ⟨d, hd, level, origin, carry, run, -⟩ := posted.fields h1 h2
    obtain ⟨captureA, captureH, missedR⟩ := posted.captures same armed held
    have settled := h.posted same links restarting posted
    refine ⟨u.holding l f, (congrArg Host.Outcome.next (h.leads quiet taken)).trans ?_, ?_,
      ⟨d, hd, level, origin, carry, run⟩, fun hn => ?_, captureH, fun hs ha => ?_⟩
    · rw [postResult_ok]
      rfl
    · exact settled.ownSup
    · rw [hp] at captureA
      exact captureA hn
    · exact (missedR hs ha).trans missed
  · exact congrArg Prod.snd (State.internalPost_passes hd (Prod.ext rfl (State.watchTest_unblocked hx)))
  · exact State.internalPost_passes hd (State.watchTest_dormant (p := internalArgs n carry run) hit hk hf)
  · obtain ⟨same, links, restarting, armed, held⟩ :=
      s.offerCapture_taken ((internalArgs n carry run).capture x n none s.osc.uptime)
    have watched := State.watchTest_matched (n := n) (l := none) (p := internalArgs n carry run) hit hk
    refine ⟨_, same, armed, held, fun action h1 h2 => ?_, fun action => ?_⟩
    · refine State.postCore_blocked hd (watched.trans ?_)
      simp [action, h1, h2]
    · have passes : (s.arb.watch.action == .block && x != .defrost && x != .fire) = false := by
        rcases action with action | rfl | rfl
        · simp [action]
        · simp
        · simp
      rw [passes] at watched
      have passed := State.internalPost_passes hd watched
      generalize s.offerCapture ((internalArgs n carry run).capture x n none s.osc.uptime) = w at *
      have arb : w.arb = s.arb := by rw [← same]
      have osc : w.osc = s.osc := by rw [← same]
      rw [passed, arb, osc]
      rfl

end

section
/-! MANUAL_OUTPUTS. -/

open Sys2Proof Sys2Proof.Machine

namespace Sys2Proof.Machine

/-- What MANUAL_OUTPUTS posts (R164). -/
def ManualOutputs.args (m : ManualOutputs) : PostArgs :=
  { level := 14, origin := .internal, carry := .duties m.supply m.extract, run := m.run }

section Manual

variable {s : State} {l : Link} {o : Origin} {t p : ManualOutputs} {a1 a0 b1 b0 m r1 r0 : Byte}

theorem State.postManual_passes (hd : s.osc.device.posting = true) {w : State}
    (hw : s.watchTest .manual 14 t.args (some l) = (w, false)) :
    s.postManual l t = ((w.applyArb (w.arb.post .manual t.args w.osc.uptime)).propagate, .ok) := by
  have core := State.postCore_passes hd hw
  unfold ManualOutputs.args at core ⊢
  unfold State.postManual
  dsimp only
  rw [core]

theorem State.postManual_blocked (hd : s.osc.device.posting = true) {w : State}
    (hw : s.watchTest .manual 14 t.args (some l) = (w, true)) : s.postManual l t = (w, .blocked) := by
  have core := State.postCore_blocked hd hw
  unfold ManualOutputs.args at core
  unfold State.postManual
  dsimp only
  rw [core]

/-- MANUAL_OUTPUTS at SYSTEM origin or above, in a posting state. -/
theorem actManualOutputs_system (hd : s.osc.device.posting = true) (ho : o ≠ .occupant) :
    actManualOutputs l s o [a1, a0, b1, b0, m, r1, r0] =
      if s.sup.owner ≠ some l then (s, .bare .notOwner)
      else if 0 < s.frg.applied ∨ 0 < s.frg.runOn then (s, .bare .busy)
      else
        let p : ManualOutputs := { supply := be16 a1 a0, extract := be16 b1 b0, run := runTimeField m r1 r0 }
        let r := s.postManual l p.clamp
        (r.1, ⟨postResult r.2 (p.clamp != p), u16 p.clamp.supply ++ u16 p.clamp.extract ++ opt 2 u16 p.clamp.run
          ++ u8 (r.1.arb.slotState .manual).code⟩) :=
  (if_neg (by simp [hd])).trans (requireOrigin_from (Origin.system_le ho))

/-- MANUAL_OUTPUTS for the owner, with the heater off and its run-on done. -/
theorem actManualOutputs_posts (hd : s.osc.device.posting = true) (ho : o ≠ .occupant) (hl : s.sup.owner = some l)
    (ha : s.frg.applied = 0) (hr : s.frg.runOn = 0)
    (hp : p = { supply := be16 a1 a0, extract := be16 b1 b0, run := runTimeField m r1 r0 }) {w : State} {a : PostAnswer}
    (hw : s.postManual l p.clamp = (w, a)) :
    actManualOutputs l s o [a1, a0, b1, b0, m, r1, r0] = (w, ⟨postResult a (p.clamp != p),
      u16 p.clamp.supply ++ u16 p.clamp.extract ++ opt 2 u16 p.clamp.run ++ u8 (w.arb.slotState .manual).code⟩) := by
  subst hp
  have owner : ¬s.sup.owner ≠ some l := not_not.mpr hl
  have cold : ¬(0 < s.frg.applied ∨ 0 < s.frg.runOn) := by omega
  rw [actManualOutputs_system hd ho, if_neg owner, if_neg cold]
  simp only [hw]

/-- The clamps of R164. -/
theorem ManualOutputs.clamp_eq (a b : Nat) (m r1 r0 : Byte) :
    ManualOutputs.clamp { supply := a, extract := b, run := runTimeField m r1 r0 } =
      { supply := min a 1000, extract := min b 1000
        run := some (if m = 0 then max 1 (min (be16 r1 r0) 1800) else 1800) } := by
  unfold ManualOutputs.clamp runTimeField
  congr 1
  by_cases hm : m = 0
  · rw [if_pos hm, if_pos hm, ← clampN_eq (by decide)]
  · rw [if_neg hm, if_neg hm]

theorem postResult_manual (t p : ManualOutputs) : postResult .ok (t != p) = if t = p then .ok else .clamped := by
  by_cases h : t = p <;> simp [postResult, h]

/-- Nothing is changed by the clamps of R164. -/
theorem ManualOutputs.taken_iff {a b sup ext run : Nat} {m r1 r0 : Byte} :
    (({ supply := sup, extract := ext, run := some run } : ManualOutputs)
        = { supply := a, extract := b, run := runTimeField m r1 r0 })
      ↔ sup = a ∧ ext = b ∧ m = 0 ∧ run = be16 r1 r0 := by
  simp only [ManualOutputs.mk.injEq, runTimeField]
  by_cases hm : m = 0
  · simp [hm]
  · rw [if_neg hm]
    simp [show ¬m = 0#8 from hm]

end Manual

end Sys2Proof.Machine

/-- Settles O20. -/
theorem manualOutputsPost : Obligations.ManualOutputsPost := by
  intro l s f o a1 a0 b1 b0 m r1 r0 h
  refine ⟨fun hd => ?_, fun hd => ⟨fun ho => ?_, fun ho hl => ?_, fun ho hl hot => ?_, fun ho hl ha hr miss supply extract
    run hsupply hextract hrun => ?_, fun ho hl ha hr hit supply extract run hsupply hextract hrun => ⟨fun block noFault => ?_,
    fun action => ?_⟩⟩⟩
  · exact congrArg Host.Outcome.next (h.answers (if_pos hd))
  · subst ho
    refine congrArg Host.Outcome.next (h.answers ?_)
    have posting : (s.handed l).osc.device.posting = true := hd
    exact (if_neg (by simp [posting])).trans (requireOrigin_below (by decide))
  · exact congrArg Host.Outcome.next (h.answers ((actManualOutputs_system (s := s.handed l) hd ho).trans (if_pos hl)))
  · exact congrArg Host.Outcome.next (h.answers ((actManualOutputs_system (s := s.handed l) hd ho).trans
      ((if_neg (not_not.mpr hl)).trans (if_pos hot))))
  all_goals
    generalize hp : ({ supply := be16 a1 a0, extract := be16 b1 b0, run := runTimeField m r1 r0 } : ManualOutputs) = p
    have clamped : p.clamp = { supply := supply, extract := extract, run := some run } := by
      rw [hsupply, hextract, hrun, ← hp]
      exact ManualOutputs.clamp_eq _ _ _ _ _
    have result : postResult .ok (({ supply := supply, extract := extract, run := some run } : ManualOutputs) != p)
        = if supply = be16 a1 a0 ∧ extract = be16 b1 b0 ∧ m = 0 ∧ run = be16 r1 r0 then .ok else .clamped := by
      rw [postResult_manual, ← hp]
      exact if_congr ManualOutputs.taken_iff rfl rfl
  · have passes : (s.handed l).watchTest .manual 14 p.clamp.args (some l) = (s.handed l, false) :=
      State.watchTest_missed (s := s.handed l) miss
    have taken := actManualOutputs_posts (s := s.handed l) (o := o) hd ho hl ha hr hp.symm
      (State.postManual_passes (s := s.handed l) hd passes)
    have posted := (s.handed l).applyPost_posted .manual p.clamp.args
    generalize ((s.handed l).applyArb _).propagate = u at *
    have quiet : u.lnk.restarting = none :=
      posted.settled.restarting.trans (State.handed_restarting.trans h.notRestarting)
    obtain ⟨d, hd, level, origin, carry, run, -⟩ := posted.fields (by decide) (by decide)
    rw [clamped, result] at taken
    rw [clamped] at carry run
    exact ⟨_, congrArg Host.Outcome.next (h.leads quiet taken), State.holding_nextFrame h.1 posted.settled,
      d, hd, level, origin, carry, run⟩
  · have watched := State.watchTest_matched (s := s.handed l) (x := .manual) (n := 14) (p := p.clamp.args) (l := some l)
      hit noFault
    have blocks : ((s.handed l).arb.watch.action == .block && Slot.manual != .defrost && Slot.manual != .fire) = true := by
      have action : (s.handed l).arb.watch.action = .block := block
      simp [action]
    rw [blocks] at watched
    have taken := actManualOutputs_posts (s := s.handed l) (o := o) hd ho hl ha hr hp.symm
      (State.postManual_blocked (s := s.handed l) hd watched)
    have captured := State.captured_holding h.1
      (p.clamp.args.capture .manual 14 (some l) (s.handed l).osc.uptime) rfl
    have offered := (s.handed l).offerCapture_taken (p.clamp.args.capture .manual 14 (some l) (s.handed l).osc.uptime)
    generalize (s.handed l).offerCapture (p.clamp.args.capture .manual 14 (some l) (s.handed l).osc.uptime) = w at *
    obtain ⟨kept, links, restarting, armed, held⟩ := captured
    obtain ⟨keptW, -, restartingW, -⟩ := offered
    have arb : w.arb = (s.handed l).arb := by rw [← keptW]
    have quiet : w.lnk.restarting = none := restartingW.trans (State.handed_restarting.trans h.notRestarting)
    rw [clamped, arb] at taken
    rw [clamped] at armed
    exact ⟨w.holding l f, congrArg Host.Outcome.next (h.leads quiet taken), kept, links, restarting, armed, held⟩
  · obtain ⟨w, watched, kept, links, restarting, armed, held, missed⟩ := State.watchTest_passes (s := s.handed l)
      (x := .manual) (n := 14) (p := p.clamp.args) (l := some l) hit action
    have taken := actManualOutputs_posts (s := s.handed l) (o := o) hd ho hl ha hr hp.symm
      (State.postManual_passes (s := s.handed l) hd watched)
    have posted := w.applyPost_posted .manual p.clamp.args
    generalize (w.applyArb _).propagate = u at *
    have quiet : u.lnk.restarting = none := posted.settled.restarting.trans
      (restarting.trans (State.handed_restarting.trans h.notRestarting))
    obtain ⟨d, hd, level, origin, carry, run, -⟩ := posted.fields (by decide) (by decide)
    obtain ⟨captureA, captureH, missedR⟩ := posted.captures kept armed held
    rw [clamped, result] at taken
    rw [clamped] at carry run captureA
    exact ⟨u.holding l f, congrArg Host.Outcome.next (h.leads quiet taken), (h.posted kept links restarting posted).ownSup,
      ⟨d, hd, level, origin, carry, run⟩, captureA, captureH, fun hs ha => (missedR hs ha).trans missed⟩

end

section
/-! Rules that later statements share: a fault's occurrence, a settled change on a base whose record is replaced, and what the
propagation makes of a path. Then the expiry of a demand, the relays and the ends of a path's times. -/

open Sys2Proof Sys2Proof.Machine

namespace Sys2Proof.Machine

section Bases

variable {a : List Slot} {s t : State}

/-! ### A base with a block replaced -/

theorem SettledFrom.onAfc (h : SettledFrom a s t) (b : Afc) : SettledFrom a { s with afc := b } { t with afc := b } :=
  { h with paths := fun _ => ⟨rfl, rfl, rfl, rfl, rfl, rfl, rfl, rfl⟩ }

theorem SettledFrom.onHum (h : SettledFrom a s t) (b : Hum) : SettledFrom a { s with hum := b } { t with hum := b } :=
  { h with hum := rfl }

theorem SettledFrom.onFrg (h : SettledFrom a s t) (b : Frg) : SettledFrom a { s with frg := b } { t with frg := b } :=
  { h with frost := rfl }

theorem SettledFrom.onFlt (h : SettledFrom a s t) (b : Flt) : SettledFrom a { s with flt := b } { t with flt := b } :=
  { h with filters := fun i => by cases i <;> rfl, filterRest := ⟨rfl, rfl, rfl, rfl, rfl, rfl, rfl, rfl⟩ }

theorem SettledFrom.onDio (h : SettledFrom a s t) (b : Dio) : SettledFrom a { s with dio := b } { t with dio := b } :=
  { h with dio := rfl }

/-! ### A fault -/

theorem State.faultEvent_apart (s : State) (g : Flag) (x : Nat) (v : Int) :
    { s.faultEvent g x v with sup := s.sup, lnk := s.lnk } = s := by
  have apart := ((s.setFlag g).offerCapture_taken (.fault g x (clampI v (-32768) 32767) s.osc.uptime)).1
  exact congrArg (fun u : State => { u with sup := s.sup, lnk := s.lnk }) apart

/-- A fault reaches the flags and the capture record, and the notices. -/
theorem SettledFrom.fault (s : State) (g : Flag) (x : Nat) (v : Int) :
    SettledFrom [] { s with sup := (s.faultEvent g x v).sup } (s.faultEvent g x v) := by
  have apart := s.faultEvent_apart g x v
  have main := State.faultEvent_lnk_main s g x v
  have service := State.faultEvent_lnk_service s g x v
  have restarting := State.faultEvent_lnk_restarting s g x v
  generalize s.faultEvent g x v = t at *
  have same : { t with lnk := s.lnk } = { s with sup := t.sup } := by
    rw [← apart]
  rw [← same]
  exact { SettledFrom.refl [] t with links := ⟨main, service, restarting⟩ }

theorem clampI_natCast (n : Nat) : clampI (n : Int) (-32768) 32767 = ((min n 32767 : Nat) : Int) := by
  unfold clampI
  split
  · omega
  · split <;> omega

theorem State.offerCapture_armed {s : State} (h : s.sup.capture = none) (c : Capture) : s.offerCapture c
    = (s.updSup fun u => { u with capture := some c, missed := 0 }).raise .captureTaken 0 c.noticeValue := by
  simp only [State.offerCapture, Sup.offer, h]
  rfl

/-- The flags after a capture's offer: CAPTURE_TAKEN can bring NOTICES_LOST. -/
theorem State.offerCapture_flags (s : State) (c : Capture) {h : Flag} (hh : h ≠ .noticesLost) :
    (s.offerCapture c).sup.flags.get h = s.sup.flags.get h := by
  by_cases armed : s.sup.capture = none
  · rw [State.offerCapture_armed armed]
    exact (State.Records.raise (a := []) _ _ _ _).kept h (by simp) hh
  · rw [(s.offerCapture_taken c).2.2.2.2 armed]

/-- The flag of a fault is set and its capture offered. -/
theorem State.faultEvent_taken (s : State) (g : Flag) (x : Nat) (v : Int) :
    FaultTaken s.sup (s.faultEvent g x v).sup g x (clampI v (-32768) 32767) s.osc.uptime where
  flags h hh := by
    refine (State.offerCapture_flags (s.setFlag g) _ hh).trans ?_
    rw [State.setFlag, State.updSup_sup]
    dsimp only
    rw [FlagSet.get_put]
    by_cases e : h = g <;> simp [e]
  armed := ((s.setFlag g).offerCapture_taken (.fault g x (clampI v (-32768) 32767) s.osc.uptime)).2.2.2.1
  held hc := by
    have held := ((s.setFlag g).offerCapture_taken (.fault g x (clampI v (-32768) 32767) s.osc.uptime)).2.2.2.2 hc
    exact ⟨by rw [State.faultEvent, State.offerFault, State.setFlag, State.updSup_osc, ← State.setFlag, held]; rfl, by rw [State.faultEvent, State.offerFault, State.setFlag, State.updSup_osc, ← State.setFlag, held]; rfl⟩
  owner := State.faultEvent_sup_owner s g x v

end Bases

/-! ### The expiry of a demand -/

/-- DIO at the expiry of a demand: the mark of its own slot falls (R149). -/
def Dio.expired (d : Dio) : Slot → Dio
  | .inputBoost => { d with boostMark := false }
  | .inputHood => { d with hoodMark := false }
  | .fire => { d with fireMark := false }
  | _ => d

theorem State.takeReport_expiry (s : State) (x : Slot) :
    s.takeReport ⟨.freedByExpiry, x⟩ = s.updDio fun d => d.expired x := by
  cases x <;> rfl

theorem Dio.expired_external (d : Dio) {x : Slot} (hx : x.internal = false) : d.expired x = d := by
  cases x with
  | schedule | panel | service => rfl
  | _ => cases hx

theorem State.raise_updDio (s : State) (k : NoticeKind) (x : Nat) (v : Int) (f : Dio → Dio) :
    (s.raise k x v).updDio f = (s.updDio f).raise k x v := by
  rw [State.raise_eq s k x v rfl rfl rfl, State.raise_eq (s.updDio f) k x v rfl rfl rfl]
  rfl

/-- An expiry is the end of the demand, with DIO's mark fallen before. -/
theorem State.applyArb_expire (s : State) (x : Slot) :
    s.applyArb (s.arb.expire x) = (s.updDio fun d => d.expired x).applyArb (s.arb.free x) := by
  have posted (t u : State) (h : t.updDio (fun d => d.expired x) = u) (l : List Report) :
      ((⟨.freedByExpiry, x⟩ :: l).filter (·.slot.internal)).foldl State.takeReport t
        = (l.filter (·.slot.internal)).foldl State.takeReport u := by
    cases hx : x.internal with
    | true => rw [List.filter_cons_of_pos (by exact hx), List.foldl_cons, State.takeReport_expiry, h]
    | false =>
      have same : t = u := by rw [← h, State.updDio, Dio.expired_external _ hx]
      rw [List.filter_cons_of_neg (by simp [hx]), same]
  refine posted _ _ ?_ _
  split
  · next h => exact (if_pos h).symm
  · next h =>
    refine (State.raise_updDio _ _ _ _ _).trans ?_
    exact (if_neg h).symm

end Sys2Proof.Machine

/-- Settles O33. -/
theorem demandExpires : Obligations.DemandExpires := by
  intro s x d ha hx he h1 h2
  have due : s.arb.expiryDue = some x := by simp [Arb.expiryDue, he, ha]
  have row : exec .demandExpiry s = .next ((s.updDio fun d => d.expired x).applyArb (s.arb.free x)).propagate := by
    rw [← State.applyArb_expire]
    change execDemandExpiry s = _
    unfold execDemandExpiry
    rw [due]
  have freed : SettledFrom [x] (s.updDio fun d => d.expired x)
      ((s.updDio fun d => d.expired x).applyArb (s.arb.free x)).propagate := State.cancel_settled _ x
  have table := State.cancel_free (s.updDio fun d => d.expired x) ⟨h1, h2⟩
  rw [State.cancel_eq, State.withdraw, State.updDio_arb] at table
  have atRest (hs : s.atRest) : ((s.updDio fun d => d.expired x).applyArb (s.arb.free x)).propagate.arb = (s.arb.free x).1 :=
    State.applyArb_propagate_arb (s := s.updDio fun d => d.expired x) hs (s.arb.free_interrupts x)
  generalize ((s.updDio fun d => d.expired x).applyArb (s.arb.free x)).propagate = t at *
  refine ⟨t, row, table, ?_, ?_, atRest⟩
  · refine freed.dio.trans ?_
    cases x <;> rfl
  · rw [freed.dio]
    exact freed

end

section
/-! The relays, and the ends of a path's times. -/

open Sys2Proof Sys2Proof.Machine

namespace Sys2Proof.Machine

/-! ### Relays -/

theorem mem_allFlags (g : Flag) : g ∈ allFlags := by cases g <;> decide

theorem FanPath.running_iff (p : FanPath) : p.running = true ↔ p.state = .spinup ∨ p.state = .regulating
    ∨ p.state = .saturated ∨ p.state = .hold ∨ p.state = .manual ∧ 0 < p.duty := by
  unfold FanPath.running
  cases p.state <;> simp

theorem Arb.activeLevel_ge {a : Arb} {n : Nat} (hn : 0 < n) :
    n ≤ a.activeLevel ↔ ∃ x d, a.active = some x ∧ a.table.get x = some d ∧ n ≤ d.level := by
  unfold Arb.activeLevel Arb.level
  cases a.active with
  | none => simp; omega
  | some x => cases h : a.table.get x with
    | none => simp [h]; omega
    | some d => simp [h]

theorem FilterState.isDue_iff (f : FilterState) : f.isDue = true ↔ f = .due ∨ f = .overdue := by
  cases f <;> decide

theorem inMask_iff (mask : Int) (c : Nat) : inMask mask c = true ↔ mask.toNat / 2 ^ (c - 1) % 2 = 1 := by
  rw [inMask, Nat.testBit_eq_decide_div_mod_eq, decide_eq_true_iff]

theorem State.anyFlagOf_iff (s : State) (mask : Int) : s.anyFlagOf mask = true
    ↔ ∃ g : Flag, mask.toNat / 2 ^ (g.code - 1) % 2 = 1 ∧ s.sup.flags.get g = true := by
  simp only [State.anyFlagOf, List.any_eq_true, Bool.and_eq_true, inMask_iff, mem_allFlags, true_and]

theorem exists_path {P : PathId → Prop} : (∃ i, P i) ↔ P .supply ∨ P .extract :=
  ⟨fun ⟨i, h⟩ => by cases i with | supply => exact .inl h | extract => exact .inr h,
    fun h => h.elim (⟨_, ·⟩) (⟨_, ·⟩)⟩

end Sys2Proof.Machine

/-- Settles O52. -/
theorem relaysFollowFunction : Obligations.RelaysFollowFunction := by
  intro s n
  refine ⟨fun h => by simp [State.relay, h], fun h => ?_⟩
  have follows (k : Nat) (hk : s.setting (78 + n) = k) :
      s.relay n = s.relayCondition k (settingVal s.osc.working (80 + n)) := by
    rw [State.relay, h, hk, Bool.true_and]
  refine ⟨fun hk => follows 0 hk, fun hk => ?_, fun hk => ?_, fun hk => ?_, fun hk => ?_, fun hk => ?_⟩
  · rw [follows 1 hk, exists_path, State.relayCondition, Bool.or_eq_true, FanPath.running_iff, FanPath.running_iff]
    exact Iff.rfl
  · rw [follows 2 hk, State.relayCondition, decide_eq_true_iff, Arb.activeLevel_ge (by decide)]
  · rw [follows 3 hk, State.relayCondition, Bool.or_eq_true, beq_iff_eq, beq_iff_eq]
  · rw [follows 4 hk, State.relayCondition, Bool.or_eq_true, exists_path, FilterState.isDue_iff, FilterState.isDue_iff]
    exact Iff.rfl
  · rw [follows 5 hk, State.relayCondition, State.anyFlagOf_iff]

end

section
/-! What a path serves: the resolution of its target, and its state and duty under it or under MANUAL. -/

open Sys2Proof Sys2Proof.Machine

namespace Sys2Proof.Machine

/-! ### A path under a target or under MANUAL -/

section Paths

variable {p : FanPath} {v : Serve}

/-- A lapsed condition starts over and nothing else of the path changes (R38, R42). -/
theorem FanPath.lapse_eq (p : FanPath) (n : Nat) : ∃ t u b,
    p.lapse n = { p with stallTime := t, shortfallTime := u, shortfallStanding := b } := by
  unfold FanPath.lapse
  dsimp only
  split <;> split <;> exact ⟨_, _, _, rfl⟩

@[simp] theorem FanPath.lapse_state (p : FanPath) (n : Nat) : (p.lapse n).state = p.state := by
  obtain ⟨_, _, _, e⟩ := p.lapse_eq n
  rw [e]
@[simp] theorem FanPath.lapse_duty (p : FanPath) (n : Nat) : (p.lapse n).duty = p.duty := by
  obtain ⟨_, _, _, e⟩ := p.lapse_eq n
  rw [e]
@[simp] theorem FanPath.lapse_target (p : FanPath) (n : Nat) : (p.lapse n).target = p.target := by
  obtain ⟨_, _, _, e⟩ := p.lapse_eq n
  rw [e]
@[simp] theorem FanPath.lapse_spinupTime (p : FanPath) (n : Nat) : (p.lapse n).spinupTime = p.spinupTime := by
  obtain ⟨_, _, _, e⟩ := p.lapse_eq n
  rw [e]
@[simp] theorem FanPath.lapse_retryTime (p : FanPath) (n : Nat) : (p.lapse n).retryTime = p.retryTime := by
  obtain ⟨_, _, _, e⟩ := p.lapse_eq n
  rw [e]
@[simp] theorem FanPath.lapse_goodTime (p : FanPath) (n : Nat) : (p.lapse n).goodTime = p.goodTime := by
  obtain ⟨_, _, _, e⟩ := p.lapse_eq n
  rw [e]
@[simp] theorem FanPath.lapse_goodTiming (p : FanPath) (n : Nat) : (p.lapse n).goodTiming = p.goodTiming := by
  obtain ⟨_, _, _, e⟩ := p.lapse_eq n
  rw [e]
@[simp] theorem FanPath.lapse_faulted (p : FanPath) (n : Nat) : (p.lapse n).faulted = p.faulted := by
  obtain ⟨_, _, _, e⟩ := p.lapse_eq n
  rw [e]

theorem FanPath.lapse_off {n : Nat} (h : p.state = .off) : (p.lapse n).stallTime = 0 ∧ (p.lapse n).shortfallTime = 0
    ∧ (p.lapse n).shortfallStanding = false := by
  simp [FanPath.lapse, FanPath.stallCond, FanPath.shortCond, PathState.stallChecked, h]

theorem FanPath.serve_manual {d : Nat} (h : v.manual = some d) :
    p.serve v = ({ p with target := v.target }.serveManual v d).lapse v.stallSpeed := by
  rw [FanPath.serve, h]

theorem FanPath.serve_target (h : v.manual = none) : p.serve v
    = ({ p with target := v.target }.serveTarget v p.target (v.target.getD 0)).lapse v.stallSpeed := by
  rw [FanPath.serve, h]

@[simp] theorem FanPath.serve_targets (p : FanPath) (v : Serve) : (p.serve v).target = v.target := by
  cases h : v.manual with
  | none =>
    rw [FanPath.serve_target h, FanPath.lapse_target]
    unfold FanPath.serveTarget
    repeat' split
    all_goals rfl
  | some d =>
    rw [FanPath.serve_manual h, FanPath.lapse_target]
    unfold FanPath.serveManual
    repeat' split
    all_goals rfl

/-- A FAILED path serves nothing (R39). -/
theorem FanPath.serve_failed (h : p.state = .failed) : (p.serve v).state = .failed ∧ (p.serve v).duty = p.duty := by
  cases hm : v.manual with
  | none => simp [FanPath.serve_target hm, FanPath.serveTarget, h]
  | some d => simp [FanPath.serve_manual hm, FanPath.serveManual, h]

/-- A target of 0 stops a path (R31). -/
theorem FanPath.serve_stops (hm : v.manual = none) (ht : v.target = some 0) (h : p.state ≠ .failed) :
    (p.serve v).state = .off ∧ (p.state ≠ .off → (p.serve v).duty = 0 ∧ (p.serve v).spinupTime = 0
      ∧ (p.serve v).retryTime = 0 ∧ (p.serve v).goodTime = 0 ∧ (p.serve v).goodTiming = false
      ∧ (p.serve v).stallTime = 0 ∧ (p.serve v).shortfallTime = 0 ∧ (p.serve v).shortfallStanding = false) := by
  rw [FanPath.serve_target hm, ht]
  by_cases off : p.state = .off
  · simp [FanPath.serveTarget, off]
  · have stopped : { p with target := some 0 }.serveTarget v p.target 0 = { p with target := some 0 }.toOff := by
      unfold FanPath.serveTarget
      cases e : p.state <;> simp_all
    obtain ⟨h1, h2, h3⟩ := FanPath.lapse_off (p := { p with target := some 0 }.toOff) (n := v.stallSpeed) rfl
    rw [Option.getD_some, stopped]
    exact ⟨FanPath.lapse_state _ _, fun _ => ⟨FanPath.lapse_duty _ _, FanPath.lapse_spinupTime _ _,
      FanPath.lapse_retryTime _ _, FanPath.lapse_goodTime _ _, FanPath.lapse_goodTiming _ _, h1, h2, h3⟩⟩

section Driven

variable {goal : Nat} (hm : v.manual = none) (ht : v.target = some goal) (hg : 0 < goal)
include hm ht hg

/-- A target above 0 starts a path that is OFF (R32). -/
theorem FanPath.serve_starts (h : p.state = .off) :
    (p.serve v).state = .spinup ∧ (p.serve v).duty = v.startDuty ∧ (p.serve v).spinupTime = 0 := by
  simp [FanPath.serve_target hm, ht, FanPath.serveTarget, h, hg, FanPath.toSpinup]

/-- A path that spins up, stands after a stall or regulates goes on under a target above 0 (R32, R34). -/
theorem FanPath.serve_goesOn (h : p.state = .spinup ∨ p.state = .stalled ∨ p.state = .regulating ∨ p.state = .saturated) :
    p.serve v = { p with target := some goal }.lapse v.stallSpeed := by
  rw [FanPath.serve_target hm, ht, Option.getD_some]
  rcases h with h | h | h | h <;> simp [FanPath.serveTarget, h, hg.ne']

/-- A path in HOLD scales its duty with its target (R35). -/
theorem FanPath.serve_holds (h : p.state = .hold) : (p.serve v).state = .hold
    ∧ (∀ old, p.target = some old → 0 < old → old ≠ goal → v.minDuty ≤ 1000 →
      (p.serve v).duty = max v.minDuty (min (p.duty * goal / old) 1000))
    ∧ ((p.target = some goal ∨ p.target = some 0 ∨ p.target = none) → (p.serve v).duty = p.duty) := by
  rw [FanPath.serve_target hm, ht, Option.getD_some]
  simp only [FanPath.serveTarget, h, hg.ne', if_false, FanPath.lapse_state, FanPath.lapse_duty]
  refine ⟨?_, fun old ho h1 h2 h3 => ?_, fun ho => ?_⟩
  · repeat' split
    all_goals rfl
  · simp only [ho, h1, h2, ne_eq, not_false_iff, and_self, if_true]
    exact clampN_eq h3
  · rcases ho with ho | ho | ho <;> simp [ho]

/-- A path leaves MANUAL for its target (R36). -/
theorem FanPath.serve_leavesManual (h : p.state = .manual) :
    (v.stallSpeed ≤ p.speed → v.minDuty ≤ 1000 → (p.serve v).duty = max v.minDuty (min p.duty 1000)
      ∧ (p.serve v).state = if p.faulted then .hold else .regulating)
    ∧ (p.speed < v.stallSpeed →
      (p.serve v).state = .spinup ∧ (p.serve v).duty = v.startDuty ∧ (p.serve v).spinupTime = 0) := by
  rw [FanPath.serve_target hm, ht, Option.getD_some]
  simp only [FanPath.serveTarget, h, hg.ne', if_false, FanPath.lapse_state, FanPath.lapse_duty, FanPath.lapse_spinupTime]
  refine ⟨fun hs hd => ?_, fun hs => ?_⟩
  · rw [if_pos hs]
    exact ⟨clampN_eq hd, rfl⟩
  · rw [if_neg (Nat.not_le.mpr hs)]
    exact ⟨rfl, rfl, rfl⟩

end Driven

section Manual

variable {duty : Nat} (hm : v.manual = some duty)
include hm

/-- A path in motion, or one that is OFF as MANUAL becomes the active slot, takes the manual duty (R36). -/
theorem FanPath.serve_takesDuty (h : p.state = .regulating ∨ p.state = .saturated ∨ p.state = .hold ∨ p.state = .manual
    ∨ p.state = .off ∧ v.becameManual = true) : (p.serve v).state = .manual ∧ (p.serve v).duty = duty := by
  rcases h with h | h | h | h | ⟨h, hb⟩
  · simp [FanPath.serve_manual hm, FanPath.serveManual, h]
  · simp [FanPath.serve_manual hm, FanPath.serveManual, h]
  · simp [FanPath.serve_manual hm, FanPath.serveManual, h]
  · simp [FanPath.serve_manual hm, FanPath.serveManual, h]
  · simp [FanPath.serve_manual hm, FanPath.serveManual, h, hb]

theorem FanPath.serve_offManual (h : p.state = .off) (hb : v.becameManual = false) :
    (0 < duty → (p.serve v).state = .spinup ∧ (p.serve v).duty = v.startDuty ∧ (p.serve v).spinupTime = 0)
    ∧ (duty = 0 → (p.serve v).state = .off) := by
  refine ⟨fun hd => ?_, fun hd => ?_⟩
  · simp [FanPath.serve_manual hm, FanPath.serveManual, h, hb, hd, FanPath.toSpinup]
  · simp [FanPath.serve_manual hm, FanPath.serveManual, h, hb, hd]

/-- A path that spins up or stands after a stall goes on under a manual duty above 0 (log 27). -/
theorem FanPath.serve_waitsManual (h : p.state = .spinup ∨ p.state = .stalled) :
    (0 < duty → p.serve v = { p with target := v.target }.lapse v.stallSpeed)
    ∧ (duty = 0 → (p.serve v).state = .off ∧ (p.serve v).duty = 0) := by
  refine ⟨fun hd => ?_, fun hd => ?_⟩
  · rcases h with h | h <;> simp [FanPath.serve_manual hm, FanPath.serveManual, h, hd.ne']
  · rcases h with h | h <;> simp [FanPath.serve_manual hm, FanPath.serveManual, h, hd, FanPath.toOff]

end Manual

end Paths

/-! ### Target resolution -/

section Resolution

variable {s : State}

theorem DevState.fansStopped_iff (d : DevState) : d.fansStopped = true ↔ d = .starting ∨ d = .waking ∨ d = .standby
    ∨ d = .doorOpen ∨ d = .filterService := by
  cases d <;> simp [DevState.fansStopped]

theorem State.resolve_stopped (h : s.osc.device.fansStopped = true) :
    s.resolve = (some 0, some 0) ∧ s.manualDuties = none := by
  simp [State.resolve, State.manualDuties, h]

theorem State.resolve_idle (h : s.osc.device.fansStopped = false) (ha : s.arb.active = none) :
    s.resolve = (some 0, some 0) ∧ s.manualDuties = none := by
  simp [State.resolve, State.manualDuties, h, ha]

theorem State.resolve_manual {d : Demand} {a b : Nat} (h : s.osc.device.fansStopped = false)
    (ha : s.arb.active = some .manual) (hd : s.arb.table.manual = some d) (hc : d.carry = .duties a b) :
    s.resolve = (none, none) ∧ s.manualDuties = some (a, b) := by
  simp [State.resolve, State.manualDuties, h, ha, hd, hc]

theorem Demand.flows_of {d : Demand} {a b base : Nat}
    (h : d.carry = .flows a b ∨ d.carry = .baseFlow ∧ a = base ∧ b = base) : d.flows base = some (a, b) := by
  rcases h with h | ⟨h, rfl, rfl⟩ <;> simp [Demand.flows, h]

/-- The cap by which a demand's supply target is held (R63). -/
theorem State.capC_eq {x : Slot} {d : Demand} {f : Nat × Nat} (ha : s.arb.active = some x)
    (hd : s.arb.table.get x = some d) (hf : d.flows (s.setting 1) = some f) : s.capC
      = if 0 < s.frg.imbalance then some (max (s.setting 2) (f.2 * (100 - s.frg.imbalance) / 100)) else none := by
  simp [State.capC, State.capInForce, State.activeExtract, Arb.activeDemand, ha, hd, hf]

theorem State.resolve_demand {x : Slot} {d : Demand} {f : Nat × Nat} (h : s.osc.device.fansStopped = false)
    (ha : s.arb.active = some x) (hx : x ≠ .manual) (hd : s.arb.table.get x = some d)
    (hf : d.flows (s.setting 1) = some f) :
    s.resolve = if x = .fire then (some f.1, some f.2)
      else (some (s.resolveDemand f.1 f.2).1, some (s.resolveDemand f.1 f.2).2) := by
  unfold State.resolve
  have demand : s.arb.activeDemand = some d := by simp [Arb.activeDemand, ha, hd]
  rw [if_neg (by simp [h]), ha, demand]
  cases x with
  | manual => exact absurd rfl hx
  | _ => simp only [hf]

theorem State.manualDuties_none {x : Slot} (ha : s.arb.active = some x) (hx : x ≠ .manual) : s.manualDuties = none := by
  unfold State.manualDuties
  rw [ha]
  split
  · rfl
  · split
    · next h _ => exact absurd (Option.some.inj h) hx
    · rfl

theorem State.extractLoss_iff (s : State) :
    s.extractLoss = true ↔ s.afc.extract.state = .stalled ∨ s.afc.extract.state = .failed := by
  simp [State.extractLoss]

end Resolution

/-! ### The targets reach the paths -/

theorem State.movePath_afc (s : State) (i : PathId) (p : FanPath) : (s.movePath i p).afc = s.afc.setPath i p := by
  unfold State.movePath
  dsimp only
  split
  · rfl
  · exact State.raise_afc _ _ _ _

theorem State.serveFans_extract (s : State) : s.serveFans.afc.extract = s.afc.extract.serve (s.serveArgs .extract) := by
  change ((s.servePath .extract).servePath .supply).afc.extract = _
  simp only [State.servePath, State.movePath_afc]
  rfl

theorem State.serveFans_supply (s : State) :
    s.serveFans.afc.supply = s.afc.supply.serve ((s.servePath .extract).serveArgs .supply) := by
  change ((s.servePath .extract).servePath .supply).afc.supply = _
  rw [State.servePath, State.movePath_afc]
  simp only [State.servePath, State.movePath_afc]
  rfl

end Sys2Proof.Machine

/-- Settles O50. -/
theorem targetsMovePaths : Obligations.TargetsMovePaths := by
  refine ⟨fun s stopped hs => ?_, fun p v q hq => ?_⟩
  · have device : s.osc.device.fansStopped = stopped := by
      rw [Bool.eq_iff_iff, DevState.fansStopped_iff, hs]
    refine ⟨fun h => State.resolve_stopped (device.trans h), fun h ha => State.resolve_idle (device.trans h) ha,
      fun d a b h ha hd hc => State.resolve_manual (device.trans h) ha hd hc, fun x d a b h ha hx hd hc => ?_,
      s.serveFans_extract, s.serveFans_supply, rfl⟩
    have flows := Demand.flows_of hc
    have resolved := State.resolve_demand (device.trans h) ha hx hd flows
    refine ⟨State.manualDuties_none ha hx, fun hf => resolved.trans (if_pos hf), ?_⟩
    rintro hood capped raised hf rfl rfl rfl
    rw [resolved, if_neg hf, State.resolveDemand, State.capC_eq ha hd flows]
    simp only [State.extractLoss_iff]
    by_cases cap : 0 < s.frg.imbalance <;> simp [cap]
  · subst hq
    obtain ⟨h1, h2, h3, h4, h5, -, -, h8⟩ := FanPath.SameSensor.serve p v
    refine ⟨FanPath.serve_targets p v, h1, h2, h3, h4, h5, h8, FanPath.serve_failed, FanPath.serve_stops,
      fun goal hm ht hg => ⟨FanPath.serve_starts hm ht hg, fun h => ?_, FanPath.serve_holds hm ht hg,
        FanPath.serve_leavesManual hm ht hg⟩,
      fun duty hm => ⟨FanPath.serve_takesDuty hm, FanPath.serve_offManual hm, fun h => ?_⟩⟩
    · rw [FanPath.serve_goesOn hm ht hg h]
      exact ⟨FanPath.lapse_state _ _, FanPath.lapse_duty _ _, FanPath.lapse_spinupTime _ _, FanPath.lapse_retryTime _ _⟩
    · obtain ⟨goes, stops⟩ := FanPath.serve_waitsManual hm h
      refine ⟨fun hd => ?_, stops⟩
      rw [goes hd]
      exact ⟨FanPath.lapse_state _ _, FanPath.lapse_duty _ _⟩

end

section
/-! What a propagated change makes of a path, and the ends of a path's times. -/

open Sys2Proof Sys2Proof.Machine

namespace Sys2Proof.Machine

section Propagation

variable {s t : State} {i : PathId}

/-! ### AFC in a round -/

theorem State.forceRequest_afc (s : State) : s.forceRequest.afc = s.afc := by
  unfold State.forceRequest
  split <;> rfl

theorem State.deriveDuty_afc (s : State) : s.deriveDuty.afc = s.afc := by
  unfold State.deriveDuty State.applyDuty
  dsimp only
  repeat' split
  all_goals rfl

theorem State.runOnEnded_afc (s : State) : s.runOnEnded.afc = s.afc := by
  have table := (State.TableOnly.defrostTimerEnd (s := s)).afc
  unfold State.runOnEnded
  dsimp only
  split
  · exact ((State.TableOnly.applyArb _).afc).trans ((State.setDevice_afc _ _).trans table)
  · exact (State.updFlt_afc _ _).trans ((State.setDevice_afc _ _).trans table)
  all_goals exact table

theorem State.cutRunOn_afc (s : State) : s.cutRunOn.afc = s.afc := by
  unfold State.cutRunOn
  split
  · rfl
  · split
    · rw [State.runOnEnded_afc, State.faultEvent_afc]
      rfl
    · rfl

/-! ### A check start by its post -/

/-- The record of a check whose post is being made (R127, R128). -/
def Check.started (c : Check) (t : CheckTrigger) : Check :=
  { c.discard with trigger := some t, waiting := 0, settle := 0, stable := 0, suspensions := 0,
                   scheduledDue := false, hoursSinceCheck := 0 }

/-- The post of a check that starts (R128). -/
def State.checkPost (s : State) (t : CheckTrigger) : State × PostAnswer :=
  (s.updCheck (·.started t)).internalPost .filterCheck 6 (.flows (s.setting 10) (s.setting 10)) none

theorem State.startCheck_faulted (h : s.filterSensorFaulted = true) (c : CheckTrigger) : s.startCheck c
    = (((s.updCheck fun k => { k with trigger := some c, scheduledDue := false, hoursSinceCheck := 0 }).recordCheckEnd
      .sensorFault).raiseFilterResult, .ok) := if_pos h

theorem State.startCheck_posted (h : s.filterSensorFaulted = false) {c : CheckTrigger} {w : State}
    (hw : s.checkPost c = (w, .ok)) :
    s.startCheck c = ((w.updCheck fun k => { k with phase := .waiting }).trySettle, .ok) := by
  refine (if_neg (by simp [h])).trans ?_
  unfold State.checkPost Check.started at hw
  dsimp only
  erw [hw]

theorem State.startCheck_undone (h : s.filterSensorFaulted = false) {c : CheckTrigger} {w : State} {a : PostAnswer}
    (hw : s.checkPost c = (w, a)) (ha : a ≠ .ok) : s.startCheck c = (w.updCheck fun _ => s.flt.check, a) := by
  refine (if_neg (by simp [h])).trans ?_
  unfold State.checkPost Check.started at hw
  dsimp only
  erw [hw]
  cases a with
  | ok => exact absurd rfl ha
  | _ => rfl

theorem State.TableOnly.checkPost (c : CheckTrigger) : s.TableOnly (s.checkPost c).1 :=
  State.TableOnly.trans (.updFlt _) (.postCore _ _ _ _)

/-- A check start changes the table, the check's record and nothing of the paths. -/
theorem State.TableOnly.startCheck (c : CheckTrigger) : s.TableOnly (s.startCheck c).1 := by
  cases h : s.filterSensorFaulted with
  | true =>
    rw [State.startCheck_faulted h]
    exact (State.TableOnly.updFlt _).trans ((State.TableOnly.updFlt _).trans (.raise _ _ _))
  | false =>
    have posted := State.TableOnly.checkPost (s := s) c
    cases hw : s.checkPost c with | mk w a =>
    rw [hw] at posted
    by_cases ha : a = .ok
    · subst ha
      rw [State.startCheck_posted h hw]
      exact posted.trans ((State.TableOnly.updFlt _).trans .trySettle)
    · rw [State.startCheck_undone h hw ha]
      have undone : w.TableOnly (w.updCheck fun _ => s.flt.check) := .updFlt _
      exact posted.trans undone

theorem State.startTest_afc (s : State) : s.startTest.afc = s.afc := by
  unfold State.startTest
  split
  · dsimp only
    split
    · exact (State.TableOnly.startCheck _).afc
    · rfl
  · rfl

theorem State.deriveStage_afc (s : State) : s.deriveStage.afc = s.afc := by
  unfold State.deriveStage
  dsimp only
  split
  · rfl
  · exact State.raise_afc _ _ _ _

theorem State.round_afc (s : State) : s.round.afc = s.forceRequest.serveFans.afc := by
  rw [State.round, State.startTest_afc, State.cutRunOn_afc, State.deriveDuty_afc]

theorem State.serveFans_path (s : State) (i : PathId) : ∃ v, s.serveFans.afc.path i = (s.afc.path i).serve v := by
  cases i with
  | supply => exact ⟨_, s.serveFans_supply⟩
  | extract => exact ⟨_, s.serveFans_extract⟩

/-- What every service of a path keeps, the propagation keeps. -/
theorem State.propagate_path {P : FanPath → Prop} (hP : ∀ p v, P p → P (p.serve v)) (h : P (s.afc.path i)) :
    P (s.propagate.afc.path i) := by
  have staged (t : State) (ht : P (t.afc.path i)) : P (t.stagedRound.afc.path i) := by
    obtain ⟨v, served⟩ := t.forceRequest.serveFans_path i
    rw [State.stagedRound, State.deriveStage_afc, State.round_afc, served, State.forceRequest_afc]
    exact hP _ _ ht
  refine staged _ (staged _ (staged _ (staged _ ?_)))
  rwa [State.deriveStage_afc]

/-! ### A driven path at rest -/

/-- Resolution goes by the table and the device alone, or by a demand with flows. -/
theorem State.resolve_cases (s : State) :
    (∃ r, ∀ t : State, t.osc = s.osc → t.arb = s.arb → t.resolve = r)
    ∨ ∃ (x : Slot) (f : Nat × Nat), s.arb.active = some x ∧ x ≠ .manual ∧ ∀ t : State, t.osc = s.osc → t.arb = s.arb →
      t.resolve = (some (t.resolveDemand f.1 f.2).1, some (t.resolveDemand f.1 f.2).2) := by
  have setting {t : State} (ho : t.osc = s.osc) (n : Nat) : t.setting n = s.setting n := by
    rw [State.setting, State.setting, ho]
  cases stopped : s.osc.device.fansStopped with
  | true => exact .inl ⟨_, fun t ho _ => (State.resolve_stopped (ho ▸ stopped)).1⟩
  | false =>
    have moves {t : State} (ho : t.osc = s.osc) : t.osc.device.fansStopped = false := ho ▸ stopped
    cases active : s.arb.active with
    | none => exact .inl ⟨_, fun t ho ha => (State.resolve_idle (moves ho) (ha ▸ active)).1⟩
    | some x =>
      by_cases hx : x = .manual
      · refine .inl ⟨(none, none), fun t ho ha => ?_⟩
        simp [State.resolve, moves ho, ha, active, hx]
      · cases hd : s.arb.table.get x with
        | none =>
          refine .inl ⟨(some 0, some 0), fun t ho ha => ?_⟩
          simp only [State.resolve, moves ho, ha, active, Arb.activeDemand, hd]
          cases x with
          | manual => exact absurd rfl hx
          | _ => rfl
        | some d => cases hf : d.flows (s.setting 1) with
          | none =>
            refine .inl ⟨(some 0, some 0), fun t ho ha => ?_⟩
            simp [State.resolve, moves ho, ha, active, Arb.activeDemand, hd, setting ho, hf]
          | some f =>
            have resolved {t : State} (ho : t.osc = s.osc) (ha : t.arb = s.arb) :=
              State.resolve_demand (s := t) (moves ho) (ha ▸ active) hx (ha ▸ hd) (setting ho 1 ▸ hf)
            by_cases fire : x = .fire
            · exact .inl ⟨_, fun t ho ha => (resolved ho ha).trans (if_pos fire)⟩
            · exact .inr ⟨x, f, rfl, hx, fun t ho ha => (resolved ho ha).trans (if_neg fire)⟩

/-- What a path is asked to serve goes by the table, the device, the run-on and, for the supply path, extract loss, whose
end never stops a path that is driven. -/
theorem State.serveArgs_same (ho : t.osc = s.osc) (ha : t.arb = s.arb)
    (hf : t.frg = { s.frg with stage := t.frg.stage })
    (hl : i = .supply → t.extractLoss = true → s.extractLoss = true) (hd : 0 < s.driveRequest i) :
    (t.serveArgs i).target = (s.serveArgs i).target ∧ (t.serveArgs i).manual = (s.serveArgs i).manual := by
  have setting (n : Nat) : t.setting n = s.setting n := by rw [State.setting, State.setting, ho]
  have duties : t.manualDuties = s.manualDuties := by rw [State.manualDuties, State.manualDuties, ho, ha]
  have runOn : t.frg.runOn = s.frg.runOn := by rw [hf]
  have cap : t.capC = s.capC := by
    have imbalance : t.frg.imbalance = s.frg.imbalance := by rw [hf]
    have extract : t.activeExtract = s.activeExtract := by
      unfold State.activeExtract
      rw [ha, setting]
    rw [State.capC, State.capC, State.capInForce, State.capInForce, imbalance, extract, setting]
  have manual : (t.serveArgs i).manual = (s.serveArgs i).manual := by simp only [State.serveArgs, duties]
  refine ⟨?_, manual⟩
  rcases s.resolve_cases with ⟨r, same⟩ | ⟨x, f, active, hx, resolved⟩
  · simp only [State.serveArgs, same t ho ha, same s rfl rfl]
  · cases i with
    | extract => simp only [State.serveArgs, resolved t ho ha, resolved s rfl rfl, State.resolveDemand]
    | supply =>
      have request : s.driveRequest .supply = (s.resolveDemand f.1 f.2).1 := by
        simp [State.driveRequest, State.serveArgs, State.manualDuties_none active hx, resolved s rfl rfl]
      have kept : s.extractLoss = false := by
        by_contra loss
        rw [Bool.not_eq_false] at loss
        simp [request, State.resolveDemand, loss] at hd
      have gone : t.extractLoss = false := by
        by_contra loss
        simp [hl rfl (by simpa using loss)] at kept
      simp only [State.serveArgs, resolved t ho ha, resolved s rfl rfl, State.resolveDemand, kept, gone, cap, setting,
        runOn]

theorem State.driveRequest_same (ho : t.osc = s.osc) (ha : t.arb = s.arb)
    (hf : t.frg = { s.frg with stage := t.frg.stage })
    (hl : i = .supply → t.extractLoss = true → s.extractLoss = true) (hd : 0 < s.driveRequest i) :
    t.driveRequest i = s.driveRequest i := by
  obtain ⟨target, manual⟩ := State.serveArgs_same ho ha hf hl hd
  simp only [State.driveRequest, target, manual]

/-- No service makes a path STALLED or FAILED. -/
theorem FanPath.serve_lost {p : FanPath} {v : Serve} (h : (p.serve v).state = .stalled ∨ (p.serve v).state = .failed) :
    p.state = .stalled ∨ p.state = .failed := by
  cases hm : v.manual with
  | none =>
    rw [FanPath.serve_target hm, FanPath.lapse_state] at h
    unfold FanPath.serveTarget FanPath.toOff FanPath.toSpinup at h
    cases e : p.state <;> simp only [e] at h <;> grind
  | some d =>
    rw [FanPath.serve_manual hm, FanPath.lapse_state] at h
    unfold FanPath.serveManual FanPath.toOff FanPath.toSpinup at h
    cases e : p.state <;> simp only [e] at h <;> grind

/-- What a service by one target and one manual duty keeps, a driven path keeps at rest. -/
theorem State.propagate_driven (hs : s.atRest) (hd : 0 < s.driveRequest i) {P : FanPath → Prop}
    (hP : ∀ p v, v.target = (s.serveArgs i).target → v.manual = (s.serveArgs i).manual → P p → P (p.serve v))
    (h : P (s.afc.path i)) : P (s.propagate.afc.path i) := by
  have staged (t : State) (ht : s.Rests t ∧ (t.extractLoss = true → s.extractLoss = true) ∧ P (t.afc.path i)) :
      s.Rests t.stagedRound ∧ (t.stagedRound.extractLoss = true → s.extractLoss = true)
        ∧ P (t.stagedRound.afc.path i) := by
    obtain ⟨rests, loss, kept⟩ := ht
    have round : t.stagedRound.afc = t.serveFans.afc := by
      rw [State.stagedRound, State.deriveStage_afc, State.round_atRest (rests.atRest hs)]
    have served (u : State) (hu : t.Rests u) (hl : u.extractLoss = true → t.extractLoss = true) :
        P ((t.afc.path i).serve (u.serveArgs i)) := by
      have all := rests.trans hu
      obtain ⟨target, manual⟩ := State.serveArgs_same all.osc all.arb all.frg (fun _ hu => loss (hl hu)) hd
      exact hP _ _ target manual kept
    have lossServed (u : State) (hu : u.afc.extract = t.afc.extract.serve (t.serveArgs .extract))
        (hl : u.extractLoss = true) : t.extractLoss = true := by
      rw [State.extractLoss_iff, hu] at hl
      exact t.extractLoss_iff.mpr (FanPath.serve_lost hl)
    refine ⟨rests.trans (.stagedRound (rests.atRest hs)), fun hl => loss (lossServed t.serveFans t.serveFans_extract ?_), ?_⟩
    · rwa [State.extractLoss, ← round]
    · rw [round]
      cases i with
      | extract =>
        rw [Afc.path, State.serveFans_extract]
        exact served t (.refl t) id
      | supply =>
        rw [Afc.path, State.serveFans_supply]
        refine served (t.servePath .extract) (.movePath _ _ _) (lossServed _ ?_)
        rw [State.servePath, State.movePath_afc]
        rfl
  refine (staged _ (staged _ (staged _ (staged _ ⟨.deriveStage s, ?_, ?_⟩)))).2.2
  · rw [State.extractLoss, State.deriveStage_afc]
    exact id
  · rwa [State.deriveStage_afc]

end Propagation

/-! ### The ends of a path's times -/

section Ends

variable {s : State} {i : PathId}

theorem State.extractLoss_movePath (s : State) (p : FanPath) : (s.movePath .supply p).extractLoss = s.extractLoss := by
  rw [State.extractLoss, State.movePath_afc]
  rfl

/-- A path that moves on its own is asked to serve what it was. -/
theorem State.serveArgs_movePath {p : FanPath} (hd : 0 < s.driveRequest i) :
    ((s.movePath i p).serveArgs i).target = (s.serveArgs i).target
      ∧ ((s.movePath i p).serveArgs i).manual = (s.serveArgs i).manual
      ∧ (s.movePath i p).driveRequest i = s.driveRequest i := by
  have rests := State.Rests.movePath s i p
  have loss : i = .supply → (s.movePath i p).extractLoss = true → s.extractLoss = true := by
    rintro rfl
    rw [State.extractLoss_movePath]
    exact id
  obtain ⟨target, manual⟩ := State.serveArgs_same rests.osc rests.arb rests.frg loss hd
  exact ⟨target, manual, State.driveRequest_same rests.osc rests.arb rests.frg loss hd⟩

/-- A driven path that moves on its own, with what follows at rest. -/
theorem State.movePath_driven {p : FanPath} (hs : s.atRest) (hd : 0 < s.driveRequest i) {P : FanPath → Prop}
    (hP : ∀ q v, v.target = (s.serveArgs i).target → v.manual = (s.serveArgs i).manual → P q → P (q.serve v))
    (h : P p) : P ((s.movePath i p).propagate.afc.path i) := by
  obtain ⟨target, manual, request⟩ := State.serveArgs_movePath (p := p) hd
  refine State.propagate_driven ((State.Rests.movePath s i p).atRest hs) (by rwa [request])
    (fun q v ht hm => hP q v (ht.trans target) (hm.trans manual)) ?_
  rwa [State.movePath_afc, Afc.path_setPath]

theorem State.driveRequest_target (h : (s.serveArgs i).manual = none) (hd : 0 < s.driveRequest i) :
    ∃ goal, (s.serveArgs i).target = some goal ∧ 0 < goal := by
  rw [State.driveRequest, h] at hd
  dsimp only at hd
  cases ht : (s.serveArgs i).target with
  | none => simp [ht] at hd
  | some goal => exact ⟨goal, rfl, by simpa [ht] using hd⟩

theorem State.serveArgs_manual (s : State) (i : PathId) : (s.serveArgs i).manual = none ↔ s.manualDuties = none := by
  simp [State.serveArgs]

/-- A path in SPINUP or STALLED goes on while it is driven. -/
theorem FanPath.serve_waits {p : FanPath} {v : Serve} (h : p.state = .spinup ∨ p.state = .stalled)
    (hd : 0 < v.manual.getD (v.target.getD 0)) : p.serve v = { p with target := v.target }.lapse v.stallSpeed := by
  cases hm : v.manual with
  | some d => exact (FanPath.serve_waitsManual hm h).1 (by simpa [hm] using hd)
  | none =>
    cases ht : v.target with
    | none => simp [hm, ht] at hd
    | some goal => exact FanPath.serve_goesOn hm ht (by simpa [hm, ht] using hd) (by tauto)

theorem State.driveRequest_eq (s : State) (i : PathId) :
    s.driveRequest i = (s.serveArgs i).manual.getD ((s.serveArgs i).target.getD 0) := by
  rw [State.driveRequest]
  cases (s.serveArgs i).manual <;> rfl

/-- A driven path that enters SPINUP or STALLED stays there at rest. -/
theorem State.movePath_waits {p : FanPath} (hs : s.atRest) (hd : 0 < s.driveRequest i)
    (h : p.state = .spinup ∨ p.state = .stalled) (t : State) (ht : t = (s.movePath i p).propagate) :
    (t.afc.path i).state = p.state ∧ (t.afc.path i).duty = p.duty ∧ (t.afc.path i).spinupTime = p.spinupTime
      ∧ (t.afc.path i).retryTime = p.retryTime := by
  rw [ht]
  refine State.movePath_driven hs hd (P := fun q => q.state = p.state ∧ q.duty = p.duty
    ∧ q.spinupTime = p.spinupTime ∧ q.retryTime = p.retryTime) (fun q v htar hman hq => ?_) ⟨rfl, rfl, rfl, rfl⟩
  rw [FanPath.serve_waits (by rwa [hq.1]) (by rwa [htar, hman, ← State.driveRequest_eq])]
  simpa using hq

/-- A path that is held or under its manual duty keeps its times. -/
theorem FanPath.serve_times {p : FanPath} {v : Serve} (h : p.state = .manual ∧ v.manual ≠ none
      ∨ p.state = .hold ∧ v.manual = none ∧ v.target.getD 0 ≠ 0) :
    (p.serve v).spinupTime = p.spinupTime ∧ (p.serve v).goodTime = p.goodTime
      ∧ (p.serve v).goodTiming = p.goodTiming := by
  rcases h with ⟨h, hm⟩ | ⟨h, hm, ht⟩
  · obtain ⟨d, hm⟩ := Option.ne_none_iff_exists'.mp hm
    simp [FanPath.serve_manual hm, FanPath.serveManual, h]
  · rw [FanPath.serve_target hm]
    simp only [FanPath.serveTarget, h, ht, if_false, FanPath.lapse_spinupTime, FanPath.lapse_goodTime,
      FanPath.lapse_goodTiming]
    repeat' split
    all_goals exact ⟨rfl, rfl, rfl⟩

/-- What a path serves after a successful spin-up under a target (R33): `goal` and the path as the spin-up ended. -/
def FanPath.ServesAfter (old : FanPath) (goal : Nat) (q : FanPath) : Prop :=
  q.goodTiming = true ∧ q.goodTime = 0 ∧ q.spinupTime = 0 ∧ q.state = (if old.faulted then .hold else .regulating)
    ∧ ((old.faulted = false ∨ old.target = some goal) →
      q.duty = old.duty ∧ (old.faulted = true → q.target = some goal))

theorem FanPath.ServesAfter.serve {old q : FanPath} {goal : Nat} (h : old.ServesAfter goal q) {v : Serve}
    (hm : v.manual = none) (ht : v.target = some goal) (hg : 0 < goal) : old.ServesAfter goal (q.serve v) := by
  obtain ⟨timing, good, spin, state, duty⟩ := h
  cases hf : old.faulted with
  | false =>
    have served := FanPath.serve_goesOn hm ht hg (p := q) (by simp [state, hf])
    rw [served]
    exact ⟨by simpa, by simpa, by simpa, by simpa, fun hc => ⟨by simpa using (duty hc).1, by simp [hf]⟩⟩
  | true =>
    have held : q.state = .hold := by simp [state, hf]
    obtain ⟨h1, -, h3⟩ := FanPath.serve_holds hm ht hg held
    obtain ⟨t1, t2, t3⟩ := FanPath.serve_times (p := q) (v := v) (.inr ⟨held, hm, by simp [ht, hg.ne']⟩)
    refine ⟨t3.trans timing, t2.trans good, t1.trans spin, by simp [h1, hf], fun hc => ?_⟩
    obtain ⟨same, target⟩ := duty hc
    exact ⟨(h3 (.inl (target hf))).trans same, fun _ => by rw [FanPath.serve_targets, ht]⟩

/-- A path under its manual duty after a successful spin-up (R33, R36). -/
def FanPath.ManualAfter (duty : Nat) (q : FanPath) : Prop :=
  q.goodTiming = true ∧ q.goodTime = 0 ∧ q.spinupTime = 0 ∧ q.state = .manual ∧ q.duty = duty

theorem FanPath.ManualAfter.serve {q : FanPath} {duty : Nat} (h : q.ManualAfter duty) {v : Serve}
    (hm : v.manual = some duty) : (q.serve v).ManualAfter duty := by
  obtain ⟨timing, good, spin, state, -⟩ := h
  obtain ⟨t1, t2, t3⟩ := FanPath.serve_times (p := q) (v := v) (.inl ⟨state, by simp [hm]⟩)
  obtain ⟨h1, h2⟩ := FanPath.serve_takesDuty hm (p := q) (by simp [state])
  exact ⟨t3.trans timing, t2.trans good, t1.trans spin, h1, h2⟩

theorem Afc.setPath_setPath (a : Afc) (i : PathId) (p q : FanPath) : (a.setPath i p).setPath i q = a.setPath i q := by
  cases i <;> rfl

/-- A path that moves after a correction of its record that leaves its state. -/
theorem State.movePath_corrected {p : FanPath} (hp : p.state = (s.afc.path i).state) (q : FanPath) :
    { s with afc := s.afc.setPath i p }.movePath i q = s.movePath i q := by
  have path : ({ s with afc := s.afc.setPath i p } : State).afc.path i = p := Afc.path_setPath _ _ _
  have same : ({ s with afc := s.afc.setPath i p } : State).updAfc (·.setPath i q) = s.updAfc (·.setPath i q) := by
    simp only [State.updAfc, Afc.setPath_setPath]
  rw [State.movePath, State.movePath, path, hp, same]

theorem FanPath.stop_same (p : FanPath) (failed : Bool) :
    { p with retryCount := (p.stop failed).retryCount }.SameSensor (p.stop failed) :=
  ⟨rfl, rfl, rfl, rfl, rfl, rfl, rfl, rfl⟩

theorem FanPath.stop_retryCount (p : FanPath) (failed : Bool) :
    (p.stop failed).retryCount = if failed then min (p.retryCount + 1) 3 else p.retryCount := rfl

theorem FanPath.stop_failed {p : FanPath} {failed : Bool} (h : failed = true ∧ 2 ≤ p.retryCount) :
    (p.stop failed).state = .failed := by
  obtain ⟨rfl, h⟩ := h
  have full : 3 ≤ min (p.retryCount + 1) 3 := by omega
  simp [FanPath.stop, Config.failedSpinups, full]

theorem FanPath.stop_stalled {p : FanPath} {failed : Bool} (h : failed = false ∨ p.retryCount < 2) :
    (p.stop failed).state = .stalled ∧ (p.stop failed).retryTime = 60 ∧ (p.stop failed).duty = 0 := by
  have alive : (failed && decide (Config.failedSpinups
      ≤ if failed then min (p.retryCount + 1) Config.failedSpinups else p.retryCount)) = false := by
    rcases h with rfl | h
    · rfl
    · cases failed with
      | false => rfl
      | true => simp [Config.failedSpinups]; omega
  dsimp only [FanPath.stop]
  rw [alive]
  exact ⟨rfl, rfl, rfl⟩

/-- A path that has stalled or whose spin-up has failed (R38, R39). -/
theorem State.stallPath_ends (s : State) (i : PathId) (failed : Bool) {p : FanPath} (hp : p = s.afc.path i)
    {t : State} (ht : t = s.stallPath i failed) :
    ∃ v : Sup, FaultTaken s.sup v (stallFlag i) (pathCode i) (min p.speed 32767 : Nat) s.osc.uptime
      ∧ SettledFrom [] { s with
          afc := s.afc.setPath i { p with retryCount := if failed then min (p.retryCount + 1) 3 else p.retryCount }
          sup := v } t
      ∧ (failed = true → 2 ≤ p.retryCount → (t.afc.path i).state = .failed)
      ∧ ((failed = false ∨ p.retryCount < 2) → s.atRest → 0 < s.driveRequest i →
        (t.afc.path i).state = .stalled ∧ (t.afc.path i).retryTime = 60 ∧ (t.afc.path i).duty = 0) := by
  have taken := s.faultEvent_taken (stallFlag i) (pathCode i) p.speed
  rw [clampI_natCast] at taken
  have faulted := SettledFrom.fault s (stallFlag i) (pathCode i) p.speed
  have apart := s.faultEvent_apart (stallFlag i) (pathCode i) p.speed
  have shown : t = ((s.faultEvent (stallFlag i) (pathCode i) p.speed).movePath i (p.stop failed)).propagate := by
    rw [ht, hp]
    rfl
  have afc := State.faultEvent_afc s (stallFlag i) (pathCode i) p.speed
  have osc := State.faultEvent_osc s (stallFlag i) (pathCode i) p.speed
  have arb := State.faultEvent_arb s (stallFlag i) (pathCode i) p.speed
  have frg := State.faultEvent_frg s (stallFlag i) (pathCode i) p.speed
  have flt := State.faultEvent_flt s (stallFlag i) (pathCode i) p.speed
  generalize s.faultEvent (stallFlag i) (pathCode i) p.speed = u at *
  refine ⟨u.sup, taken, ?_, fun hf hr => ?_, fun hc hs hd => ?_⟩
  · have corrected := faulted.onAfc (s.afc.setPath i { p with retryCount := (p.stop failed).retryCount })
    have same : { u with afc := s.afc.setPath i { p with retryCount := (p.stop failed).retryCount } }.movePath i
        (p.stop failed) = u.movePath i (p.stop failed) := by
      rw [← afc]
      exact State.movePath_corrected (by rw [afc, hp]) _
    rw [shown, ← same]
    refine (corrected.next (.movePath _ _ _ ?_)).next (.propagate _)
    dsimp only
    rw [Afc.path_setPath]
    exact p.stop_same failed
  · rw [shown]
    refine State.propagate_path (P := fun q => q.state = .failed) (fun q v hq => (FanPath.serve_failed hq).1) ?_
    rw [State.movePath_afc, Afc.path_setPath]
    exact FanPath.stop_failed ⟨hf, hr⟩
  · have rest : u.atRest := by
      rw [State.atRest, frg, flt]
      exact hs
    have drive : 0 < u.driveRequest i := by
      rwa [State.driveRequest_same osc arb (by rw [frg]) (fun _ => by rw [State.extractLoss, State.extractLoss, afc]; exact id) hd]
    obtain ⟨state, time, duty⟩ := FanPath.stop_stalled hc
    obtain ⟨h1, h2, -, h4⟩ := State.movePath_waits rest drive (.inr state) t shown
    exact ⟨h1.trans state, h4.trans time, h2.trans duty⟩

theorem FanPath.started_same (p : FanPath) (m : Option Nat) : p.SameSensor (p.started m) := by
  cases m <;> exact ⟨rfl, rfl, rfl, rfl, rfl, rfl, rfl, rfl⟩

end Ends

end Sys2Proof.Machine

/-- Settles O34. -/
theorem fanTimersEnd : Obligations.FanTimersEnd := by
  intro s i p hp
  refine ⟨fun hstate htime hspeed => ?_, fun hstate htime hspeed => ?_, fun hstate htime => ?_, fun hstate htime => ?_⟩
  · have row : exec (.spinupEnd i) s = .next (s.movePath i (p.started (s.serveArgs i).manual)).propagate := by
      rw [hp] at hstate htime hspeed ⊢
      exact (if_pos ⟨hstate, htime⟩).trans (if_pos hspeed)
    have settled := (SettledFrom.movePath s i (p.started (s.serveArgs i).manual) (hp ▸ p.started_same _)).next (.propagate _)
    have manual (d : Nat) (hm : (s.serveArgs i).manual = some d) (hs : s.atRest) (hd : 0 < s.driveRequest i) :
        ((s.movePath i (p.started (s.serveArgs i).manual)).propagate.afc.path i).ManualAfter d :=
      State.movePath_driven hs hd (fun q v _ hman hq => hq.serve (hman.trans hm)) (by
        rw [hm]
        exact ⟨rfl, rfl, rfl, rfl, rfl⟩)
    have target (hm : (s.serveArgs i).manual = none) (goal : Nat) (hg : (s.serveArgs i).target = some goal) (hg0 : 0 < goal)
        (hs : s.atRest) (hd : 0 < s.driveRequest i) :
        p.ServesAfter goal ((s.movePath i (p.started (s.serveArgs i).manual)).propagate.afc.path i) :=
      State.movePath_driven hs hd (fun q v htar hman hq => hq.serve (hman.trans hm) (htar.trans hg) hg0) (by
        rw [hm]
        refine ⟨rfl, rfl, rfl, rfl, fun hc => ⟨rfl, fun hf => ?_⟩⟩
        exact hc.resolve_left (by simp [hf]))
    generalize (s.movePath i (p.started (s.serveArgs i).manual)).propagate = t at *
    refine ⟨t, row, settled, fun hs hd => ?_⟩
    cases hm : (s.serveArgs i).manual with
    | none =>
      obtain ⟨goal, hg, hg0⟩ := State.driveRequest_target hm hd
      obtain ⟨timing, good, spin, state, duty⟩ := target hm goal hg hg0 hs hd
      refine ⟨timing, good, spin, fun _ => ⟨fun hc => (duty (hc.imp_right (·.trans hg))).1, state⟩, fun hn => ?_⟩
      exact absurd ((s.serveArgs_manual i).mp hm) hn
    | some d =>
      obtain ⟨timing, good, spin, state, duty⟩ := manual d hm hs hd
      refine ⟨timing, good, spin, fun hn => ?_, fun _ => ⟨state, ?_⟩⟩
      · simp [(s.serveArgs_manual i).mpr hn] at hm
      · rw [State.driveRequest_eq, hm, Option.getD_some]
        exact duty
  · have row : exec (.spinupEnd i) s = .next (s.stallPath i true) := by
      rw [hp] at hstate htime hspeed
      exact (if_pos ⟨hstate, htime⟩).trans (if_neg (Nat.not_le.mpr hspeed))
    generalize ht : s.stallPath i true = t at *
    obtain ⟨v, taken, settled, failed, stalled⟩ := s.stallPath_ends i true hp ht.symm
    exact ⟨t, v, row, taken, settled, failed rfl, fun hr => stalled (.inr hr)⟩
  · have row : exec (.stallDetected i) s = .next (s.stallPath i p.goodTiming) := by
      rw [hp] at hstate htime ⊢
      exact if_pos ⟨hstate, htime⟩
    generalize ht : s.stallPath i p.goodTiming = t at *
    obtain ⟨v, taken, settled, failed, stalled⟩ := s.stallPath_ends i p.goodTiming hp ht.symm
    exact ⟨t, v, row, taken, settled, failed, stalled⟩
  · have row : exec (.retryEnd i) s = .next (s.movePath i (p.toSpinup (s.setting 22))).propagate := by
      rw [hp] at hstate htime ⊢
      exact if_pos ⟨hstate, htime⟩
    have settled := (SettledFrom.movePath s i (p.toSpinup (s.setting 22))
      (hp ▸ ⟨rfl, rfl, rfl, rfl, rfl, rfl, rfl, rfl⟩)).next (.propagate _)
    generalize ht : (s.movePath i (p.toSpinup (s.setting 22))).propagate = t at *
    refine ⟨t, row, settled, fun hs hd => ?_⟩
    obtain ⟨h1, h2, h3, -⟩ := State.movePath_waits hs hd (.inl rfl) t ht.symm
    exact ⟨h1, h2, h3⟩

end

section
/-! A held temperature channel that becomes INVALID, and the good and short running of a path. -/

open Sys2Proof Sys2Proof.Machine

namespace Sys2Proof.Machine

section Regime

variable {a : List Slot} {s t : State}

theorem SettledFrom.frost_get (h : SettledFrom a s t) {α : Type} (f : Frg → α)
    (hf : ∀ (g : Frg) (q p : Nat) (b : Bool) (w r : Nat) (e : Stage) (d : Defrost),
      f { g with request := q, applied := p, outputOn := b, windowSecs := w, runOn := r, stage := e, defrost := d } = f g) :
    f t.frg = f s.frg := (hf _ _ _ _ _ _ _ _).symm.trans (congrArg f h.frost)

/-- What a change of the regime sets off (R48, R49, R73). -/
theorem State.afterRegime_eq (s : State) (before : Regime) : ∃ d : Defrost,
    s.afterRegime before = { s with frg := { s.frg with
      substitute := if s.frg.regime ≠ before ∧ s.frg.regime = .substitute then
          some (exhaustSubstitute s.frg.odaInUse s.frg.etaInUse (settingVal s.osc.working 31))
        else s.frg.substitute
      defrost := d } } := by
  have exit (t : State) : ∃ d, t.confirmExit = { t with frg := { t.frg with defrost := d } } := by
    unfold State.confirmExit
    dsimp only
    split
    · split
      all_goals (try split)
      all_goals exact ⟨_, rfl⟩
    · exact ⟨_, rfl⟩
  unfold State.afterRegime
  by_cases same : s.frg.regime = before
  · rw [if_pos same, if_neg (by simp [same])]
    exact ⟨s.frg.defrost, rfl⟩
  · rw [if_neg same]
    by_cases sub : s.frg.regime = .substitute
    · rw [if_pos sub, if_pos ⟨same, sub⟩]
      obtain ⟨d, e⟩ := exit s.computeSubstitute
      exact ⟨d, e⟩
    · rw [if_neg sub, if_neg (by simp [sub])]
      exact exit s

end Regime

end Sys2Proof.Machine

/-- Settles O36. -/
theorem holdExpires : Obligations.HoldExpires := by
  intro s i g hh ht hg
  subst hg
  have row : exec (.holdExpired i) s = .next (s.invalidate i).propagate := if_pos ⟨hh, ht⟩
  obtain ⟨d, eq⟩ := ({ s with frg := s.frg.setChannel i { s.frg.channel i with status := .invalid } } : State).afterRegime_eq
    s.frg.regime
  have settled := SettledFrom.propagate (s.invalidate i)
  have left : s.invalidate i = _ := eq
  generalize s.invalidate i = u at *
  subst left
  have kept : (s.frg.setChannel i { s.frg.channel i with status := .invalid }).substitute = s.frg.substitute := by
    cases i <;> rfl
  generalize s.frg.setChannel i { s.frg.channel i with status := .invalid } = g at *
  dsimp only at settled row
  generalize hsub : (if g.regime ≠ s.frg.regime ∧ g.regime = .substitute then
    some (exhaustSubstitute g.odaInUse g.etaInUse (settingVal s.osc.working 31)) else g.substitute) = x at *
  have based : SettledFrom [] { s with frg := { g with substitute := x } }
      { s with frg := { g with substitute := x, defrost := d } } := .updDefrost _ fun _ => d
  have settled := based.next settled
  generalize State.propagate _ = t at *
  have sub : t.frg.substitute = x := settled.frost_get (·.substitute) fun _ _ _ _ _ _ _ _ => rfl
  have regime : t.frg.regime = g.regime := settled.frost_get (·.regime) fun _ _ _ _ _ _ _ _ => rfl
  refine ⟨t, row, by rwa [sub], regime, fun h1 h2 => ?_, fun h1 h2 h3 => ?_, fun h => ?_, fun h1 h2 => ?_⟩
  · rw [regime, Frg.regime, if_neg (by simp [h1]), if_pos h2]
  · rw [regime, Frg.regime, if_neg (by simp [h1]), if_neg (by simp [h2, h3])]
  · rw [sub, ← hsub, if_neg (fun hc => h.elim hc.1 (fun hn => hn hc.2)), kept]
  · rw [sub, ← hsub, if_pos ⟨h1, h2⟩]
    rfl

end

section
/-! What the propagation makes of a filter check: one that has ended stays ended, one that has started goes on. -/

open Sys2Proof Sys2Proof.Machine

namespace Sys2Proof.Machine

section Induction

variable {s : State}

/-- The blocks that the table and the check go by are as they were. -/
structure State.SameTable (s t : State) : Prop where
  osc : t.osc = s.osc
  arb : t.arb = s.arb
  flt : t.flt = s.flt
  defrost : t.frg.defrost = s.frg.defrost

theorem State.SameTable.refl (s : State) : s.SameTable s := ⟨rfl, rfl, rfl, rfl⟩

theorem State.SameTable.trans {t u : State} (h : s.SameTable t) (g : t.SameTable u) : s.SameTable u :=
  ⟨g.osc.trans h.osc, g.arb.trans h.arb, g.flt.trans h.flt, g.defrost.trans h.defrost⟩

theorem State.SameTable.of_rests {t : State} (h : s.Rests t) : s.SameTable t :=
  ⟨h.osc, h.arb, h.flt, by rw [h.frg]⟩

theorem State.SameTable.faultEvent (s : State) (g : Flag) (x : Nat) (v : Int) : s.SameTable (s.faultEvent g x v) :=
  ⟨by simp, by simp, by simp, by simp⟩

theorem State.SameTable.updFrg (s : State) {f : Frg → Frg} (hf : (f s.frg).defrost = s.frg.defrost) :
    s.SameTable (s.updFrg f) := ⟨rfl, rfl, rfl, hf⟩

theorem State.SameTable.deriveDuty (s : State) : s.SameTable s.deriveDuty := by
  unfold State.deriveDuty State.applyDuty
  dsimp only
  repeat' split
  all_goals exact ⟨rfl, rfl, rfl, rfl⟩

theorem State.SameTable.forceRequest (s : State) : s.SameTable s.forceRequest := by
  unfold State.forceRequest
  split <;> exact ⟨rfl, rfl, rfl, rfl⟩

theorem State.SameTable.watchTest (s : State) (x : Slot) (n : Nat) (p : PostArgs) (l : Option Link) :
    s.SameTable (s.watchTest x n p l).1 := by
  unfold State.watchTest
  split
  · split
    · exact ⟨rfl, rfl, rfl, rfl⟩
    · exact ⟨by simp, by simp, by simp, by simp⟩
  · exact .refl s

/-- The post of a defrost, of which FRG takes the reports that `f` lets through. -/
def State.defrostApplied (s : State) (p : PostArgs) (f : Report → Bool) : State :=
  s.applyArb ((s.arb.post .defrost p s.osc.uptime).1, (s.arb.post .defrost p s.osc.uptime).2.filter f)

theorem State.postDefrost_applied (s : State) : s.postDefrost = s ∨ ∃ (w : State) (p : PostArgs) (f : Report → Bool),
    s.SameTable w ∧ s.postDefrost = w.defrostApplied p f := by
  let p : PostArgs := { level := 13, origin := .internal, carry := .flows 0 (s.setting 11), run := none }
  have unblocked : (s.watchTest .defrost 13 p none).2 = false := State.watchTest_unblocked (.inr (.inl rfl))
  by_cases hd : s.osc.device.posting = true
  · right
    cases hw : s.watchTest .defrost 13 p none with | mk w b =>
    have same := State.SameTable.watchTest s .defrost 13 p none
    rw [hw] at same unblocked
    obtain rfl : b = false := unblocked
    refine ⟨w, p, fun _ => true, same, ?_⟩
    have core := State.postCore_passes hd hw
    rw [State.defrostApplied, List.filter_true]
    exact congrArg Prod.fst core
  · left
    exact congrArg Prod.fst (if_neg hd)

theorem State.postDefrostBeforeStandby_applied (s : State) : ∃ (w : State) (p : PostArgs) (f : Report → Bool),
    s.SameTable w ∧ s.postDefrostBeforeStandby = w.defrostApplied p f :=
  ⟨_, _, _, State.SameTable.watchTest s .defrost 13 _ none, rfl⟩

/-- What every change of the table in a round keeps, the round keeps: a defrost that waits for the run-on is posted, the
service and standby that wait for it are entered, and a scheduled check may start. -/
theorem State.round_induct {P : State → Prop} (same : ∀ t u : State, t.SameTable u → P t → P u)
    (posted : ∀ t : State, t.frg.defrost.phase = .prepare → P t → P (t.updDefrost fun d => { d with phase := .posted }))
    (applied : ∀ (t w : State) (p : PostArgs) (f : Report → Bool), t.frg.defrost.phase = .prepare → P t →
      (t.updDefrost fun d => { d with phase := .posted }).SameTable w → P (w.defrostApplied p f))
    (standby : ∀ t : State, t.osc.device = .stopping → P t → P t.enterStandby)
    (service : ∀ t : State, t.osc.device = .servicePrepare → P t → P t.enterFilterService)
    (test : ∀ t : State, P t → P t.startTest) (h : P s) : P s.round := by
  have timer (t : State) (ht : P t) : P t.defrostTimerEnd := by
    unfold State.defrostTimerEnd State.tryDefrostPost
    split
    · next hc =>
      obtain ⟨w, p, f, hw, e⟩ := (t.updDefrost fun d => { d with phase := .posted }).postDefrostBeforeStandby_applied
      rw [e]
      exact applied t w p f hc.1 ht hw
    · split
      · next hc =>
        rcases (t.updDefrost fun d => { d with phase := .posted }).postDefrost_applied with e | ⟨w, p, f, hw, e⟩
        · rw [e]
          exact posted t hc.1 ht
        · rw [e]
          exact applied t w p f hc.1 ht hw
      · exact ht
  have ended (t : State) (ht : P t) : P t.runOnEnded := by
    unfold State.runOnEnded
    dsimp only
    split
    · next hd => exact standby _ hd (timer t ht)
    · next hd => exact service _ hd (timer t ht)
    all_goals exact timer t ht
  have cut (t : State) (ht : P t) : P t.cutRunOn := by
    unfold State.cutRunOn
    split
    · exact ht
    · dsimp only
      split
      · exact ended _ (same _ _ ((State.SameTable.updFrg t rfl).trans (.faultEvent _ _ _ _)) ht)
      · exact ht
  exact test _ (cut _ (same _ _ (((State.SameTable.forceRequest s).trans (.of_rests (.serveFans _))).trans (.deriveDuty _)) h))

/-- What a round and the stage keep, the propagation keeps. -/
theorem State.propagate_rounds {P : State → Prop} (stage : ∀ t : State, P t → P t.deriveStage)
    (round : ∀ t : State, P t → P t.round) (h : P s) : P s.propagate := by
  have staged (t : State) (ht : P t) : P t.stagedRound := stage _ (round _ ht)
  exact staged _ (staged _ (staged _ (staged _ (stage _ h))))

theorem State.settleBlocks_rounds {P : State → Prop} (round : ∀ t : State, P t → P t.round) (h : P s) : P s.settleBlocks :=
  round _ (round _ (round _ (round _ h)))

theorem State.propagate_induct {P : State → Prop} (same : ∀ t u : State, t.SameTable u → P t → P u)
    (posted : ∀ t : State, t.frg.defrost.phase = .prepare → P t → P (t.updDefrost fun d => { d with phase := .posted }))
    (applied : ∀ (t w : State) (p : PostArgs) (f : Report → Bool), t.frg.defrost.phase = .prepare → P t →
      (t.updDefrost fun d => { d with phase := .posted }).SameTable w → P (w.defrostApplied p f))
    (standby : ∀ t : State, t.osc.device = .stopping → P t → P t.enterStandby)
    (service : ∀ t : State, t.osc.device = .servicePrepare → P t → P t.enterFilterService)
    (test : ∀ t : State, P t → P t.startTest) (h : P s) : P s.propagate :=
  State.propagate_rounds (fun t ht => same _ _ (.of_rests (.deriveStage t)) ht)
    (fun _ ht => State.round_induct same posted applied standby service test ht) h

end Induction

/-! ### A check that has ended -/

section Ended

variable {s t : State}

theorem State.takeReport_idle (h : s.flt.check.phase = .idle) (q : Report) :
    (s.takeReport q).flt = s.flt ∧ (s.takeReport q).arb = s.arb := by
  unfold State.takeReport
  split
  · unfold State.defrostActive
    split
    · exact ⟨by simp, by simp⟩
    all_goals exact ⟨rfl, rfl⟩
  · unfold State.defrostPreempted
    split <;> exact ⟨rfl, rfl⟩
  · rw [State.trySettle, if_neg (by simp [h])]
    exact ⟨rfl, rfl⟩
  · rw [State.checkPreempted, if_neg (by simp [h])]
    exact ⟨rfl, rfl⟩
  · rw [State.checkFreedByStandby, if_pos h]
    exact ⟨rfl, rfl⟩
  all_goals exact ⟨rfl, rfl⟩

theorem State.takeReports_idle (h : s.flt.check.phase = .idle) (l : List Report) :
    (l.foldl State.takeReport s).flt = s.flt ∧ (l.foldl State.takeReport s).arb = s.arb := by
  induction l generalizing s with
  | nil => exact ⟨rfl, rfl⟩
  | cons q l ih =>
    obtain ⟨flt, arb⟩ := s.takeReport_idle h q
    obtain ⟨flt', arb'⟩ := ih (s := s.takeReport q) (by rwa [flt])
    exact ⟨flt'.trans flt, arb'.trans arb⟩

/-- A change of the table leaves FLT alone while no check is in flight. -/
theorem State.applyArb_idle (h : s.flt.check.phase = .idle) (r : Arb × List Report) :
    (s.applyArb r).flt = s.flt ∧ (s.applyArb r).arb = r.1 := by
  unfold State.applyArb
  dsimp only
  split
  · exact State.takeReports_idle (s := s.updArb fun _ => r.1) h _
  · obtain ⟨flt, arb⟩ := State.takeReports_idle (s := (s.updArb fun _ => r.1).raise .demandChanged (slotCode r.1.active)
      (twoPart r.1.activeLevel (slotCode s.arb.active))) (by simpa using h) (r.2.filter (·.slot.internal))
    exact ⟨flt.trans (by simp), arb.trans (by simp)⟩

/-- A scheduled-start test that finds no check to start (R127). -/
theorem State.startTest_passes
    (h : ¬(s.flt.check.scheduledDue = true ∧ s.flt.check.phase = .idle ∧ s.osc.device = .running)) :
    s.startTest = { s with flt := { s.flt with startTestDue := false } } := by
  unfold State.startTest
  split
  · exact if_neg h
  · next hd =>
    rw [Bool.not_eq_true] at hd
    rw [← hd]

/-- What a propagated change leaves of FLT, the device and FILTER_CHECK's slot when no check is in flight and none starts. -/
structure State.CheckEnded (s t : State) : Prop where
  flt : t.flt = { s.flt with
    serviceTimer := t.flt.serviceTimer, serviceEndDue := t.flt.serviceEndDue, startTestDue := t.flt.startTestDue }
  device : t.osc.device = .running → s.osc.device = .running
  slot : s.arb.table.filterCheck = none → t.arb.table.filterCheck = none
  test : s.flt.startTestDue = false → t.flt.startTestDue = false

theorem State.CheckEnded.refl (s : State) : s.CheckEnded s := ⟨rfl, id, id, id⟩

theorem State.CheckEnded.check (h : s.CheckEnded t) : t.flt.check = s.flt.check := by rw [h.flt]

theorem State.CheckEnded.filter (h : s.CheckEnded t) (i : PathId) : t.flt.filter i = s.flt.filter i := by
  rw [h.flt]
  cases i <;> rfl

/-- A post leaves every other demand what it was, but for a suspension counted. -/
theorem Arb.post_other {a : Arb} {x y : Slot} (hy : y ≠ x) (p : PostArgs) (now : Nat) :
    SameDemand (a.table.get y) ((a.post x p now).1.table.get y) := by
  have posted := a.post_posted x p now
  have filled (d : Demand) (e : Bool) : SameDemand (a.table.get y) ((a.filled x d e).table.get y) := by
    rw [Arb.filled_get_ne _ hy]
    exact .refl _
  have preempted (d : Demand) (e : Bool) (b : Arb) (hb : b.table = (a.filled x d e).table) (o w : Slot) :
      SameDemand (a.table.get y) ((b.preempt o w).1.table.get y) := by
    have same := b.preempt_demand o w y
    rw [hb] at same
    exact (filled d e).trans same
  generalize a.post x p now = r at *
  cases posted with
  | preempts act => exact preempted _ _ _ rfl _ _
  | waits => exact filled (p.demand now) a.expiring
  | overtaken w d =>
    exact preempted (p.renewed d) (a.markAfter x) ((a.filled x (p.renewed d) (a.markAfter x)).leave w) rfl x w
  | overtakes act d =>
    exact preempted (p.renewed d) (a.markAfter x) ((a.filled x (p.renewed d) (a.markAfter x)).leave x) rfl act x
  | stays d => exact filled _ _

theorem Arb.post_free {a : Arb} {x y : Slot} (hy : y ≠ x) (h : a.table.get y = none) (p : PostArgs) (now : Nat) :
    (a.post x p now).1.table.get y = none := by
  have same := a.post_other hy p now
  rw [h] at same
  exact same.of_none

theorem State.CheckEnded.propagate (hi : s.flt.check.phase = .idle)
    (hq : s.flt.check.scheduledDue = false ∨ s.osc.device ≠ .running ∨ s.flt.startTestDue = false) :
    s.CheckEnded s.propagate := by
  have table {t w : State} (h : s.CheckEnded t) (b : Arb × List Report) (ho : w.osc.device = .running → t.osc.device = .running)
      (hf : w.flt = t.flt) (hb : t.arb.table.filterCheck = none → b.1.table.filterCheck = none) :
      s.CheckEnded (w.applyArb b) := by
    obtain ⟨flt, arb⟩ := State.applyArb_idle (s := w) (by rw [hf, h.check, hi]) b
    have osc := (State.TableOnly.applyArb (s := w) b).osc
    exact ⟨by rw [flt, hf]; exact h.flt, fun hd => h.device (ho (by rwa [osc] at hd)),
      fun hs => by rw [arb]; exact hb (h.slot hs), by rw [flt, hf]; exact h.test⟩
  refine State.propagate_induct ?_ ?_ ?_ ?_ ?_ ?_ (.refl s)
  · intro t u hu h
    exact ⟨by rw [hu.flt]; exact h.flt, by rw [hu.osc]; exact h.device, by rw [hu.arb]; exact h.slot,
      by rw [hu.flt]; exact h.test⟩
  · intro t _ h
    exact ⟨h.flt, h.device, h.slot, h.test⟩
  · intro t w p f _ h hw
    refine table h _ (by rw [hw.osc]; exact id) hw.flt fun hs => ?_
    have slot : w.arb.table.get .filterCheck = none := by rw [hw.arb]; exact hs
    exact Arb.post_free (x := .defrost) (y := .filterCheck) (by decide) slot p _
  · intro t hd h
    refine table h ((t.setDevice .standby).arb.enterStandby, []) (by simp) (State.setDevice_flt _ _) fun hs => ?_
    rw [State.setDevice_arb]
    exact hs
  · intro t hd h
    have flt := h.flt
    refine ⟨?_, by simp [State.enterFilterService], ?_, ?_⟩
    · rw [State.enterFilterService, State.updFlt_flt, State.setDevice_flt]
      rw [flt]
    · rw [State.enterFilterService, State.updFlt_arb, State.setDevice_arb]
      exact h.slot
    · rw [State.enterFilterService, State.updFlt_flt, State.setDevice_flt]
      exact h.test
  · intro t h
    have flt := h.flt
    have passes (pass : t.startTest = { t with flt := { t.flt with startTestDue := false } }) :
        s.CheckEnded t.startTest := by
      rw [pass]
      exact ⟨by rw [flt], h.device, h.slot, fun _ => rfl⟩
    rcases hq with hq | hq | hq
    · exact passes (State.startTest_passes (by simp [h.check, hq]))
    · exact passes (State.startTest_passes fun hc => hq (h.device hc.2.2))
    · rw [State.startTest_notDue (h.test hq)]
      exact h

end Ended

/-! ### A check that has started -/

section Flying

variable {s t : State} {c : CheckTrigger} {k : Demand}

/-- A check in flight since its start by `c`, with the demand `k` in its slot. At most the post of a defrost that waits for
the run-on has suspended it. -/
structure State.CheckFlies (c : CheckTrigger) (k : Demand) (t : State) : Prop where
  trigger : t.flt.check.trigger = some c
  scheduled : t.flt.check.scheduledDue = false
  hours : t.flt.check.hoursSinceCheck = 0
  phase : t.flt.check.phase = .waiting ∨ t.flt.check.phase = .settle
  suspended : t.flt.check.suspensions = 0 ∨ t.flt.check.suspensions = 1 ∧ t.frg.defrost.phase ≠ .prepare
  slot : SameDemand (some k) (t.arb.table.get .filterCheck)

theorem State.CheckFlies.of_same {u : State} (h : s.CheckFlies c k) (hc : u.flt.check = s.flt.check)
    (ha : u.arb.table.get .filterCheck = s.arb.table.get .filterCheck)
    (hd : s.frg.defrost.phase ≠ .prepare → u.frg.defrost.phase ≠ .prepare) : u.CheckFlies c k :=
  ⟨by rw [hc]; exact h.trigger, by rw [hc]; exact h.scheduled, by rw [hc]; exact h.hours, by rw [hc]; exact h.phase,
    by rw [hc]; exact h.suspended.imp_right fun ⟨h1, h2⟩ => ⟨h1, hd h2⟩, by rw [ha]; exact h.slot⟩

theorem State.takeReport_flies (h : s.CheckFlies c k) {q : Report}
    (hq : q.kind = .active ∨ q.kind = .suspended ∧ s.flt.check.suspensions = 0 ∧ s.frg.defrost.phase ≠ .prepare) :
    (s.takeReport q).CheckFlies c k := by
  unfold State.takeReport
  split
  · unfold State.defrostActive
    split
    · exact h.of_same (by simp) (by simp) (by simp)
    · exact h.of_same rfl rfl (by simp)
    all_goals exact h
  · unfold State.defrostPreempted
    split
    case h_1 | h_2 => exact h.of_same rfl rfl (by simp)
    all_goals exact h
  · unfold State.trySettle
    split
    · exact ⟨h.trigger, h.scheduled, h.hours, .inr rfl, h.suspended, h.slot⟩
    · exact h
  · next hk _ =>
    obtain ⟨-, none, posted⟩ := hq.resolve_left (by rw [hk]; decide)
    unfold State.checkPreempted
    split
    · have once : bump s.flt.check.suspensions Config.checkSuspensions = 1 := by rw [none]; rfl
      dsimp only
      rw [if_neg]
      · exact ⟨h.trigger, h.scheduled, h.hours, .inl rfl, .inr ⟨once, posted⟩, h.slot⟩
      · change ¬Config.checkSuspensions ≤ bump s.flt.check.suspensions Config.checkSuspensions
        rw [once]
        decide
    · exact h
  · next hk _ => rcases hq with hq | ⟨hq, -⟩ <;> rw [hk] at hq <;> cases hq
  all_goals exact h.of_same rfl rfl id

/-- Reports of a post: at most one suspension, and before it none has been counted. -/
theorem State.takeReports_flies (h : s.CheckFlies c k) (hz : s.flt.check.suspensions = 0 ∧ s.frg.defrost.phase ≠ .prepare)
    (o x : Slot) (g : Report → Bool) :
    (([⟨.suspended, o⟩, ⟨.active, x⟩].filter g).foldl State.takeReport s).CheckFlies c k := by
  have first := State.takeReport_flies (q := ⟨.suspended, o⟩) h (.inr ⟨rfl, hz⟩)
  cases g1 : g ⟨.suspended, o⟩ <;> cases g2 : g ⟨.active, x⟩ <;> simp only [List.filter_cons, g1, g2, List.filter_nil]
  · exact h
  · exact State.takeReport_flies h (.inl rfl)
  · exact first
  · exact State.takeReport_flies first (.inl rfl)

/-- A post that suspends one slot reports it and the one that takes over. -/
theorem Arb.post_suspends (a : Arb) (x : Slot) (p : PostArgs) (now : Nat) :
    (a.post x p now).2 = [] ∨ ∃ o y, (a.post x p now).2 = [⟨.suspended, o⟩, ⟨.active, y⟩] := by
  have posted := a.post_posted x p now
  generalize a.post x p now = r at *
  cases posted with
  | preempts act => exact .inr ⟨_, _, rfl⟩
  | waits => exact .inl rfl
  | overtaken w d => exact .inr ⟨_, _, rfl⟩
  | overtakes act d => exact .inr ⟨_, _, rfl⟩
  | stays d => exact .inl rfl

/-- A change of the table that keeps FILTER_CHECK's demand and reports a post, or part of it. -/
theorem State.CheckFlies.applyArb (h : s.CheckFlies c k)
    (hz : s.flt.check.suspensions = 0 ∧ s.frg.defrost.phase ≠ .prepare) {b : Arb}
    (hb : SameDemand (some k) (b.table.get .filterCheck)) {l : List Report}
    (hl : l = [] ∨ ∃ o y, l = [⟨.suspended, o⟩, ⟨.active, y⟩]) (f : Report → Bool) :
    (s.applyArb (b, l.filter f)).CheckFlies c k := by
  have moved : State.CheckFlies c k (s.updArb fun _ => b) :=
    ⟨h.trigger, h.scheduled, h.hours, h.phase, h.suspended, hb⟩
  have told (t : State) (ht : t.CheckFlies c k) (hc : t.flt.check.suspensions = 0 ∧ t.frg.defrost.phase ≠ .prepare) :
      (((l.filter f).filter (·.slot.internal)).foldl State.takeReport t).CheckFlies c k := by
    rcases hl with rfl | ⟨o, y, rfl⟩
    · exact ht
    · rw [List.filter_filter]
      exact State.takeReports_flies ht hc o y _
  unfold State.applyArb
  dsimp only
  split
  · exact told _ moved hz
  · exact told _ (moved.of_same (by simp) (by simp) (by simp)) ⟨by simpa using hz.1, by simpa using hz.2⟩

theorem State.CheckFlies.propagate (h : s.CheckFlies c k) : s.propagate.CheckFlies c k := by
  refine State.propagate_induct ?_ ?_ ?_ ?_ ?_ ?_ h
  · intro t u hu h
    exact h.of_same (by rw [hu.flt]) (by rw [hu.arb]) (by rw [hu.defrost]; exact id)
  · intro t hp h
    exact h.of_same rfl rfl (by simp)
  · intro t w p f hp h hw
    have fresh : t.flt.check.suspensions = 0 := h.suspended.resolve_right fun hs => hs.2 hp
    have posted : w.frg.defrost.phase ≠ .prepare := by
      rw [hw.defrost]
      simp
    have same : w.CheckFlies c k := h.of_same (by rw [hw.flt]; rfl) (by rw [hw.arb]; rfl) fun _ => posted
    exact same.applyArb ⟨by rw [hw.flt]; exact fresh, posted⟩
      (same.slot.trans (Arb.post_other (x := .defrost) (by decide) p _)) (Arb.post_suspends _ _ _ _) f
  · intro t hd h
    have stopped : (t.setDevice .standby).CheckFlies c k := h.of_same (by simp) (by simp) (by simp)
    rw [State.enterStandby, State.applyArb]
    dsimp only
    rw [List.filter_nil, List.foldl_nil]
    split
    · exact stopped.of_same rfl (by rw [State.setDevice_arb]; rfl) id
    · exact stopped.of_same (by simp) (by simp [Arb.enterStandby]) (by simp)
  · intro t hd h
    exact h.of_same (by simp [State.enterFilterService]) (by simp [State.enterFilterService]) (by simp [State.enterFilterService])
  · intro t h
    rw [State.startTest_passes (by simp [h.scheduled])]
    exact h.of_same rfl rfl id

/-- A post that is answered OK takes effect behind the watch. -/
theorem State.postCore_ok {x : Slot} {n : Nat} {p : PostArgs} {l : Option Link} {w : State}
    (h : s.postCore x n p l = (w, .ok)) : ∃ v : State, s.SameTable v ∧ v.frg = s.frg
      ∧ w = v.applyArb (v.arb.post x p v.osc.uptime) := by
  by_cases hd : s.osc.device.posting = true
  · have same := State.SameTable.watchTest s x n p l
    have frg := (s.watchTest_same x n p l).2.2
    cases hw : s.watchTest x n p l with | mk v b =>
    rw [hw] at same frg
    cases b with
    | true =>
      have blocked := (State.postCore_blocked hd hw).symm.trans h
      cases congrArg Prod.snd blocked
    | false => exact ⟨v, same, frg, (congrArg Prod.fst ((State.postCore_passes hd hw).symm.trans h)).symm⟩
  · have refused : s.postCore x n p l = (s, .refusedState) := if_neg hd
    cases congrArg Prod.snd (refused.symm.trans h)

/-- The demand of a filter check (R128). -/
def State.checkDemand (s : State) : Demand :=
  (internalArgs 6 (.flows (s.setting 10) (s.setting 10)) none).record (s.arb.table.get .filterCheck) s.osc.uptime

theorem State.checkDemand_eq (s : State) : s.checkDemand.level = 6 ∧ s.checkDemand.origin = .internal
    ∧ s.checkDemand.carry = .flows (s.setting 10) (s.setting 10) ∧ s.checkDemand.run = none := by
  obtain ⟨h1, h2, h3, h4, -⟩ := (internalArgs 6 (.flows (s.setting 10) (s.setting 10)) none).record_eq
    (s.arb.table.get .filterCheck) s.osc.uptime
  exact ⟨h1, h2, h3, h4⟩

/-- The post of a check that starts: its record is the new one, and its slot is held. -/
theorem State.checkPost_made (hi : s.flt.check.phase = .idle) {w : State} (hw : s.checkPost c = (w, .ok)) :
    w.flt = { s.flt with check := s.flt.check.started c } ∧ SameDemand (some s.checkDemand) (w.arb.table.get .filterCheck)
      ∧ w.frg.imbalance = s.frg.imbalance := by
  obtain ⟨v, same, frg, rfl⟩ := State.postCore_ok hw
  obtain ⟨flt, arb⟩ := State.applyArb_idle (s := v) (by rw [same.flt]; exact hi)
    (v.arb.post .filterCheck (internalArgs 6 (.flows (s.setting 10) (s.setting 10)) none) v.osc.uptime)
  refine ⟨flt.trans same.flt, ?_, ?_⟩
  · have record := v.arb.post_record .filterCheck (internalArgs 6 (.flows (s.setting 10) (s.setting 10)) none) v.osc.uptime
    have args : (internalArgs 6 (.flows (s.setting 10) (s.setting 10)) none).record (v.arb.table.get .filterCheck) v.osc.uptime
        = s.checkDemand := by
      rw [same.arb, same.osc]
      rfl
    rw [args, ← arb] at record
    exact record
  · have kept := (State.TableOnly.applyArb (s := v)
      (v.arb.post .filterCheck (internalArgs 6 (.flows (s.setting 10) (s.setting 10)) none) v.osc.uptime)).frg
    have imbalance : v.frg.imbalance = s.frg.imbalance := by
      rw [frg]
      rfl
    exact (congrArg Frg.imbalance kept).trans imbalance

theorem State.filterSensorFaulted_eq (s : State) : s.filterSensorFaulted = true
    ↔ s.flt.supply.sensor = .faulted ∨ s.flt.extract.sensor = .faulted := by
  simp [State.filterSensorFaulted]

theorem State.filterSensors_sound (h1 : s.flt.supply.sensor ≠ .faulted) (h2 : s.flt.extract.sensor ≠ .faulted) :
    s.filterSensorFaulted = false := by
  rw [← Bool.not_eq_true, State.filterSensorFaulted_eq]
  tauto

/-- A check that starts: the post, then WAITING or SETTLE (R127, R129). -/
theorem State.startCheck_starts (hs : s.filterSensorFaulted = false) {u : State} (hu : s.startCheck c = (u, .ok)) :
    ∃ w, s.checkPost c = (w, .ok) ∧ u = (w.updCheck fun k => { k with phase := .waiting }).trySettle := by
  cases hw : s.checkPost c with | mk w a =>
  by_cases ha : a = .ok
  · subst ha
    exact ⟨w, rfl, (congrArg Prod.fst ((State.startCheck_posted hs hw).symm.trans hu)).symm⟩
  · exact absurd (congrArg Prod.snd ((State.startCheck_undone hs hw ha).symm.trans hu)) ha

theorem State.trySettle_flies (h : s.CheckFlies c k) : s.trySettle.CheckFlies c k :=
  State.takeReport_flies (q := ⟨.active, .filterCheck⟩) h (.inl rfl)

theorem State.startCheck_flies (hi : s.flt.check.phase = .idle) (hs : s.filterSensorFaulted = false) {u : State}
    (hu : s.startCheck c = (u, .ok)) : u.CheckFlies c s.checkDemand := by
  obtain ⟨w, hw, rfl⟩ := State.startCheck_starts hs hu
  obtain ⟨flt, slot, -⟩ := State.checkPost_made hi hw
  refine State.trySettle_flies ⟨?_, ?_, ?_, .inl rfl, .inl ?_, slot⟩
  all_goals rw [State.updCheck_flt, flt]
  all_goals rfl

/-- A check whose post the watch lets through starts. -/
theorem State.startCheck_unwatched (hd : s.osc.device.posting = true) (hs : s.filterSensorFaulted = false)
    (hw : s.arb.watch.hits .filterCheck (s.arb.isFree .filterCheck) 6 = false) (c : CheckTrigger) :
    ∃ u, s.startCheck c = (u, .ok) :=
  ⟨_, State.startCheck_posted hs (State.internalPost_missed (s := s.updCheck (·.started c)) hd hw)⟩

theorem Watch.hits_disabled {w : Watch} (h : w.enabled = false) (x : Slot) (b : Bool) (n : Nat) :
    w.hits x b n = false := by
  simp [Watch.hits, h]

theorem State.CheckFlies.demand (h : t.CheckFlies c s.checkDemand) : ∃ d, t.arb.table.filterCheck = some d ∧ d.level = 6
    ∧ d.origin = .internal ∧ d.carry = .flows (s.setting 10) (s.setting 10) ∧ d.run = none := by
  obtain ⟨d, hd, h1, h2, h3, h4, -⟩ := h.slot.of_some
  obtain ⟨e1, e2, e3, e4⟩ := s.checkDemand_eq
  exact ⟨d, hd, h1.trans e1, h2.trans e2, h3.trans e3, h4.trans e4⟩

end Flying

end Sys2Proof.Machine

end

section
/-! Good running and shortfall of a path, and CHECK_FILTERS. -/

open Sys2Proof Sys2Proof.Machine

namespace Sys2Proof.Machine

section Prompts

variable {s : State} {i : PathId}

theorem SettledFrom.onSup {a : List Slot} {t : State} (h : SettledFrom a s t) (b : Sup) :
    SettledFrom a { s with sup := b } { t with sup := b } :=
  { h with flags := fun _ _ _ => rfl, flagsStay := fun _ hg => hg, capture := fun _ => rfl, owner := rfl }

/-- A path that keeps its state moves without a notice. -/
theorem State.movePath_quiet {p : FanPath} (h : p.state = (s.afc.path i).state) :
    s.movePath i p = { s with afc := s.afc.setPath i p } := if_pos h

theorem State.shortfallPrompt_quiet (h : s.osc.device ≠ .running ∨ s.flt.check.phase ≠ .idle
    ∨ ∃ u, s.flt.check.lastCompleted = some u ∧ s.osc.uptime - u < 3600) : s.shortfallPrompt = s := by
  refine if_neg ?_
  rintro ⟨running, idle, recent⟩
  rcases h with h | h | ⟨u, h, hu⟩
  · exact h running
  · exact h idle
  · simp only [h, Config.shortfallQuiet] at recent
    exact of_decide_eq_false recent hu

theorem State.shortfallPrompt_starts (hd : s.osc.device = .running) (hi : s.flt.check.phase = .idle)
    (hu : ∀ u, s.flt.check.lastCompleted = some u → 3600 ≤ s.osc.uptime - u) :
    s.shortfallPrompt = (s.startCheck .shortfall).1 := by
  refine if_pos ⟨hd, hi, ?_⟩
  cases h : s.flt.check.lastCompleted with
  | none => rfl
  | some u =>
    have := hu u h
    exact decide_eq_false (by rw [Config.shortfallQuiet]; omega)

/-- A path whose shortfall stands (R42). -/
def FanPath.shortStands (p : FanPath) : FanPath := { p with shortfallStanding := true }

/-- The shortfall of a path up to its prompt: the shortfall stands, its flag is set and its notice raised (R42). -/
def State.shortfallNoted (s : State) (i : PathId) : State :=
  ((s.movePath i (s.afc.path i).shortStands).setFlag (shortfallFlag i)).raise .flowShortfall
    (pathCode i) ((s.afc.path i).flow.getD 0)

theorem State.movePath_shortStands (s : State) (i : PathId) : s.movePath i (s.afc.path i).shortStands
    = { s with afc := s.afc.setPath i (s.afc.path i).shortStands } := State.movePath_quiet rfl

theorem State.shortfallNoted_settled (s : State) (i : PathId) : SettledFrom []
    { s with sup := { s.sup with flags := s.sup.flags.put (shortfallFlag i) true } } (s.shortfallNoted i) := by
  refine SettledFrom.next ?_ (.raise _ _ _ _)
  have moved := (SettledFrom.movePath s i (s.afc.path i).shortStands
    ⟨rfl, rfl, rfl, rfl, rfl, rfl, rfl, rfl⟩).onSup { s.sup with flags := s.sup.flags.put (shortfallFlag i) true }
  rw [State.movePath_shortStands] at moved ⊢
  exact moved

theorem State.shortfallNoted_same (s : State) (i : PathId) : s.SameTable (s.shortfallNoted i)
    ∧ (s.shortfallNoted i).frg = s.frg := by
  rw [State.shortfallNoted, State.movePath_shortStands]
  exact ⟨⟨by simp, by simp, by simp, by simp⟩, by simp⟩

end Prompts

end Sys2Proof.Machine

/-- Settles O35. -/
theorem goodTimeAndShortfall : Obligations.GoodTimeAndShortfall := by
  intro s i
  refine ⟨fun ht hg => ?_, fun q target h1 h2 h3 h4 h5 h6 => ?_⟩
  · refine (if_pos ⟨ht, hg⟩).trans (congrArg Host.Outcome.next ?_)
    exact State.movePath_quiet (p := { s.afc.path i with retryCount := 0, goodTiming := false }) rfl
  · have short : (s.afc.path i).shortCond = true := by simp [FanPath.shortCond, h3, h4, h5, h6]
    have row : exec (.shortfallReported i) s = .next (s.shortfallNoted i).shortfallPrompt.propagate :=
      if_pos ⟨h1, h2, short⟩
    have noted := s.shortfallNoted_settled i
    obtain ⟨same, frg⟩ := s.shortfallNoted_same i
    have hd (h : s.osc.device = .running) : (s.shortfallNoted i).osc.device = .running := by rwa [same.osc]
    generalize s.shortfallNoted i = u at *
    have prompted : SettledFrom [] u u.shortfallPrompt := by
      unfold State.shortfallPrompt
      dsimp only
      split_ifs
      · exact .startCheck _ _
      · exact .refl _ _
    have settled := (noted.next prompted).next (.propagate _)
    have quiet (h : s.osc.device ≠ .running ∨ s.flt.check.phase ≠ .idle
        ∨ ∃ k, s.flt.check.lastCompleted = some k ∧ s.osc.uptime - k < 3600) (hs : s.atRest) :
        u.shortfallPrompt.propagate.flt = s.flt ∧ u.shortfallPrompt.propagate.arb = s.arb := by
      rw [State.shortfallPrompt_quiet (by rwa [same.osc, same.flt])]
      have rests := State.Rests.propagate (s := u) (by rw [State.atRest, frg, same.flt]; exact hs)
      exact ⟨rests.flt.trans same.flt, rests.arb.trans same.arb⟩
    have starts (hd : s.osc.device = .running) (hi : s.flt.check.phase = .idle)
        (hl : ∀ k, s.flt.check.lastCompleted = some k → 3600 ≤ s.osc.uptime - k) (e1 : s.flt.supply.sensor ≠ .faulted)
        (e2 : s.flt.extract.sensor ≠ .faulted) (hw : s.arb.watch.enabled = false) :
        u.shortfallPrompt.propagate.CheckFlies .shortfall u.checkDemand := by
      obtain ⟨v, hv⟩ := State.startCheck_unwatched (s := u) (by rw [same.osc, hd]; rfl)
        (State.filterSensors_sound (by rwa [same.flt]) (by rwa [same.flt]))
        (Watch.hits_disabled (by rwa [same.arb]) _ _ _) .shortfall
      rw [State.shortfallPrompt_starts (by rwa [same.osc]) (by rwa [same.flt]) (by rwa [same.flt, same.osc]), hv]
      exact (State.startCheck_flies (by rwa [same.flt]) (State.filterSensors_sound (by rwa [same.flt]) (by rwa [same.flt]))
        hv).propagate
    generalize u.shortfallPrompt.propagate = t at *
    refine ⟨t, row, settled, quiet, fun hd hi hl e1 e2 hw => ?_⟩
    have flies := starts hd hi hl e1 e2 hw
    refine ⟨flies.trigger, flies.phase, ?_⟩
    have demand := flies.demand
    have setting : u.setting 10 = s.setting 10 := by rw [State.setting, State.setting, same.osc]
    rwa [setting] at demand

end

section
/-! CHECK_FILTERS. -/

open Sys2Proof Sys2Proof.Machine

namespace Sys2Proof.Machine

section Requested

variable {s : State} {c : CheckTrigger}

/-- A check that finds a FAULTED filter sensor ends at once (R127, log 36). -/
theorem State.startCheck_faulted_ends (h : s.filterSensorFaulted = true) {u : State} {a : PostAnswer}
    (hu : s.startCheck c = (u, a)) : a = .ok ∧ u.flt.check.phase = .idle ∧ u.flt.check.outcome = some .sensorFault
      ∧ u.flt.check.trigger = some c ∧ u.flt.check.scheduledDue = false ∧ u.flt.check.hoursSinceCheck = 0
      ∧ u.flt.supply.lastOutcome = some .sensorFault ∧ u.flt.extract.lastOutcome = some .sensorFault := by
  rw [State.startCheck_faulted h] at hu
  obtain ⟨rfl, rfl⟩ := Prod.mk.inj hu
  rw [State.raiseFilterResult, State.raise_flt]
  exact ⟨rfl, rfl, rfl, rfl, rfl, rfl, rfl, rfl⟩

/-- A check whose post the watch blocks is undone; the match is captured or counted (log 34). -/
theorem State.startCheck_blocked (hd : s.osc.device.posting = true) (hs : s.filterSensorFaulted = false)
    (hits : s.arb.watch.hits .filterCheck (s.arb.isFree .filterCheck) 6 = true) (block : s.arb.watch.action = .block)
    (hk : ∀ k, s.sup.capture = some k → k.isFault = false) :
    ∃ v, s.startCheck c = (v, .blocked) ∧ { v with sup := s.sup, lnk := s.lnk } = s
      ∧ (∀ n, v.lnk.link n = s.lnk.link n) ∧ v.lnk.restarting = s.lnk.restarting
      ∧ (s.sup.capture = none → v.sup.capture = some
          (.watch .filterCheck .internal 6 6 (s.setting 10) (s.setting 10) none s.osc.uptime) ∧ v.sup.missed = 0)
      ∧ (s.sup.capture ≠ none → v.sup = { s.sup with missed := min (s.sup.missed + 1) 255 }) := by
  let args := internalArgs 6 (.flows (s.setting 10) (s.setting 10)) none
  have watched := State.watchTest_matched (s := s.updCheck (·.started c)) (x := .filterCheck) (n := 6) (p := args)
    (l := none) hits hk
  have blocks : ((s.updCheck (·.started c)).arb.watch.action == .block && Slot.filterCheck != .defrost
      && Slot.filterCheck != .fire) = true := by
    have action : (s.updCheck (·.started c)).arb.watch.action = .block := block
    rw [action]
    rfl
  rw [blocks] at watched
  have refused : s.checkPost c = (_, .blocked) := State.postCore_blocked (s := s.updCheck (·.started c)) hd watched
  have undone := State.startCheck_undone hs refused (by simp)
  obtain ⟨same, links, restarting, armed, held⟩ := (s.updCheck (·.started c)).offerCapture_taken
    (args.capture .filterCheck 6 none (s.updCheck (·.started c)).osc.uptime)
  generalize (s.updCheck (·.started c)).offerCapture _ = w at *
  refine ⟨_, undone, ?_, links, restarting, armed, fun hc => congrArg State.sup (held hc)⟩
  have := congrArg (fun z : State => z.updCheck fun _ => s.flt.check) same
  exact this

/-- A check that starts, or ends at once, with what follows (R127). -/
theorem State.startCheck_runs (hd : s.osc.device = .running) (hi : s.flt.check.phase = .idle)
    (hc : s.flt.supply.sensor = .faulted ∨ s.flt.extract.sensor = .faulted
      ∨ s.arb.watch.hits .filterCheck (s.arb.isFree .filterCheck) 6 = false) {v t : State} {a : PostAnswer}
    (hv : s.startCheck c = (v, a)) (ht : v.propagate = t) :
    a = .ok ∧ SettledFrom [] s t ∧ t.flt.check.trigger = some c ∧ t.flt.check.scheduledDue = false
      ∧ t.flt.check.hoursSinceCheck = 0
      ∧ ((s.flt.supply.sensor = .faulted ∨ s.flt.extract.sensor = .faulted) →
        t.flt.check.phase = .idle ∧ t.flt.check.outcome = some .sensorFault
          ∧ t.flt.supply.lastOutcome = some .sensorFault ∧ t.flt.extract.lastOutcome = some .sensorFault)
      ∧ (s.flt.supply.sensor ≠ .faulted → s.flt.extract.sensor ≠ .faulted → t.CheckFlies c s.checkDemand) := by
  have settled : SettledFrom [] s t := by
    have started := SettledFrom.startCheck s c
    rw [hv] at started
    exact ht ▸ started.next (.propagate _)
  cases hf : s.filterSensorFaulted with
  | true =>
    have faulted := (State.filterSensorFaulted_eq s).mp hf
    obtain ⟨ok, phase, outcome, trigger, due, hours, supply, extract⟩ := State.startCheck_faulted_ends hf hv
    have ended := State.CheckEnded.propagate phase (.inl due)
    rw [ht] at ended
    have sup : t.flt.supply = v.flt.supply := ended.filter .supply
    have ext : t.flt.extract = v.flt.extract := ended.filter .extract
    rw [ended.check, sup, ext]
    exact ⟨ok, settled, trigger, due, hours, fun _ => ⟨phase, outcome, supply, extract⟩,
      fun e1 e2 => absurd faulted (not_or.mpr ⟨e1, e2⟩)⟩
  | false =>
    have sound : ¬(s.flt.supply.sensor = .faulted ∨ s.flt.extract.sensor = .faulted) := by
      rw [← State.filterSensorFaulted_eq, hf]
      decide
    obtain ⟨e1, e2⟩ := not_or.mp sound
    obtain ⟨u, hu⟩ := State.startCheck_unwatched (by rw [hd]; rfl) hf ((hc.resolve_left e1).resolve_left e2) c
    obtain ⟨rfl, rfl⟩ := Prod.mk.inj (hu.symm.trans hv)
    have flies := (State.startCheck_flies hi hf hu).propagate
    rw [ht] at flies
    exact ⟨rfl, settled, flies.trigger, flies.scheduled, flies.hours, fun h => absurd h sound, fun _ _ => flies⟩

theorem actCheckFilters_starts (hd : s.osc.device = .running) {o : Origin} (ho : o ≠ .occupant)
    (hi : s.flt.check.phase = .idle) {v t : State} {a : PostAnswer} (hv : s.startCheck .requested = (v, a))
    (ht : v.propagate = t) : actCheckFilters s o []
      = (t, ⟨postResult a false, u8 t.flt.check.phase.code ++ u8 (outcomeCode t.flt.check.outcome)⟩) := by
  refine (if_neg (not_not.mpr hd)).trans ((requireOrigin_from (Origin.system_le ho)).trans
    ((if_neg (not_not.mpr hi)).trans ?_))
  dsimp only
  rw [hv, ht]

/-- A check whose post the watch blocks, with what follows. -/
theorem State.startCheck_refused (hd : s.osc.device = .running) (hi : s.flt.check.phase = .idle)
    (hq : s.flt.startTestDue = false) (h1 : s.flt.supply.sensor ≠ .faulted) (h2 : s.flt.extract.sensor ≠ .faulted)
    (hits : s.arb.watch.hits .filterCheck (s.arb.isFree .filterCheck) 6 = true) (block : s.arb.watch.action = .block)
    (hk : ∀ k, s.sup.capture = some k → k.isFault = false) {v t : State} {a : PostAnswer}
    (hv : s.startCheck c = (v, a)) (ht : v.propagate = t) :
    a = .blocked ∧ SettledFrom [] { s with sup := t.sup } t ∧ t.flt.check = s.flt.check
      ∧ (s.sup.capture = none → t.sup.capture
        = some (.watch .filterCheck .internal 6 6 (s.setting 10) (s.setting 10) none s.osc.uptime))
      ∧ (s.sup.capture ≠ none → t.sup.capture = s.sup.capture)
      ∧ (s.atRest → t.arb = s.arb ∧ t.flt = s.flt
        ∧ t.sup.missed = if s.sup.capture = none then 0 else min (s.sup.missed + 1) 255) := by
  obtain ⟨w, hw, same, links, restarting, armed, held⟩ := State.startCheck_blocked (c := c) (by rw [hd]; rfl)
    (State.filterSensors_sound h1 h2) hits block hk
  obtain ⟨rfl, rfl⟩ := Prod.mk.inj (hw.symm.trans hv)
  have flt : w.flt = s.flt := by rw [← same]
  have arb : w.arb = s.arb := by rw [← same]
  have frg : w.frg = s.frg := by rw [← same]
  have ended := State.CheckEnded.propagate (s := w) (by rw [flt]; exact hi) (.inr (.inr (by rw [flt]; exact hq)))
  have settled := SettledFrom.propagate w
  have rests (hs : s.atRest) := State.Rests.propagate (s := w) (by rw [State.atRest, frg, flt]; exact hs)
  rw [ht] at ended settled rests
  have based : SettledFrom [] { s with sup := w.sup } w := by
    have shown : { w with lnk := s.lnk } = { s with sup := w.sup } := congrArg (fun z : State => { z with sup := w.sup }) same
    rw [← shown]
    exact { SettledFrom.refl [] w with links := ⟨links .main, links .service, restarting⟩ }
  refine ⟨rfl, (based.next settled).ownSup, by rw [ended.check, flt], fun hc => ?_, fun hc => ?_, fun hs => ?_⟩
  · rw [settled.capture (by simp [(armed hc).1]), (armed hc).1]
  · have kept : w.sup.capture = s.sup.capture := by rw [held hc]
    rw [settled.capture (by rwa [kept]), kept]
  · have rest := rests hs
    refine ⟨rest.arb.trans arb, rest.flt.trans flt, ?_⟩
    have missed : t.sup.missed = w.sup.missed := by rw [rest.sup]
    rw [missed]
    by_cases hc : s.sup.capture = none
    · rw [if_pos hc, (armed hc).2]
    · rw [if_neg hc, held hc]

end Requested

end Sys2Proof.Machine

/-- Settles O21. -/
theorem checkFiltersStarts : Obligations.CheckFiltersStarts := by
  intro l s f o h
  refine ⟨fun hd => ?_, fun hd ho => ?_, fun hd ho hi => ?_, fun hd ho hi hc => ?_, fun hd ho hi ht h1 h2 hits block noFault => ?_⟩
  · exact congrArg Host.Outcome.next (h.answers (if_pos hd))
  · subst ho
    exact congrArg Host.Outcome.next (h.answers ((if_neg (not_not.mpr hd)).trans (requireOrigin_below (by decide))))
  · exact congrArg Host.Outcome.next (h.answers ((if_neg (not_not.mpr hd)).trans
      ((requireOrigin_from (Origin.system_le ho)).trans (if_pos hi))))
  · cases hv : (s.handed l).startCheck .requested with | mk v a =>
    generalize ht : v.propagate = t
    have taken := actCheckFilters_starts (s := s.handed l) hd ho hi hv ht
    obtain ⟨rfl, settled, trigger, due, hours, faulted, flies⟩ := State.startCheck_runs (s := s.handed l) hd hi hc hv ht
    have quiet : t.lnk.restarting = none := settled.restarting.trans (State.handed_restarting.trans h.notRestarting)
    exact ⟨t.holding l f, congrArg Host.Outcome.next (h.leads quiet taken), State.holding_nextFrame h.1 settled, trigger,
      due, hours, faulted, fun e1 e2 => ⟨(flies e1 e2).phase, (flies e1 e2).demand⟩⟩
  · cases hv : (s.handed l).startCheck .requested with | mk v a =>
    generalize hp : v.propagate = t
    have taken := actCheckFilters_starts (s := s.handed l) hd ho hi hv hp
    obtain ⟨rfl, settled, check, armed, held, rest⟩ :=
      State.startCheck_refused (s := s.handed l) hd hi ht h1 h2 hits block noFault hv hp
    have quiet : t.lnk.restarting = none := settled.restarting.trans (State.handed_restarting.trans h.notRestarting)
    have reply : u8 t.flt.check.phase.code ++ u8 (outcomeCode t.flt.check.outcome)
        = u8 0 ++ u8 (outcomeCode s.flt.check.outcome) := by
      have checked : t.flt.check = s.flt.check := check
      rw [checked, hi]
      rfl
    rw [reply] at taken
    exact ⟨t.holding l f, congrArg Host.Outcome.next (h.leads quiet taken),
      State.holding_nextFrame (s := { s with sup := t.sup }) h.1 settled, check, armed, held, rest⟩

end

section
/-! The phases of a filter check. -/

open Sys2Proof Sys2Proof.Machine

namespace Sys2Proof.Machine

section Phases

variable {s : State}

/-! ### A check that is abandoned -/

/-- FLT after a check in flight has been abandoned with `o` (R133). -/
def Flt.abandoned (t : Flt) (o : CheckOutcome) : Flt :=
  { t with
    supply := { t.supply with lastOutcome := some o }
    extract := { t.extract with lastOutcome := some o }
    check := Check.discard { t.check with outcome := some o, phase := .idle }
    startTestDue := true }

theorem State.abandonCheck_flies (h : s.flt.check.phase ≠ .idle) (o : CheckOutcome) :
    (s.abandonCheck o).flt = s.flt.abandoned o ∧ (s.abandonCheck o).arb = (s.arb.free .filterCheck).1 := by
  have shown : s.abandonCheck o
      = ((({ s with flt := s.flt.abandoned o } : State).withdraw .filterCheck)).raiseFilterResult := if_neg h
  obtain ⟨flt, arb⟩ := State.applyArb_idle (s := { s with flt := s.flt.abandoned o }) rfl (s.arb.free .filterCheck)
  rw [shown, State.raiseFilterResult, State.raise_flt, State.raise_arb]
  exact ⟨flt, arb⟩

theorem SettledFrom.abandonCheck (s : State) (o : CheckOutcome) : SettledFrom [] s (s.abandonCheck o) := by
  unfold State.abandonCheck
  split
  · exact .refl _ _
  · exact ((((SettledFrom.recordCheckEnd s o).next (.updCheck _ _)).next
      ((SettledFrom.withdraw _ _).forget (.inl rfl))).next (.raiseFilterResult _))

/-- An abandoned check with what follows, where no scheduled one starts. -/
theorem State.abandonCheck_ended (h : s.flt.check.phase ≠ .idle) (hq : s.flt.check.scheduledDue = false)
    (o : CheckOutcome) {t : State} (ht : t = (s.abandonCheck o).propagate) :
    t.flt.check.phase = .idle ∧ t.flt.check.outcome = some o ∧ t.flt.check.samples = 0
      ∧ t.flt.supply.lastOutcome = some o ∧ t.flt.extract.lastOutcome = some o ∧ t.arb.table.filterCheck = none := by
  obtain ⟨flt, arb⟩ := State.abandonCheck_flies h o
  have ended := State.CheckEnded.propagate (s := s.abandonCheck o) (by rw [flt]; rfl) (.inl (by rw [flt]; exact hq))
  have slot : (s.abandonCheck o).arb.table.filterCheck = none := by
    rw [arb]
    exact s.arb.free_get_self .filterCheck
  rw [← ht] at ended
  have sup : t.flt.supply = _ := ended.filter .supply
  have ext : t.flt.extract = _ := ended.filter .extract
  refine ⟨?_, ?_, ?_, ?_, ?_, ended.slot slot⟩
  · rw [ended.check, flt]
    rfl
  · rw [ended.check, flt]
    rfl
  · rw [ended.check, flt]
    rfl
  · rw [sup, flt]
    rfl
  · rw [ext, flt]
    rfl

/-! ### The band and the second -/

theorem inBand_iff {q ref : Nat} : inBand (some q) ref = true ↔ 100 * q ≤ 105 * ref ∧ 95 * ref ≤ 100 * q := by
  rw [inBand, decide_eq_true_iff]
  omega

theorem State.bothInBand_absent (h : s.afc.supply.flow = none ∨ s.afc.extract.flow = none) : s.bothInBand = false := by
  rcases h with h | h <;> simp [State.bothInBand, inBand, h]

theorem State.bothInBand_eq {qs qe : Nat} (h1 : s.afc.supply.flow = some qs) (h2 : s.afc.extract.flow = some qe)
    {inside : Bool} (h : inside = true ↔ 100 * qs ≤ 105 * s.setting 10 ∧ 95 * s.setting 10 ≤ 100 * qs
      ∧ 100 * qe ≤ 105 * s.setting 10 ∧ 95 * s.setting 10 ≤ 100 * qe) : s.bothInBand = inside := by
  rw [Bool.eq_iff_iff, State.bothInBand, h1, h2, Bool.and_eq_true, inBand_iff, inBand_iff, h]
  tauto

theorem State.checkSecond_waiting (h : s.flt.check.phase = .waiting) :
    s.checkSecond.flt.check = { s.flt.check with waiting := min (s.flt.check.waiting + 1) 21600 } := by
  simp only [State.checkSecond, State.updCheck_flt, h]
  rfl

theorem State.checkSecond_settle (h : s.flt.check.phase = .settle) :
    s.checkSecond.flt.check = s.flt.check.settleSecond s.bothInBand := by
  simp only [State.checkSecond, State.updCheck_flt, h]

theorem Check.settleSecond_counts {c : Check} (h1 : c.stable < 30) (h2 : c.timeoutDue = false) (inside : Bool) :
    c.settleSecond inside = { c with
      settle := min (c.settle + 1) 180
      stable := if inside then c.stable + 1 else 0
      timeoutDue := decide (179 ≤ c.settle ∧ (inside = true → c.stable < 29)) } := by
  have runs : ¬(c.timeoutDue = true ∨ Config.stableSeconds ≤ c.stable) := by
    rw [not_or]
    exact ⟨by simp [h2], by rw [Config.stableSeconds]; omega⟩
  unfold Check.settleSecond
  rw [if_neg runs]
  have due : ((if inside = true then c.stable + 1 else 0) < Config.stableSeconds
      ∧ Config.settleLimit ≤ bump c.settle Config.settleLimit)
      ↔ (179 ≤ c.settle ∧ (inside = true → c.stable < 29)) := by
    simp only [Config.stableSeconds, Config.settleLimit, bump]
    cases inside <;> simp <;> omega
  simp only [due]
  rfl

theorem State.checkSecond_stands (h : s.flt.check.phase = .settle)
    (hc : 30 ≤ s.flt.check.stable ∨ s.flt.check.timeoutDue = true) : s.checkSecond = s := by
  have stands : s.flt.check.settleSecond s.bothInBand = s.flt.check := if_pos hc.symm
  simp only [State.checkSecond, State.updCheck, State.updFlt, h, stands]

theorem State.checkSecond_sample (h : s.flt.check.phase = .sample) (hn : s.flt.check.samples < 16) :
    s.checkSecond.flt.check = if s.bothInBand then { s.flt.check with
        samples := s.flt.check.samples + 1
        supplyDp := sumCap (s.flt.check.supplyDp + s.flt.supply.pressure.getD 0)
        supplyQ := sumCap (s.flt.check.supplyQ + s.afc.supply.flow.getD 0)
        extractDp := sumCap (s.flt.check.extractDp + s.flt.extract.pressure.getD 0)
        extractQ := sumCap (s.flt.check.extractQ + s.afc.extract.flow.getD 0) }
      else { s.flt.check.discard with stable := 0, phase := .settle } := by
  simp only [State.checkSecond, State.updCheck_flt, h]
  exact if_neg (Nat.not_le.mpr hn)

theorem Filter.pressure_sound {f : Filter} {v : Int} (h : f.sensor ≠ .faulted) (hv : f.raw = .value v) :
    f.pressure.getD 0 = (v - f.zeroOffset).toNat := by
  simp [Filter.pressure, h, hv, deltaP]

/-! ### The check and the table -/

theorem State.trySettle_settles (h : s.flt.check.phase = .waiting) (ha : s.arb.active = some .filterCheck)
    (hc : s.frg.imbalance = 0) : s.trySettle = s.updCheck fun c =>
      { c with phase := .settle, settle := 0, stable := 0, timeoutDue := false } :=
  if_pos ⟨h, ha, by simp [State.capInForce, hc]⟩

theorem State.trySettle_waits (h : s.flt.check.phase ≠ .waiting ∨ s.arb.active ≠ some .filterCheck ∨ 0 < s.frg.imbalance) :
    s.trySettle = s := by
  refine if_neg ?_
  rintro ⟨waiting, active, uncapped⟩
  rcases h with h | h | h
  · exact h waiting
  · exact h active
  · simp [State.capInForce] at uncapped
    omega

theorem State.trySettle_arb (s : State) : s.trySettle.arb = s.arb ∧ s.trySettle.frg = s.frg := by
  unfold State.trySettle
  split <;> exact ⟨rfl, rfl⟩

/-- The end of the active demand that makes a waiting slot active reports it. -/
theorem Arb.free_activates {a : Arb} {x w : Slot} (ha : a.active = some x) (hx : x ≠ w)
    (hw : (a.free x).1.active = some w) : (a.free x).2 = [⟨.active, w⟩] := by
  by_cases hf : a.table.get x = none
  · rw [Arb.free_of_free hf, ha] at hw
    exact absurd (Option.some.inj hw) hx
  · rw [Arb.free_active hf ha] at hw ⊢
    unfold Arb.reselect at hw ⊢
    split at hw
    · cases hw
    · rw [Option.some.inj hw]

/-- A check that waits hears that FILTER_CHECK is ACTIVE (R129). -/
theorem State.applyArb_settles {x : Slot} (hx : x ≠ .filterCheck) (ha : s.arb.active = some x)
    (hw : (s.arb.free x).1.active = some .filterCheck) :
    (s.applyArb (s.arb.free x)).flt.check = if s.flt.check.phase = .waiting ∧ s.frg.imbalance = 0 then
      { s.flt.check with phase := .settle, settle := 0, stable := 0, timeoutDue := false } else s.flt.check := by
  have reports := Arb.free_activates ha hx hw
  have changed : ¬(s.arb.free x).1.active = s.arb.active := by
    rw [hw, ha]
    exact fun e => hx (Option.some.inj e).symm
  have shown : s.applyArb (s.arb.free x) = ((s.updArb fun _ => (s.arb.free x).1).raise .demandChanged
      (slotCode (s.arb.free x).1.active) (twoPart (s.arb.free x).1.activeLevel (slotCode s.arb.active))).trySettle := by
    unfold State.applyArb
    dsimp only
    rw [if_neg changed, reports]
    rfl
  rw [shown]
  by_cases hc : s.flt.check.phase = .waiting ∧ s.frg.imbalance = 0
  · rw [State.trySettle_settles (by simpa using hc.1) (by simpa using hw) (by simpa using hc.2), if_pos hc]
    simp
  · rw [State.trySettle_waits, if_neg hc]
    · simp
    · simp only [State.raise_flt, State.updArb_flt, State.raise_frg, State.updArb_frg]
      by_cases hp : s.flt.check.phase = .waiting
      · exact .inr (.inr (Nat.pos_of_ne_zero fun e => hc ⟨hp, e⟩))
      · exact .inl hp

/-! ### The cap -/

theorem State.setImbalance_lifted {n : Nat} (h : 0 < s.frg.imbalance) (hn : n = 0) :
    s.setImbalance n = ({ s with frg := { s.frg with imbalance := n } } : State).trySettle := by
  have was : s.capInForce = true := by simpa [State.capInForce] using h
  have now : ({ s with frg := { s.frg with imbalance := n } } : State).capInForce = false := by simp [State.capInForce, hn]
  have moves : ¬s.capInForce = ({ s with frg := { s.frg with imbalance := n } } : State).capInForce := by
    rw [was, now]
    decide
  refine (if_neg moves).trans (if_neg ?_)
  exact (Bool.not_eq_true _).mpr now

theorem State.setImbalance_forced {n : Nat} (h : s.frg.imbalance = 0) (hn : 0 < n) :
    s.setImbalance n = ({ s with frg := { s.frg with imbalance := n } } : State).checkCapped := by
  have was : s.capInForce = false := by simp [State.capInForce, h]
  have now : ({ s with frg := { s.frg with imbalance := n } } : State).capInForce = true := by
    simpa [State.capInForce] using hn
  have moves : ¬s.capInForce = ({ s with frg := { s.frg with imbalance := n } } : State).capInForce := by
    rw [was, now]
    decide
  exact (if_neg moves).trans (if_pos now)

/-! ### A preemption -/

/-- FLT after a check that settles or samples has been preempted (R132). -/
def Check.preempted (c : Check) : Check :=
  { c.discard with phase := .waiting, stable := 0, suspensions := bump c.suspensions Config.checkSuspensions }

theorem State.checkPreempted_none (h : s.flt.check.phase = .waiting) : s.checkPreempted = s :=
  if_neg (by simp [h])

theorem State.checkPreempted_suspends (h : s.flt.check.phase = .settle ∨ s.flt.check.phase = .sample)
    (hn : s.flt.check.suspensions < 2) : s.checkPreempted = s.updCheck Check.preempted := by
  refine (if_pos h).trans (if_neg ?_)
  change ¬Config.checkSuspensions ≤ min (s.flt.check.suspensions + 1) Config.checkSuspensions
  rw [Config.checkSuspensions]
  omega

theorem State.checkPreempted_interrupts (h : s.flt.check.phase = .settle ∨ s.flt.check.phase = .sample)
    (hn : 2 ≤ s.flt.check.suspensions) : s.checkPreempted = (((s.updCheck Check.preempted).recordCheckEnd
      .interrupted).updArb fun a => (a.free .filterCheck).1).raiseFilterResult := by
  refine (if_pos h).trans (if_pos ?_)
  change Config.checkSuspensions ≤ min (s.flt.check.suspensions + 1) Config.checkSuspensions
  rw [Config.checkSuspensions]
  omega

/-- A report that a slot other than FILTER_CHECK is ACTIVE reaches no check. -/
theorem State.takeReport_active {x : Slot} (hx : x ≠ .filterCheck) :
    (s.takeReport ⟨.active, x⟩).flt = s.flt ∧ (s.takeReport ⟨.active, x⟩).arb = s.arb := by
  cases x with
  | filterCheck => exact absurd rfl hx
  | defrost =>
    change s.defrostActive.flt = s.flt ∧ s.defrostActive.arb = s.arb
    unfold State.defrostActive
    split
    · exact ⟨by simp, by simp⟩
    all_goals exact ⟨rfl, rfl⟩
  | _ => exact ⟨rfl, rfl⟩

/-- A post above FILTER_CHECK takes the active slot from it (R8, R132). -/
theorem State.applyArb_preempts {x : Slot} {p : PostArgs} (ha : s.arb.active = some .filterCheck)
    (hf : s.arb.table.get x = none) (hx : x ≠ .filterCheck) (hl : s.arb.level .filterCheck < p.level) {t : State}
    (ht : t = s.applyArb (s.arb.post x p s.osc.uptime)) : ∃ v : State, v.flt = s.flt ∧ v.arb.active = some x
      ∧ t.flt = v.checkPreempted.flt ∧ t.arb = v.checkPreempted.arb := by
  have post := Arb.post_preempts (p := p) (now := s.osc.uptime) hf ha hl
  have active : (s.arb.post x p s.osc.uptime).1.active = some x := by rw [post]; rfl
  have reports : (s.arb.post x p s.osc.uptime).2 = [⟨.suspended, .filterCheck⟩, ⟨.active, x⟩] := by rw [post]; rfl
  have changed : ¬(s.arb.post x p s.osc.uptime).1.active = s.arb.active := by
    rw [active, ha]
    exact fun e => hx (Option.some.inj e)
  let v := (s.updArb fun _ => (s.arb.post x p s.osc.uptime).1).raise .demandChanged
    (slotCode (s.arb.post x p s.osc.uptime).1.active)
    (twoPart (s.arb.post x p s.osc.uptime).1.activeLevel (slotCode s.arb.active))
  have shown : t = ([⟨.suspended, .filterCheck⟩, ⟨.active, x⟩].filter (·.slot.internal)).foldl State.takeReport v := by
    rw [ht, ← reports]
    unfold State.applyArb
    dsimp only
    rw [if_neg changed]
  refine ⟨v, by simp [v], by simp [v, active], ?_⟩
  cases internal : x.internal with
  | true =>
    have both : t = v.checkPreempted.takeReport ⟨.active, x⟩ := by
      rw [shown, List.filter_cons_of_pos rfl, List.filter_cons_of_pos (by exact internal)]
      rfl
    rw [both]
    exact State.takeReport_active hx
  | false =>
    have one : t = v.checkPreempted := by
      rw [shown, List.filter_cons_of_pos rfl, List.filter_cons_of_neg (by simp [internal])]
      rfl
    rw [one]
    exact ⟨rfl, rfl⟩

theorem Arb.free_active_other {a : Arb} {x : Slot} (h : a.active ≠ some x) : (a.free x).1.active = a.active := by
  by_cases hf : a.table.get x = none
  · rw [Arb.free_of_free hf]
  · rw [Arb.free_waiting hf h]
    rfl

/-- A preempted check leaves the active slot to the one that preempted it. -/
theorem State.checkPreempted_active {x : Slot} (hx : x ≠ .filterCheck) (h : s.arb.active = some x) :
    s.checkPreempted.arb.active = some x := by
  have other : s.arb.active ≠ some .filterCheck := by
    rw [h]
    exact fun e => hx (Option.some.inj e)
  unfold State.checkPreempted
  split
  · dsimp only
    split
    · rw [State.raiseFilterResult, State.raise_arb]
      exact (Arb.free_active_other other).trans h
    · exact h
  · exact h

end Phases

end Sys2Proof.Machine

/-- Settles O45. -/
theorem checkPhasesPass : Obligations.CheckPhasesPass := by
  intro s
  refine ⟨fun hp hs => if_pos ⟨hp, hs⟩, fun c o flags hc => ?_, State.checkSecond_waiting, fun hf => ⟨fun hp hs ht => ?_,
    fun hp hn => ?_⟩, State.checkSecond_stands, fun ref qs qe href h1 h2 e1 e2 inside hin => ⟨fun hp hs ht => ?_,
    fun v w hp hn hv hw => ?_⟩, fun c u hi e1 e2 hu => ?_, fun x hx ha hw hp => ?_, fun n u hu => ⟨fun h hn => ⟨fun hp ha => ?_,
    fun hp => ?_⟩, fun h hn => ⟨fun hp => ?_, fun hp => ?_⟩⟩, fun x p t ha hf hx hl ht => ?_⟩
  · rcases hc with ⟨rfl, rfl, hp, ht, rfl⟩ | ⟨rfl, rfl, hp, ht, rfl⟩
    · have row : exec .settleTimeout s = .next ((s.setFlag .filterCheckFailed).abandonCheck .settleTimeout).propagate :=
        if_pos ⟨hp, ht⟩
      have settled := (SettledFrom.abandonCheck (s.setFlag .filterCheckFailed) .settleTimeout).next (.propagate _)
      generalize hd : ((s.setFlag .filterCheckFailed).abandonCheck .settleTimeout).propagate = t at *
      refine ⟨t, row, settled, fun hq => ?_⟩
      exact State.abandonCheck_ended (s := s.setFlag .filterCheckFailed) (by simp [hp]) hq _ hd.symm
    · have row : exec .checkWaitingExpired s = .next (s.abandonCheck .deferred).propagate := if_pos ⟨hp, ht⟩
      have settled := (SettledFrom.abandonCheck s .deferred).next (.propagate _)
      generalize hd : (s.abandonCheck .deferred).propagate = t at *
      exact ⟨t, row, settled, fun hq => State.abandonCheck_ended (by simp [hp]) hq _ hd.symm⟩
  · rw [State.checkSecond_settle hp, State.bothInBand_absent hf, Check.settleSecond_counts hs ht]
    simp
  · rw [State.checkSecond_sample hp hn, State.bothInBand_absent hf]
    rfl
  · subst href
    rw [State.checkSecond_settle hp, State.bothInBand_eq h1 h2 hin, Check.settleSecond_counts hs ht]
  · subst href
    rw [State.checkSecond_sample hp hn, State.bothInBand_eq h1 h2 hin, Filter.pressure_sound e1 hv,
      Filter.pressure_sound e2 hw, h1, h2]
    rfl
  · obtain ⟨w, hw, rfl⟩ := State.startCheck_starts (State.filterSensors_sound e1 e2) hu
    obtain ⟨arb, frg⟩ := (w.updCheck fun k => { k with phase := .waiting }).trySettle_arb
    refine ⟨fun ha hc => ?_, fun hc => ?_⟩
    · rw [State.trySettle_settles rfl (by rwa [← arb]) (by rwa [← frg])]
      exact ⟨rfl, rfl, rfl⟩
    · rw [State.trySettle_waits (.inr (by rwa [← arb, ← frg]))]
      rfl
  · rw [State.applyArb_settles hx ha hw]
    simp only [hp, true_and]
  · rw [State.setImbalance_lifted h hn, ← hu, State.trySettle_settles (by rw [hu]; exact hp) (by rw [hu]; exact ha)
      (by rw [hu]; exact hn)]
    rfl
  · rw [State.setImbalance_lifted h hn, ← hu, State.trySettle_waits]
    rw [hu]
    exact hp.imp_right .inl
  · rw [State.setImbalance_forced h hn, ← hu]
    exact if_pos (by rw [hu]; exact hp)
  · rw [State.setImbalance_forced h hn, ← hu]
    refine if_neg ?_
    rw [hu]
    rcases hp with hp | hp <;> simp [hp]
  · obtain ⟨v, flt, active, tflt, tarb⟩ := State.applyArb_preempts ha hf hx hl ht
    refine ⟨?_, fun hp => ?_, fun hp => ⟨fun hn => ?_, fun hn => ?_⟩⟩
    · rw [tarb]
      exact State.checkPreempted_active hx active
    · rw [tflt, State.checkPreempted_none (by rw [flt]; exact hp), flt]
    · rw [tflt, State.checkPreempted_suspends (by rw [flt]; exact hp) (by rw [flt]; exact hn), State.updCheck_flt, flt]
      have counted : bump s.flt.check.suspensions Config.checkSuspensions = s.flt.check.suspensions + 1 := by
        simp only [bump, Config.checkSuspensions]
        omega
      rw [Check.preempted, counted]
      rfl
    · rw [tflt, tarb, State.checkPreempted_interrupts (by rw [flt]; exact hp) (by rw [flt]; exact hn),
        State.raiseFilterResult, State.raise_flt, State.raise_arb]
      exact ⟨rfl, rfl, rfl, rfl, rfl, v.arb.free_get_self .filterCheck⟩

end

section
/-! The run hour, and what every change of the table leaves of the check's record. -/

open Sys2Proof Sys2Proof.Machine

namespace Sys2Proof.Machine

section Tally

variable {s t : State}

/-- What no report of ARB changes in the check's record: its trigger, whether a scheduled check is due, the hours since the
last one and when that was completed. -/
def Check.tally (c : Check) : Option CheckTrigger × Bool × Nat × Option Nat :=
  (c.trigger, c.scheduledDue, c.hoursSinceCheck, c.lastCompleted)

theorem State.takeReport_tally (s : State) (q : Report) : (s.takeReport q).flt.check.tally = s.flt.check.tally := by
  unfold State.takeReport
  split
  · unfold State.defrostActive
    split
    · simp
    all_goals rfl
  · unfold State.defrostPreempted
    split <;> rfl
  · unfold State.trySettle
    split <;> rfl
  · unfold State.checkPreempted
    split
    · dsimp only
      split
      · rw [State.raiseFilterResult, State.raise_flt]
        rfl
      · rfl
    · rfl
  · unfold State.checkFreedByStandby
    split
    · rfl
    · rw [State.raiseFilterResult, State.raise_flt]
      rfl
  all_goals rfl

theorem State.applyArb_tally (s : State) (r : Arb × List Report) :
    (s.applyArb r).flt.check.tally = s.flt.check.tally := by
  have reports (l : List Report) (t : State) : (l.foldl State.takeReport t).flt.check.tally = t.flt.check.tally := by
    induction l generalizing t with
    | nil => rfl
    | cons q l ih => exact (ih _).trans (t.takeReport_tally q)
  unfold State.applyArb
  dsimp only
  refine (reports _ _).trans ?_
  split
  · rfl
  · rw [State.raise_flt, State.updArb_flt]

/-- What the propagation keeps of the check's record whatever test starts a check, if none may start but by `test`. -/
theorem State.propagate_check {α : Type} {f : Check → α} (hf : ∀ c d : Check, c.tally = d.tally → f c = f d)
    (test : ∀ t : State, f t.flt.check = f s.flt.check → (t.osc.device = .running → s.osc.device = .running) →
      f t.startTest.flt.check = f s.flt.check ∧ t.startTest.osc = t.osc) :
    f s.propagate.flt.check = f s.flt.check := by
  have device : (s.propagate.osc.device = .running → s.osc.device = .running)
      ∧ f s.propagate.flt.check = f s.flt.check := by
    refine State.propagate_induct (P := fun t => (t.osc.device = .running → s.osc.device = .running)
      ∧ f t.flt.check = f s.flt.check) ?_ ?_ ?_ ?_ ?_ ?_ ⟨id, rfl⟩
    · intro t u hu h
      rwa [hu.osc, hu.flt]
    · intro t _ h
      exact h
    · intro t w p g _ h hw
      rw [State.defrostApplied, (State.TableOnly.applyArb (s := w) _).osc, hw.osc, hf _ _ (w.applyArb_tally _), hw.flt]
      exact h
    · intro t _ h
      rw [State.enterStandby, (State.TableOnly.applyArb _).osc, hf _ _ (State.applyArb_tally _ _), State.setDevice_flt]
      exact ⟨by simp, h.2⟩
    · intro t _ h
      exact ⟨by simp [State.enterFilterService], by simpa [State.enterFilterService] using h.2⟩
    · intro t h
      obtain ⟨same, osc⟩ := test t h.2 h.1
      exact ⟨by rw [osc]; exact h.1, same⟩
  exact device.2

/-- Where no scheduled check may start, the propagation keeps the tally. -/
theorem State.propagate_tally (h : s.flt.check.scheduledDue = false ∨ s.osc.device ≠ .running) :
    s.propagate.flt.check.tally = s.flt.check.tally := by
  refine State.propagate_check (f := Check.tally) (fun _ _ h => h) fun t ht hd => ?_
  have due : t.flt.check.scheduledDue = s.flt.check.scheduledDue :=
    congrArg (fun y : Option CheckTrigger × Bool × Nat × Option Nat => y.2.1) ht
  rw [State.startTest_passes]
  · exact ⟨ht, rfl⟩
  · rintro ⟨h1, -, h3⟩
    rcases h with h | h
    · rw [due, h] at h1
      cases h1
    · exact h (hd h3)

/-- A check start keeps when the last check was completed. -/
theorem State.startCheck_lastCompleted (s : State) (c : CheckTrigger) :
    (s.startCheck c).1.flt.check.lastCompleted = s.flt.check.lastCompleted := by
  cases hf : s.filterSensorFaulted with
  | true =>
    rw [State.startCheck_faulted hf, State.raiseFilterResult, State.raise_flt]
    rfl
  | false =>
    cases hw : s.checkPost c with | mk w a =>
    by_cases ha : a = .ok
    · subst ha
      obtain ⟨v, same, -, hv⟩ := State.postCore_ok hw
      have kept := congrArg (fun y : Option CheckTrigger × Bool × Nat × Option Nat => y.2.2.2)
        (((w.updCheck fun k => { k with phase := .waiting }).takeReport_tally ⟨.active, .filterCheck⟩))
      have posted : w.flt.check.lastCompleted = v.flt.check.lastCompleted := by
        rw [hv]
        exact congrArg (fun y : Option CheckTrigger × Bool × Nat × Option Nat => y.2.2.2) (v.applyArb_tally _)
      rw [State.startCheck_posted hf hw]
      refine kept.trans (posted.trans ?_)
      rw [same.flt]
      rfl
    · rw [State.startCheck_undone hf hw ha]
      rfl

theorem State.startTest_lastCompleted (s : State) :
    s.startTest.flt.check.lastCompleted = s.flt.check.lastCompleted ∧ s.startTest.osc = s.osc := by
  unfold State.startTest
  split
  · dsimp only
    split
    · exact ⟨State.startCheck_lastCompleted _ _, (State.TableOnly.startCheck _).osc⟩
    · exact ⟨rfl, rfl⟩
  · exact ⟨rfl, rfl⟩

theorem State.propagate_lastCompleted (s : State) :
    s.propagate.flt.check.lastCompleted = s.flt.check.lastCompleted :=
  State.propagate_check (f := Check.lastCompleted)
    (fun _ _ h => congrArg (fun y : Option CheckTrigger × Bool × Nat × Option Nat => y.2.2.2) h)
    fun t ht _ => ⟨t.startTest_lastCompleted.1.trans ht, t.startTest_lastCompleted.2⟩

end Tally

/-! ### Filters and their block -/

section Blocks

variable {s t : State}

theorem State.deriveFilter_flt (s : State) (i : PathId) :
    (s.deriveFilter i).flt = s.flt.setFilter i ((s.flt.filter i).derive (s.setting 64)) := by
  unfold State.deriveFilter State.flagDue
  dsimp only
  split
  · rfl
  · split <;> simp [State.setFlag]

theorem State.deriveFilters_flt (s : State) : s.deriveFilters.flt = { s.flt with
    supply := s.flt.supply.derive (s.setting 64), extract := s.flt.extract.derive (s.setting 64) } := by
  have setting : (s.deriveFilter .supply).setting 64 = s.setting 64 := by
    rw [State.setting, (s.deriveFilter_records .supply).osc]
    rfl
  rw [State.deriveFilters, State.deriveFilter_flt, State.deriveFilter_flt, setting]
  rfl

theorem State.deriveFilters_filter (s : State) (i : PathId) :
    s.deriveFilters.flt.filter i = (s.flt.filter i).derive (s.setting 64) := by
  rw [State.deriveFilters_flt]
  cases i <;> rfl

/-- A write of the filter block as it stands, or one more behind the write in flight (R140). -/
theorem State.persist_flt (s : State) : (s.flt.writing = none → ∃ w c1 c2, w.snapshot = s.flt.block
      ∧ s.persist.flt = { s.flt with writing := some w, again := false, copy1 := c1, copy2 := c2 })
    ∧ (s.flt.writing ≠ none → s.persist.flt = { s.flt with again := true }) := by
  refine ⟨fun h => ?_, fun h => ?_⟩
  · obtain ⟨c1, c2, w, -, -, snapshot, eq⟩ := s.flt.startWrite_eq
    refine ⟨w, c1, c2, snapshot, ?_⟩
    rw [State.persist, State.updFlt_flt, if_neg (by simp [h]), eq]
  · rw [State.persist, State.updFlt_flt, if_pos (Option.isSome_iff_ne_none.mpr h)]

/-- What of a filter's entry a settled change keeps: all but the last outcome. -/
theorem SettledFrom.filter {l : List Slot} (h : SettledFrom l s t) (i : PathId) :
    (t.flt.filter i).data = (s.flt.filter i).data ∧ (t.flt.filter i).state = (s.flt.filter i).state
      ∧ (t.flt.filter i).sensor = (s.flt.filter i).sensor := by
  have kept := h.filters i
  exact ⟨by rw [← kept], by rw [← kept], by rw [← kept]⟩

/-- What has settled but for FLT and the flags, whatever these are taken for. -/
theorem State.Records.onFltSup {a : List Flag} (h : s.Records a t) (hh : t.hum = s.hum) (b : Flt) (c : Sup) :
    SettledFrom [] { s with flt := b, sup := c } { t with flt := b, sup := c } := by
  have same : ({ t with flt := b, sup := c } : State) = { t with hum := s.hum, flt := b, sup := c } := by rw [← hh]
  rw [same]
  exact ((h.settled.onHum s.hum).onFlt b).onSup c

end Blocks

end Sys2Proof.Machine

end

section
/-! The run hour and the end of the service timer. -/

open Sys2Proof Sys2Proof.Machine

namespace Sys2Proof.Machine

section Hours

variable {s t : State}

/-- FLT as a run hour has counted (R121). -/
def Flt.hour (f : Flt) : Flt :=
  { f with
    hoursDue := f.hoursDue - 1
    runHours := bump f.runHours Config.last32
    supply := f.supply.hour
    extract := f.extract.hour
    check := { f.check with hoursSinceCheck := bump f.check.hoursSinceCheck 65535 } }

/-- A run hour up to its check start (R121, R127). -/
def State.hourTested (s : State) : State :=
  (if s.setting 65 ≤ min (s.flt.check.hoursSinceCheck + 1) 65535 then (s.updFlt Flt.hour).dueCheck
    else (s.updFlt Flt.hour).dueStartTest).startTest

theorem State.runHour_eq (s : State) : s.runHour = (if s.hourTested.deriveFilters.flt.runHours % 24 = 0
    then s.hourTested.deriveFilters.persist else s.hourTested.deriveFilters).propagate := rfl

/-- What the check start of a run hour starts from. -/
theorem State.hourTested_from (s : State) : ∃ u : State, s.hourTested = u.startTest
    ∧ u = { s with flt := u.flt }
    ∧ u.flt = { s.flt.hour with startTestDue := true, check := { s.flt.hour.check with
        scheduledDue := s.flt.check.scheduledDue || decide (s.setting 65 ≤ min (s.flt.check.hoursSinceCheck + 1) 65535) } } := by
  unfold State.hourTested
  split
  · next h => exact ⟨_, rfl, rfl, by simp [h]; rfl⟩
  · next h => exact ⟨_, rfl, rfl, by simp [h]; rfl⟩

/-- What a run hour persists: every 24th the block, else nothing. -/
def State.hourPersisted (s : State) : State :=
  if s.hourTested.deriveFilters.flt.runHours % 24 = 0 then s.hourTested.deriveFilters.persist else s.hourTested.deriveFilters

theorem State.persist_same (s : State) : s.persist = { s with flt := s.persist.flt }
    ∧ s.persist.flt.supply = s.flt.supply ∧ s.persist.flt.extract = s.flt.extract ∧ s.persist.flt.check = s.flt.check
    ∧ s.persist.flt.runHours = s.flt.runHours ∧ s.persist.flt.hoursDue = s.flt.hoursDue
    ∧ s.persist.flt.accumulator = s.flt.accumulator ∧ s.persist.flt.door = s.flt.door := by
  obtain ⟨idle, busy⟩ := s.persist_flt
  refine ⟨rfl, ?_⟩
  by_cases h : s.flt.writing = none
  · obtain ⟨w, c1, c2, -, eq⟩ := idle h
    rw [eq]
    exact ⟨rfl, rfl, rfl, rfl, rfl, rfl, rfl⟩
  · rw [busy h]
    exact ⟨rfl, rfl, rfl, rfl, rfl, rfl, rfl⟩

theorem State.hourPersisted_same (s : State) : s.hourPersisted = { s.hourTested.deriveFilters with flt := s.hourPersisted.flt }
    ∧ (∀ i, s.hourPersisted.flt.filter i = (s.hourTested.flt.filter i).derive (s.hourTested.setting 64))
    ∧ s.hourPersisted.flt.check = s.hourTested.flt.check ∧ s.hourPersisted.flt.runHours = s.hourTested.flt.runHours
    ∧ s.hourPersisted.flt.hoursDue = s.hourTested.flt.hoursDue
    ∧ s.hourPersisted.flt.accumulator = s.hourTested.flt.accumulator := by
  have derived := s.hourTested.deriveFilters_flt
  unfold State.hourPersisted
  split
  · obtain ⟨same, sup, ext, check, hours, due, acc, -⟩ := s.hourTested.deriveFilters.persist_same
    refine ⟨same, fun i => ?_, by rw [check, derived], by rw [hours, derived], by rw [due, derived], by rw [acc, derived]⟩
    rw [← State.deriveFilters_filter]
    cases i with
    | supply => exact sup
    | extract => exact ext
  · refine ⟨rfl, fun i => State.deriveFilters_filter _ i, ?_, ?_, ?_, ?_⟩ <;> rw [derived]

theorem State.hourTested_settled (s : State) : ∃ b : Flt, SettledFrom [] { s with flt := b } s.hourTested
    ∧ b = { s.flt.hour with startTestDue := true, check := { s.flt.hour.check with
        scheduledDue := s.flt.check.scheduledDue || decide (s.setting 65 ≤ min (s.flt.check.hoursSinceCheck + 1) 65535) } } := by
  obtain ⟨u, tested, same, flt⟩ := s.hourTested_from
  refine ⟨u.flt, ?_, flt⟩
  rw [tested, ← same]
  exact .startTest u

/-- The filters' data after a run hour (R121). -/
theorem State.runHour_filter (s : State) (i : PathId) :
    (s.hourPersisted.flt.filter i).data.hoursSinceChange = min ((s.flt.filter i).data.hoursSinceChange + 1) 65535
      ∧ (s.hourPersisted.flt.filter i).data.history = (s.flt.filter i).data.history
      ∧ (s.hourPersisted.flt.filter i).data.baseline = (s.flt.filter i).data.baseline
      ∧ ((s.flt.filter i).state.isDue = true → (s.hourPersisted.flt.filter i).state.isDue = true →
        (s.hourPersisted.flt.filter i).data.hoursSinceDue = min ((s.flt.filter i).data.hoursSinceDue + 1) 65535) := by
  obtain ⟨b, settled, hb⟩ := s.hourTested_settled
  obtain ⟨data, -, -⟩ := settled.filter i
  have counted : b.filter i = (s.flt.filter i).hour := by
    rw [hb]
    cases i <;> rfl
  rw [show ({ s with flt := b } : State).flt.filter i = (s.flt.filter i).hour from counted] at data
  rw [s.hourPersisted_same.2.1 i]
  obtain ⟨same, due, -⟩ := (s.hourTested.flt.filter i).derive_data (s.hourTested.setting 64)
  rw [data] at same due
  refine ⟨?_, ?_, ?_, fun h1 h2 => ?_⟩
  · exact congrArg FilterData.hoursSinceChange same
  · have kept := congrArg FilterData.history same
    exact kept
  · have kept := congrArg FilterData.baseline same
    exact kept
  · rw [due, if_neg]
    · rw [Filter.hour, if_pos h1]
      rfl
    · rintro (h | h) <;> rw [h] at h2 <;> cases h2

/-- The check's tally after a run hour that starts none (R121, R127). -/
theorem State.runHour_tally (h : s.flt.check.scheduledDue = false ∧ min (s.flt.check.hoursSinceCheck + 1) 65535 < s.setting 65
      ∨ s.osc.device ≠ .running) :
    s.hourPersisted.propagate.flt.check.tally = (s.flt.check.trigger,
      s.flt.check.scheduledDue || decide (s.setting 65 ≤ min (s.flt.check.hoursSinceCheck + 1) 65535),
      min (s.flt.check.hoursSinceCheck + 1) 65535, s.flt.check.lastCompleted) := by
  obtain ⟨u, tested, same, flt⟩ := s.hourTested_from
  have device : u.osc = s.osc := by rw [same]
  have quiet : u.flt.check.scheduledDue = false ∨ u.osc.device ≠ .running := by
    rw [flt, device]
    refine h.imp_left fun ⟨h1, h2⟩ => ?_
    simp only [h1, Bool.false_or, decide_eq_false_iff_not]
    omega
  have passes : s.hourTested = { u with flt := { u.flt with startTestDue := false } } := by
    rw [tested]
    refine State.startTest_passes ?_
    rintro ⟨h1, -, h3⟩
    rcases quiet with hq | hq
    · rw [hq] at h1
      cases h1
    · exact hq h3
  obtain ⟨shown, -, check, -⟩ := s.hourPersisted_same
  have osc : s.hourPersisted.osc = u.osc := by
    rw [shown]
    refine (State.deriveFilters_records _).osc.trans ?_
    rw [passes]
  have kept : s.hourPersisted.flt.check = u.flt.check := by rw [check, passes]
  rw [State.propagate_tally (by rw [kept, osc]; exact quiet), kept, flt]
  rfl

/-- A run hour that makes a check due in RUNNING starts it (R121, R127). -/
theorem State.runHour_starts (hh : s.setting 65 ≤ min (s.flt.check.hoursSinceCheck + 1) 65535)
    (hd : s.osc.device = .running) (hi : s.flt.check.phase = .idle) (h1 : s.flt.supply.sensor ≠ .faulted)
    (h2 : s.flt.extract.sensor ≠ .faulted) (hw : s.arb.watch.enabled = false) :
    ∃ k, s.hourPersisted.propagate.CheckFlies .scheduled k := by
  obtain ⟨u, tested, same, flt⟩ := s.hourTested_from
  let v : State := { u with flt := { u.flt with startTestDue := false } }
  have device : v.osc.device = .running := by
    change u.osc.device = .running
    rw [same]
    exact hd
  have idle : v.flt.check.phase = .idle := by
    change u.flt.check.phase = .idle
    rw [flt]
    exact hi
  have due : v.flt.check.scheduledDue = true := by
    change u.flt.check.scheduledDue = true
    rw [flt]
    simp [hh]
  have sound : v.filterSensorFaulted = false := by
    refine State.filterSensors_sound ?_ ?_
    · change u.flt.supply.sensor ≠ .faulted
      rw [flt]
      exact h1
    · change u.flt.extract.sensor ≠ .faulted
      rw [flt]
      exact h2
  have unwatched : v.arb.watch.enabled = false := by
    change u.arb.watch.enabled = false
    rw [same]
    exact hw
  obtain ⟨w, hv⟩ := State.startCheck_unwatched (by rw [device]; rfl) sound (Watch.hits_disabled unwatched _ _ _) .scheduled
  have started : s.hourTested = w := by
    rw [tested]
    refine (if_pos (by rw [flt])).trans ((if_pos ⟨due, idle, device⟩).trans ?_)
    exact congrArg Prod.fst hv
  have flies := State.startCheck_flies idle sound hv
  obtain ⟨shown, -, check, -⟩ := s.hourPersisted_same
  have records := State.deriveFilters_records s.hourTested
  have arb : s.hourPersisted.arb = w.arb := by
    rw [shown]
    exact records.arb.trans (congrArg State.arb started)
  have frg : s.hourPersisted.frg = w.frg := by
    rw [shown]
    exact records.frg.trans (congrArg State.frg started)
  exact ⟨_, State.CheckFlies.propagate (flies.of_same (by rw [check, started]) (by rw [arb]) (by rw [frg]; exact id))⟩

theorem State.runHour_propagates (s : State) : s.runHour = s.hourPersisted.propagate := rfl

end Hours

end Sys2Proof.Machine

end

section
/-! The service timer, HUM's two demands, and the run hour in the whole. -/

open Sys2Proof Sys2Proof.Machine

namespace Sys2Proof.Machine

section Service

variable {s t : State}

/-! ### The service timer under the propagation -/

/-- The service timer and the mark of its end. -/
def Flt.service (f : Flt) : Nat × Bool := (f.serviceTimer, f.serviceEndDue)

theorem State.takeReport_service (s : State) (q : Report) : (s.takeReport q).flt.service = s.flt.service := by
  unfold State.takeReport
  split
  · unfold State.defrostActive
    split
    · simp
    all_goals rfl
  · unfold State.defrostPreempted
    split <;> rfl
  · unfold State.trySettle
    split <;> rfl
  · unfold State.checkPreempted
    split
    · dsimp only
      split
      · rw [State.raiseFilterResult, State.raise_flt]
        rfl
      · rfl
    · rfl
  · unfold State.checkFreedByStandby
    split
    · rfl
    · rw [State.raiseFilterResult, State.raise_flt]
      rfl
  all_goals rfl

theorem State.applyArb_service (s : State) (r : Arb × List Report) : (s.applyArb r).flt.service = s.flt.service := by
  have reports (l : List Report) (t : State) : (l.foldl State.takeReport t).flt.service = t.flt.service := by
    induction l generalizing t with
    | nil => rfl
    | cons q l ih => exact (ih _).trans (t.takeReport_service q)
  unfold State.applyArb
  dsimp only
  refine (reports _ _).trans ?_
  split
  · rfl
  · rw [State.raise_flt, State.updArb_flt]

theorem State.postCore_service (s : State) (x : Slot) (n : Nat) (p : PostArgs) (l : Option Link) :
    (s.postCore x n p l).1.flt.service = s.flt.service := by
  have same := (State.SameTable.watchTest s x n p l).flt
  unfold State.postCore
  dsimp only
  split
  · split
    · rw [same]
    · rw [State.applyArb_service, same]
  · rfl

theorem State.startCheck_service (s : State) (c : CheckTrigger) : (s.startCheck c).1.flt.service = s.flt.service := by
  cases hf : s.filterSensorFaulted with
  | true =>
    rw [State.startCheck_faulted hf, State.raiseFilterResult, State.raise_flt]
    rfl
  | false =>
    have posted : (s.checkPost c).1.flt.service = s.flt.service := State.postCore_service _ _ _ _ _
    cases hw : s.checkPost c with | mk w a =>
    rw [hw] at posted
    by_cases ha : a = .ok
    · subst ha
      rw [State.startCheck_posted hf hw]
      exact (State.takeReport_service _ ⟨.active, .filterCheck⟩).trans posted
    · rw [State.startCheck_undone hf hw ha]
      exact posted

theorem State.startTest_service (s : State) : s.startTest.flt.service = s.flt.service ∧ s.startTest.osc = s.osc := by
  unfold State.startTest
  split
  · dsimp only
    split
    · exact ⟨State.startCheck_service _ _, (State.TableOnly.startCheck _).osc⟩
    · exact ⟨rfl, rfl⟩
  · exact ⟨rfl, rfl⟩

/-- Only the entry into FILTER_SERVICE starts the service timer. -/
theorem State.propagate_service (h : s.osc.device ≠ .servicePrepare) : s.propagate.flt.service = s.flt.service := by
  refine (State.propagate_induct (P := fun t => t.osc.device ≠ .servicePrepare ∧ t.flt.service = s.flt.service)
    ?_ ?_ ?_ ?_ ?_ ?_ ⟨h, rfl⟩).2
  · intro t u hu h
    rwa [hu.osc, hu.flt]
  · intro t _ h
    exact h
  · intro t w p g _ h hw
    rw [State.defrostApplied, (State.TableOnly.applyArb (s := w) _).osc, hw.osc, w.applyArb_service, hw.flt]
    exact h
  · intro t _ h
    rw [State.enterStandby, (State.TableOnly.applyArb _).osc, State.applyArb_service, State.setDevice_flt]
    exact ⟨by simp, h.2⟩
  · intro t hd h
    exact absurd hd h.1
  · intro t h
    rwa [t.startTest_service.1, t.startTest_service.2]

end Service

/-! ### HUM's two demands -/

section Demands

variable {s t : State}

/-- A post whose mark is set where it is answered OK. -/
theorem State.postMarked_settled (x : Slot) (n : Nat) (c : Carry) (run : Option Nat) (f : Hum → Hum) (b : Hum) :
    SettledFrom [x] { s with hum := b }
      { (if (s.internalPost x n c run).2 = .ok then (s.internalPost x n c run).1.updHum f else (s.internalPost x n c run).1)
        with hum := b } := by
  have posted := (SettledFrom.internalPost s x n c run).onHum b
  split <;> exact posted

theorem SettledFrom.tryHumidity (s : State) (b : Hum) :
    SettledFrom [.humidity] { s with hum := b } { s.tryHumidity with hum := b } := by
  unfold State.tryHumidity
  split
  · exact State.postMarked_settled _ _ _ _ _ _
  · exact .refl _ _

theorem SettledFrom.tryDryness (s : State) (b : Hum) :
    SettledFrom [.dryness] { s with hum := b } { s.tryDryness with hum := b } := by
  unfold State.tryDryness
  split
  · exact State.postMarked_settled _ _ _ _ _ _
  · exact .refl _ _

theorem SettledFrom.endHumidity (s : State) (b : Hum) :
    SettledFrom [.humidity] { s with hum := b } { s.endHumidity with hum := b } := by
  unfold State.endHumidity
  split
  · exact (SettledFrom.withdraw (s.updHum fun h => { h with humidityMark := false }) .humidity).onHum b
  · exact .refl _ _

theorem SettledFrom.endDryness (s : State) (b : Hum) :
    SettledFrom [.dryness] { s with hum := b } { s.endDryness with hum := b } := by
  unfold State.endDryness
  split
  · exact (SettledFrom.withdraw (s.updHum fun h => { h with drynessMark := false }) .dryness).onHum b
  · exact .refl _ _

theorem State.applyArb_hum_of {r : Arb × List Report} (h : ∀ q ∈ r.2, q.kind = .active ∨ q.kind = .suspended) (s : State) :
    (s.applyArb r).hum = s.hum := (SettledFrom.reported s r h).hum

theorem State.internalPost_hum (s : State) (x : Slot) (n : Nat) (c : Carry) (run : Option Nat) :
    (s.internalPost x n c run).1.hum = s.hum := (SettledFrom.internalPost s x n c run).hum

/-- HUM after the post of a demand: at most the demand's mark is set. -/
theorem State.tryHumidity_hum (s : State) : s.tryHumidity.hum = s.hum ∨ s.tryHumidity.hum = { s.hum with humidityMark := true } := by
  unfold State.tryHumidity
  split
  · dsimp only
    split
    · exact .inr (by rw [State.updHum_hum, State.internalPost_hum])
    · exact .inl (State.internalPost_hum _ _ _ _ _)
  · exact .inl rfl

theorem State.tryDryness_hum (s : State) : s.tryDryness.hum = s.hum ∨ s.tryDryness.hum = { s.hum with drynessMark := true } := by
  unfold State.tryDryness
  split
  · dsimp only
    split
    · exact .inr (by rw [State.updHum_hum, State.internalPost_hum])
    · exact .inl (State.internalPost_hum _ _ _ _ _)
  · exact .inl rfl

theorem State.postCore_osc (s : State) (x : Slot) (n : Nat) (p : PostArgs) (l : Option Link) :
    (s.postCore x n p l).1.osc = s.osc := (State.TableOnly.postCore x n p l).osc

theorem State.tryHumidity_flt (s : State) : s.tryHumidity.flt.service = s.flt.service ∧ s.tryHumidity.osc = s.osc := by
  unfold State.tryHumidity
  split
  · dsimp only
    split <;> exact ⟨State.postCore_service _ _ _ _ _, State.postCore_osc _ _ _ _ _⟩
  · exact ⟨rfl, rfl⟩

theorem State.tryDryness_flt (s : State) : s.tryDryness.flt.service = s.flt.service ∧ s.tryDryness.osc = s.osc := by
  unfold State.tryDryness
  split
  · dsimp only
    split <;> exact ⟨State.postCore_service _ _ _ _ _, State.postCore_osc _ _ _ _ _⟩
  · exact ⟨rfl, rfl⟩

/-! ### The return to RUNNING -/

theorem SettledFrom.running {a : List Slot} (h : SettledFrom a s t) (hd : s.osc.device = .running) :
    t.osc.device = .running := by
  rcases h.device with e | ⟨e, -⟩ | ⟨e, -⟩
  · exact e.trans hd
  · rw [hd] at e
    cases e
  · rw [hd] at e
    cases e

/-- The return to RUNNING: the service timer stands at 0, and HUM and FLT make what posts and start are due (R113, R127). -/
theorem State.returnToRunning_settled (s : State) {t : State} (ht : t = s.returnToRunning) :
    t.osc.device = .running ∧ t.flt.serviceTimer = 0 ∧ t.flt.serviceEndDue = false
      ∧ SettledFrom [.humidity, .dryness] { s with osc := { s.osc with device := .running }, hum := t.hum } t := by
  let a := (s.setDevice .running).updFlt fun f => { f with serviceTimer := 0, serviceEndDue := false }
  have entered (b : Hum) : SettledFrom [] { s with osc := { s.osc with device := .running }, hum := b } { a with hum := b } := by
    have raised := ((SettledFrom.raise (s.updOsc fun o => { o with device := .running }) .stateChanged 0
      DevState.running.code).onHum b)
    exact raised.next { SettledFrom.refl [] _ with filters := fun i => by cases i <;> rfl }
  have spread (u : State) (b : Hum) : SettledFrom [] { u with hum := b } { u.propagate with hum := b } :=
    (SettledFrom.propagate u).onHum b
  have device (u : State) (h : u.osc.device = .running) : u.propagate.osc.device = .running
      ∧ u.propagate.flt.service = u.flt.service :=
    ⟨(SettledFrom.propagate u).running h, State.propagate_service (by simp [h])⟩
  have da : a.osc.device = .running := by simp [a]
  have fa : a.flt.service = (0, false) := rfl
  have shown : t = (a.propagate.tryHumidity.propagate.tryDryness.propagate).dueStartTest.propagate := ht
  have sa := fun b => (entered b).next (spread a b)
  obtain ⟨d1, f1⟩ := device a da
  generalize a.propagate = u at *
  obtain ⟨f2, d2⟩ := u.tryHumidity_flt
  have su := SettledFrom.tryHumidity u
  generalize u.tryHumidity = v at *
  obtain ⟨d3, f3⟩ := device v (by rw [d2, d1])
  have sv := spread v
  generalize v.propagate = w at *
  obtain ⟨f4, d4⟩ := w.tryDryness_flt
  have sw := SettledFrom.tryDryness w
  generalize w.tryDryness = x at *
  obtain ⟨d5, f5⟩ := device x (by rw [d4, d3])
  have sx := spread x
  generalize x.propagate = y at *
  obtain ⟨d6, f6⟩ := device y.dueStartTest d5
  have sy := spread y.dueStartTest
  have due (b : Hum) : SettledFrom [] { y with hum := b } { y.dueStartTest with hum := b } :=
    { SettledFrom.refl [] _ with filters := fun i => by cases i <;> rfl }
  rw [← shown] at d6 f6 sy
  have service : t.flt.service = (0, false) :=
    f6.trans (f5.trans (f4.trans (f3.trans (f2.trans (f1.trans fa)))))
  have chain (b : Hum) := (sa b).trans ((su b).trans ((sv b).trans ((sw b).trans ((sx b).next ((due b).next (sy b))))))
  exact ⟨d6, congrArg Prod.fst service, congrArg Prod.snd service, (chain t.hum).weaken (by simp)⟩

end Demands

end Sys2Proof.Machine

/-- Settles O47. -/
theorem runHourAndServiceTimer : Obligations.RunHourAndServiceTimer := by
  intro s
  refine ⟨fun hdue => ?_, fun hd he => ⟨fun hc => ?_, fun ho => ?_⟩⟩
  · have row : exec .runHour s = .next s.hourPersisted.propagate := if_pos hdue
    obtain ⟨b, tested, hb⟩ := s.hourTested_settled
    obtain ⟨shown, filters, check, hours, due, acc⟩ := s.hourPersisted_same
    have records := State.deriveFilters_records s.hourTested
    have hum := State.deriveFilters_hum s.hourTested
    have data := s.runHour_filter
    have tally := s.runHour_tally
    have starts := s.runHour_starts
    have settled := SettledFrom.propagate s.hourPersisted
    have persisted := s.hourTested.deriveFilters.persist_flt
    have derived := s.hourTested.deriveFilters_flt
    have branch : s.hourPersisted = if s.hourTested.deriveFilters.flt.runHours % 24 = 0
      then s.hourTested.deriveFilters.persist else s.hourTested.deriveFilters := rfl
    generalize s.hourPersisted.propagate = t at *
    generalize s.hourPersisted = v at *
    generalize s.hourTested.deriveFilters = w at *
    generalize s.hourTested = u at *
    have counted : u.flt.runHours = min (s.flt.runHours + 1) 4294967295 := by
      rw [tested.filterRest.1, hb]
      rfl
    obtain ⟨tHours, tAcc, tDue, -, -, -, tWriting, tAgain⟩ := settled.filterRest
    obtain ⟨-, uAcc, uDue, -, -, -, uWriting, uAgain⟩ := tested.filterRest
    have tRun : t.flt.runHours = u.flt.runHours := tHours.trans hours
    have wRun : w.flt.runHours = u.flt.runHours := by rw [derived]
    have wWriting : w.flt.writing = s.flt.writing := by rw [derived, uWriting, hb]; rfl
    have wAgain : w.flt.again = s.flt.again := by rw [derived, uAgain, hb]; rfl
    have whole : SettledFrom [] { s with flt := t.flt, sup := t.sup } t := by
      have first := (tested.onFlt t.flt).onSup t.sup
      have second := records.onFltSup hum t.flt t.sup
      have last := (settled.onFlt t.flt).onSup t.sup
      rw [shown] at last
      exact first.next (second.next last)
    have flags (g : Flag) (h1 : g ≠ .filterDue) (h2 : g ≠ .runOnCut) (h3 : g ≠ .noticesLost) :
        t.sup.flags.get g = s.sup.flags.get g := by
      have vSup : v.sup = w.sup := by rw [shown]
      rw [settled.flags g h2 h3, vSup, records.kept g (by simpa using h1) h3, tested.flags g h2 h3]
    refine ⟨t, row, ?_, ?_, tRun.trans counted, fun i => ?_, fun h1 h2 => ?_, fun h => ⟨fun h1 => ?_, fun h1 h2 h3 h4 h5 => ?_⟩,
      fun h => ?_, fun h h1 => ?_, fun h h1 => ?_, flags, whole⟩
    · rw [tDue, due, uDue, hb]
      rfl
    · rw [tAcc, acc, uAcc, hb]
      rfl
    · obtain ⟨tData, tState, -⟩ := settled.filter i
      rw [tData, tState]
      exact data i
    · have kept := tally (.inl ⟨h1, h2⟩)
      have hoursSince := congrArg (fun y : Option CheckTrigger × Bool × Nat × Option Nat => y.2.2.1) kept
      have scheduled := congrArg (fun y : Option CheckTrigger × Bool × Nat × Option Nat => y.2.1) kept
      refine ⟨hoursSince, scheduled.trans ?_⟩
      simp only [h1, Bool.false_or, decide_eq_false_iff_not]
      exact Nat.not_le.mpr h2
    · have scheduled := congrArg (fun y : Option CheckTrigger × Bool × Nat × Option Nat => y.2.1) (tally (.inr h1))
      exact scheduled.trans (by simp [h])
    · obtain ⟨k, flies⟩ := starts h h1 h2 h3 h4 h5
      exact ⟨flies.trigger, flies.scheduled, flies.hours, flies.phase⟩
    · rw [if_neg (by rwa [wRun, ← tRun])] at branch
      rw [tWriting, tAgain, branch]
      exact ⟨wWriting, wAgain⟩
    · rw [if_pos (by rwa [wRun, ← tRun])] at branch
      obtain ⟨k, c1, c2, snapshot, eq⟩ := persisted.1 (wWriting.trans h1)
      rw [branch] at filters tWriting settled
      have supply : t.flt.supply.data = w.flt.supply.data := by
        have kept := (settled.filter .supply).1
        rw [eq] at kept
        exact kept
      have extract : t.flt.extract.data = w.flt.extract.data := by
        have kept := (settled.filter .extract).1
        rw [eq] at kept
        exact kept
      refine ⟨k, by rw [tWriting, eq], ?_, ?_, ?_⟩
      · rw [snapshot, tRun, ← wRun]
        rfl
      · rw [snapshot, supply]
        rfl
      · rw [snapshot, extract]
        rfl
    · rw [if_pos (by rwa [wRun, ← tRun])] at branch
      have eq := persisted.2 (by rwa [wWriting])
      rw [tWriting, tAgain, branch, eq]
      exact ⟨wWriting, rfl⟩
  · have row : exec .serviceTimerEnd s = .next s.returnToRunning := by
      refine (if_pos ⟨hd, he⟩).trans ?_
      rw [hc]
    generalize ht : s.returnToRunning = t at *
    exact ⟨t, row, State.returnToRunning_settled s ht.symm⟩
  · refine (if_pos ⟨hd, he⟩).trans ?_
    rw [ho]
    rfl

end

section
/-! The evaluation and completion of a filter check. -/

open Sys2Proof Sys2Proof.Machine

namespace Sys2Proof.Machine

section Evaluated

variable {s t : State}

/-! ### One filter -/

theorem scaledPressure_eq (dp q ref : Nat) : scaledPressure dp q ref = min 1200 ((dp * ref ^ 2 + q ^ 2 / 2) / q ^ 2) := by
  rw [scaledPressure, pow_two, pow_two, Nat.mul_assoc]

/-- The loading of a filter with the baseline `base` (R124). -/
theorem loadingOf_eq (p base limit : Nat) : (limit ≤ base → loadingOf p base limit = 100)
    ∧ (base < limit → p < base → loadingOf p base limit = 0)
    ∧ (base < limit → base ≤ p → loadingOf p base limit = min 100 ((p - base) * 100 / (limit - base))) := by
  refine ⟨fun h => if_pos h, fun h1 h2 => ?_, fun h1 h2 => ?_⟩
  · exact (if_neg (Nat.not_le.mpr h1)).trans (if_pos h2)
  · exact (if_neg (Nat.not_le.mpr h1)).trans (if_neg (Nat.not_lt.mpr h2))

theorem historyAppend_eq (h : List (Nat × Nat)) (e : Nat × Nat) : (h.length < 8 → historyAppend h e = h ++ [e])
    ∧ (h.length = 8 → historyAppend h e = h.drop 1 ++ [e]) := by
  refine ⟨fun hl => ?_, fun hl => ?_⟩
  · rw [historyAppend, if_neg (show ¬Config.historyCapacity ≤ h.length from Nat.not_le.mpr hl)]
  · rw [historyAppend, if_pos (show Config.historyCapacity ≤ h.length from hl.ge)]

theorem historyAppend_last (h : List (Nat × Nat)) (e : Nat × Nat) : (historyAppend h e).getLast? = some e := by
  rw [historyAppend, List.getLast?_concat]

/-- The projection from the first and the last entry of a history (R125). -/
theorem projectionOf_eq {h1 p1 h2 p2 limit : Nat} {rest : List (Nat × Nat)}
    (hl : ((h1, p1) :: rest).getLast? = some (h2, p2)) :
    ((rest = [] ∨ p2 ≤ p1 ∨ h2 ≤ h1) → projectionOf ((h1, p1) :: rest) limit = none)
    ∧ (rest ≠ [] → p1 < p2 → h1 < h2 → limit ≤ p2 → projectionOf ((h1, p1) :: rest) limit = some 0)
    ∧ (rest ≠ [] → p1 < p2 → h1 < h2 → p2 < limit →
      projectionOf ((h1, p1) :: rest) limit = some (min 65535 ((limit - p2) * (h2 - h1) / (p2 - p1)))) := by
  have short : (((h1, p1) :: rest).length < 2 ∨ p2 ≤ p1 ∨ h2 ≤ h1) ↔ (rest = [] ∨ p2 ≤ p1 ∨ h2 ≤ h1) := by
    cases rest <;> simp
  have long (hr : rest ≠ []) (hp : p1 < p2) (hh : h1 < h2) : ¬(((h1, p1) :: rest).length < 2 ∨ p2 ≤ p1 ∨ h2 ≤ h1) := by
    rw [short]
    rintro (h | h | h)
    · exact hr h
    · omega
    · omega
  simp only [projectionOf, List.head?_cons, hl]
  refine ⟨fun h => if_pos (short.mpr h), fun hr hp hh hm => ?_, fun hr hp hh hm => ?_⟩
  · exact (if_neg (long hr hp hh)).trans (if_pos hm)
  · exact (if_neg (long hr hp hh)).trans (if_neg (Nat.not_le.mpr hm))

/-- What EVALUATE leaves of an entry whose pressure is `p` (R124, R125). -/
theorem FilterData.evaluate_eq (d : FilterData) (p limit hours : Nat) {e : FilterData} (he : e = d.evaluate p limit hours) :
    e.lastRef = some p ∧ e.hoursSinceChange = d.hoursSinceChange ∧ e.hoursSinceDue = d.hoursSinceDue
      ∧ (d.baseline = none → e.baseline = some p ∧ e.loading = some 0)
      ∧ (∀ base, d.baseline = some base → e.baseline = some base ∧ e.loading = some (loadingOf p base limit))
      ∧ e.baseline ≠ none ∧ e.history = historyAppend d.history (hours, p) ∧ e.projected = projectionOf e.history limit := by
  subst he
  cases h : d.baseline with
  | none => simp [FilterData.evaluate, h]
  | some base => simp [FilterData.evaluate, h]

/-- The state of an evaluated entry whose sensor is sound (R123). -/
theorem Filter.derived_evaluated {f : Filter} (hb : f.data.baseline ≠ none) (hs : f.sensor = .healthy) (n : Nat) :
    f.derived n = if 100 ≤ f.data.loading.getD 0 ∨ n ≤ f.data.hoursSinceChange then
        (if 720 < f.data.hoursSinceDue then .overdue else .due)
      else if 50 ≤ f.data.loading.getD 0 then .loading else .clean := by
  rw [Filter.derived, if_neg (by simpa using hb), if_neg (not_not.mpr hs)]
  rfl

/-! ### The completion -/

/-- The filters verified, derived and with their last outcome, and the check's record, as a completion leaves them (R131). -/
def Flt.completed (f : Flt) (limit now : Nat) : Flt :=
  { f with
    supply := { f.supply.verify.derive limit with lastOutcome := some .completed }
    extract := { f.extract.verify.derive limit with lastOutcome := some .completed }
    check := { f.check with outcome := some .completed, phase := .idle, lastCompleted := some now }
    startTestDue := true }

/-- The sensors of a completed check are verified. -/
def State.verified (s : State) : State :=
  s.updFlt fun t => { t with supply := t.supply.verify, extract := t.extract.verify }

/-- The records at the end of a completed check, before its slot is freed (R131). -/
def State.endsCheck (s : State) (now : Nat) : State :=
  (s.recordCheckEnd .completed).updCheck fun c => { c with lastCompleted := some now }

theorem State.endsCheck_flt (s : State) (now : Nat) : (s.endsCheck now).flt = { s.flt with
    supply := { s.flt.supply with lastOutcome := some .completed }
    extract := { s.flt.extract with lastOutcome := some .completed }
    check := { s.flt.check with outcome := some .completed, phase := .idle, lastCompleted := some now }
    startTestDue := true } := rfl

/-- A completion up to its persisted block (R131). -/
def State.completion (s : State) : State := (s.verified.deriveFilters.endsCheck s.osc.uptime).withdraw .filterCheck

theorem State.completeCheck_eq (s : State) : s.completeCheck = s.completion.persist.raiseFilterResult := by
  have osc : (s.verified.deriveFilters.recordCheckEnd .completed).osc.uptime = s.osc.uptime := by
    change s.verified.deriveFilters.osc.uptime = _
    rw [(State.deriveFilters_records _).osc]
    rfl
  rw [State.completion, ← osc]
  rfl

theorem State.completion_flt (s : State) : s.completion.flt = s.flt.completed (s.setting 64) s.osc.uptime
    ∧ s.completion.arb.table.filterCheck = none := by
  have derived := s.verified.deriveFilters_flt
  unfold State.completion
  generalize s.verified.deriveFilters = d at *
  have ended := d.endsCheck_flt s.osc.uptime
  generalize d.endsCheck s.osc.uptime = r at *
  obtain ⟨flt, arb⟩ := State.applyArb_idle (s := r) (by rw [ended]) (r.arb.free .filterCheck)
  refine ⟨flt.trans (ended.trans ?_), (congrArg (fun a : Arb => a.table.get .filterCheck) arb).trans (Arb.free_get_self _ _)⟩
  rw [derived]
  rfl

/-- What a completion leaves but for FLT and the flags. -/
theorem State.completeCheck_settled (s : State) (b : Flt) (c : Sup) :
    SettledFrom [] { s with flt := b, sup := c } { s.completeCheck with flt := b, sup := c } := by
  have records : SettledFrom [] { s with flt := b, sup := c } { s.verified.deriveFilters with flt := b, sup := c } :=
    (State.deriveFilters_records s.verified).onFltSup (State.deriveFilters_hum _) b c
  rw [State.completeCheck_eq, State.completion]
  generalize s.verified.deriveFilters = d at *
  have ended : SettledFrom [] { d with flt := b, sup := c } { d.endsCheck s.osc.uptime with flt := b, sup := c } := .refl _ _
  have whole := records.next ended
  generalize d.endsCheck s.osc.uptime = r at *
  have withdrawn := (((SettledFrom.withdraw r .filterCheck).forget (.inl rfl)).onFlt b).onSup c
  generalize r.withdraw .filterCheck = w at *
  have persisted : SettledFrom [] { w with flt := b, sup := c } { w.persist with flt := b, sup := c } := .refl _ _
  have raised := ((SettledFrom.raiseFilterResult w.persist).onFlt b).onSup c
  exact whole.next (withdrawn.next (persisted.next raised))

/-- An entry that becomes DUE or OVERDUE sets the flag (R123). -/
theorem State.deriveFilter_flags {i : PathId} (h1 : ((s.flt.filter i).derive (s.setting 64)).state.isDue = true)
    (h2 : (s.flt.filter i).state.isDue = false) : (s.deriveFilter i).sup.flags.get .filterDue = true := by
  have changed : ((s.flt.filter i).derive (s.setting 64)).state ≠ (s.flt.filter i).state := by
    intro e
    rw [e, h2] at h1
    cases h1
  unfold State.deriveFilter State.flagDue
  dsimp only
  rw [if_neg changed, if_pos (by rw [h1, h2]; rfl)]
  rfl

theorem State.deriveFilters_flags {i : PathId} (h1 : ((s.flt.filter i).derive (s.setting 64)).state.isDue = true)
    (h2 : (s.flt.filter i).state.isDue = false) : s.deriveFilters.sup.flags.get .filterDue = true := by
  cases i with
  | supply => exact (State.deriveFilter_records _ _).stay _ (State.deriveFilter_flags h1 h2)
  | extract =>
    have flt := s.deriveFilter_flt .supply
    have setting : (s.deriveFilter .supply).setting 64 = s.setting 64 := by
      rw [State.setting, (s.deriveFilter_records .supply).osc]
      rfl
    have same : (s.deriveFilter .supply).flt.filter .extract = s.flt.filter .extract := by
      rw [flt]
      rfl
    exact State.deriveFilter_flags (by rwa [same, setting]) (by rwa [same])

/-- The scaled pressure of a filter's samples (R124). -/
def State.sampled (s : State) (i : PathId) : Nat :=
  match i with
  | .supply => scaledPressure (s.flt.check.supplyDp / 16) (s.flt.check.supplyQ / 16) (s.setting 10)
  | .extract => scaledPressure (s.flt.check.extractDp / 16) (s.flt.check.extractQ / 16) (s.setting 10)

theorem State.evaluateFilters_filter (s : State) (i : PathId) : s.evaluateFilters.flt.filter i
    = { s.flt.filter i with data := (s.flt.filter i).data.evaluate (s.sampled i) (s.setting (62 + pathCode i)) s.flt.runHours } := by
  cases i <;> rfl

theorem State.evaluateFilters_same (s : State) : s.evaluateFilters = { s with flt := s.evaluateFilters.flt }
    ∧ s.evaluateFilters.flt.check = s.flt.check ∧ s.evaluateFilters.flt.runHours = s.flt.runHours
    ∧ s.evaluateFilters.flt.door = s.flt.door ∧ s.evaluateFilters.flt.writing = s.flt.writing :=
  ⟨rfl, rfl, rfl, rfl, rfl⟩

/-- An evaluated entry as the completion leaves it (R123, R131). -/
def State.completedFilter (s : State) (i : PathId) : Filter :=
  { (s.evaluateFilters.flt.filter i).verify.derive (s.setting 64) with lastOutcome := some .completed }

/-- An entry's data, sensor and state at a completion. -/
theorem State.completedFilter_eq (s : State) (i : PathId) :
    { (s.completedFilter i).data with hoursSinceDue := (s.flt.filter i).data.hoursSinceDue }
        = (s.flt.filter i).data.evaluate (s.sampled i) (s.setting (62 + pathCode i)) s.flt.runHours
      ∧ (s.completedFilter i).sensor
        = (if (s.flt.filter i).sensor = .unverified then .healthy else (s.flt.filter i).sensor)
      ∧ (s.completedFilter i).state = (s.evaluateFilters.flt.filter i).verify.derived (s.setting 64)
      ∧ (s.completedFilter i).lastOutcome = some .completed := by
  obtain ⟨data, -, -⟩ := (s.evaluateFilters.flt.filter i).verify.derive_data (s.setting 64)
  have evaluated : (s.evaluateFilters.flt.filter i).verify.data
      = (s.flt.filter i).data.evaluate (s.sampled i) (s.setting (62 + pathCode i)) s.flt.runHours := by
    rw [State.evaluateFilters_filter]
    rfl
  rw [evaluated] at data
  refine ⟨data, ?_, rfl, rfl⟩
  change (s.evaluateFilters.flt.filter i).verify.sensor = _
  rw [State.evaluateFilters_filter]
  rfl

/-- The state of an entry as a completion derives it, where its sensor is not FAULTED (R123). -/
theorem State.evaluated_derived (s : State) (i : PathId) {e : FilterData}
    (he : e = (s.flt.filter i).data.evaluate (s.sampled i) (s.setting (62 + pathCode i)) s.flt.runHours)
    (hs : (s.flt.filter i).sensor ≠ .faulted) : (s.completedFilter i).state
      = if 100 ≤ e.loading.getD 0 ∨ s.setting 64 ≤ e.hoursSinceChange then
          (if 720 < e.hoursSinceDue then .overdue else .due)
        else if 50 ≤ e.loading.getD 0 then .loading else .clean := by
  obtain ⟨-, -, state, -⟩ := s.completedFilter_eq i
  obtain ⟨-, -, -, -, -, based, -⟩ := FilterData.evaluate_eq _ _ _ _ he
  have data : (s.evaluateFilters.flt.filter i).verify.data = e := by
    rw [s.evaluateFilters_filter i, he]
    rfl
  have sound : (s.evaluateFilters.flt.filter i).verify.sensor = .healthy := by
    rw [s.evaluateFilters_filter i]
    change (if (s.flt.filter i).sensor = .unverified then .healthy else (s.flt.filter i).sensor) = _
    cases h : (s.flt.filter i).sensor with
    | unverified => rfl
    | healthy => rfl
    | faulted => exact absurd h hs
  rw [state, Filter.derived_evaluated (by rwa [data]) sound, data]

/-- FLT after a completion, before what follows from it. -/
theorem State.evaluated_flt (s : State) {c : State} (hc : c = s.evaluateFilters.completeCheck) :
    (∀ i, c.flt.filter i = s.completedFilter i)
      ∧ c.flt.check = { s.flt.check with outcome := some .completed, phase := .idle, lastCompleted := some s.osc.uptime }
      ∧ c.flt.runHours = s.flt.runHours ∧ c.flt.door = s.flt.door ∧ c.arb.table.filterCheck = none
      ∧ (s.flt.writing = none → ∃ w, c.flt.writing = some w ∧ w.snapshot = c.flt.block)
      ∧ (s.flt.writing ≠ none → c.flt.writing = s.flt.writing ∧ c.flt.again = true) := by
  obtain ⟨flt, slot⟩ := s.evaluateFilters.completion_flt
  obtain ⟨idle, busy⟩ := s.evaluateFilters.completion.persist_flt
  obtain ⟨same, sup, ext, check, hours, -, -, door⟩ := s.evaluateFilters.completion.persist_same
  have shown : c.flt = s.evaluateFilters.completion.persist.flt ∧ c.arb = s.evaluateFilters.completion.arb := by
    rw [hc, State.completeCheck_eq, State.raiseFilterResult, State.raise_flt, State.raise_arb]
    exact ⟨rfl, rfl⟩
  obtain ⟨cflt, carb⟩ := shown
  generalize s.evaluateFilters.completion = w at *
  rw [cflt, carb]
  refine ⟨fun i => ?_, ?_, ?_, ?_, slot, fun h => ?_, fun h => ?_⟩
  · cases i with
    | supply =>
      change w.persist.flt.supply = _
      rw [sup, flt]
      rfl
    | extract =>
      change w.persist.flt.extract = _
      rw [ext, flt]
      rfl
  · rw [check, flt]
    rfl
  · rw [hours, flt]
    rfl
  · rw [door, flt]
    rfl
  · obtain ⟨k, c1, c2, snapshot, eq⟩ := idle (by rw [flt]; exact h)
    rw [eq]
    exact ⟨k, rfl, snapshot⟩
  · have eq := busy (by rw [flt]; exact h)
    rw [eq, flt]
    exact ⟨rfl, rfl⟩

/-- An entry that becomes DUE or OVERDUE at a completion sets the flag (R123). -/
theorem State.completed_flags {i : PathId} (h1 : (s.completedFilter i).state.isDue = true)
    (h2 : (s.flt.filter i).state.isDue = false) : s.evaluateFilters.completeCheck.sup.flags.get .filterDue = true := by
  have entry : s.evaluateFilters.verified.flt.filter i = (s.evaluateFilters.flt.filter i).verify := by
    cases i <;> rfl
  have derived : s.evaluateFilters.verified.deriveFilters.sup.flags.get .filterDue = true :=
    State.deriveFilters_flags (i := i) (by rw [entry]; exact h1)
      (by rw [entry, State.evaluateFilters_filter]; exact h2)
  rw [State.completeCheck_eq, State.completion]
  generalize s.evaluateFilters.verified.deriveFilters = d at *
  have ended : (d.endsCheck s.evaluateFilters.osc.uptime).sup.flags.get .filterDue = true := derived
  generalize d.endsCheck s.evaluateFilters.osc.uptime = r at *
  have withdrawn := (SettledFrom.withdraw r .filterCheck).flagsStay _ ended
  generalize r.withdraw .filterCheck = w at *
  exact (SettledFrom.raiseFilterResult w.persist).flagsStay _ withdrawn

theorem State.evaluated_settled (s : State) {t : State} (ht : t = s.evaluateFilters.completeCheck.propagate) :
    SettledFrom [] { s with flt := t.flt, sup := t.sup } t := by
  have completed : SettledFrom [] { s with flt := t.flt, sup := t.sup }
      { s.evaluateFilters.completeCheck with flt := t.flt, sup := t.sup } :=
    s.evaluateFilters.completeCheck_settled t.flt t.sup
  have followed := ((SettledFrom.propagate s.evaluateFilters.completeCheck).onFlt t.flt).onSup t.sup
  rw [← ht] at followed
  exact completed.next followed

end Evaluated

end Sys2Proof.Machine

/-- Settles O46. -/
theorem evaluateCompletes : Obligations.EvaluateCompletes := by
  intro s hp hn
  have row : exec .evaluate s = .next s.evaluateFilters.completeCheck.propagate := if_pos ⟨hp, hn⟩
  obtain ⟨filters, check, hours, door, slot, idle, busy⟩ := s.evaluated_flt rfl
  have settled := SettledFrom.propagate s.evaluateFilters.completeCheck
  have last := s.evaluateFilters.completeCheck.propagate_lastCompleted
  have whole := s.evaluated_settled rfl
  have ended (hq : s.flt.check.scheduledDue = false) :=
    State.CheckEnded.propagate (s := s.evaluateFilters.completeCheck) (by rw [check]) (.inl (by rw [check]; exact hq))
  have flagged (i : PathId) (h1 : (s.completedFilter i).state.isDue = true) (h2 : (s.flt.filter i).state.isDue = false) :
      s.evaluateFilters.completeCheck.sup.flags.get .filterDue = true :=
    State.completed_flags h1 h2
  generalize s.evaluateFilters.completeCheck.propagate = t at *
  generalize s.evaluateFilters.completeCheck = c at *
  obtain ⟨runHours, -, -, doorSame, -, -, writing, again⟩ := settled.filterRest
  refine ⟨t, row, ?_, fun hq => ?_, ?_, fun hw hq => ?_, fun hw => ?_, runHours.trans hours, doorSame.trans door, whole⟩
  · intro i dp q ref p limit old new hdp hq href hlimit _ hp hold hnew
    obtain ⟨data, sensor, state, -⟩ := s.completedFilter_eq i
    have sampled : s.sampled i = p := by
      cases i <;> (rw [State.sampled, scaledPressure_eq, hp, hdp, hq, href])
    have evaluated := FilterData.evaluate_eq (s.flt.filter i).data (s.sampled i) (s.setting (62 + pathCode i)) s.flt.runHours rfl
    have derived := s.evaluated_derived i rfl
    have due (h1 : (s.completedFilter i).state.isDue = true) (h2 : (s.flt.filter i).state.isDue = false) :=
      settled.flagsStay _ (flagged i h1 h2)
    obtain ⟨tdata, tstate, tsensor⟩ := settled.filter i
    rw [filters i] at tdata tstate tsensor
    rw [← hold, sampled, ← hlimit] at evaluated derived
    rw [← hold, sampled, ← hlimit, ← tdata, ← hnew] at data
    rw [tsensor, tstate]
    rw [← data] at evaluated derived
    obtain ⟨last, since, -, fresh, kept, -, history, projected⟩ := evaluated
    have appended : new.history = historyAppend old.history (s.flt.runHours, p) := history
    have ahead : new.projected = projectionOf new.history limit := projected
    refine ⟨last, since, fresh, fun base hb => ?_, ?_, ?_, fun h1 p1 rest hr => ?_, sensor, derived, due⟩
    · obtain ⟨full, none, part⟩ := loadingOf_eq p base limit
      obtain ⟨baseline, loading⟩ := kept base hb
      have loads : new.loading = some (loadingOf p base limit) := loading
      rw [loads]
      exact ⟨baseline, fun h => congrArg some (full h), fun h h' => congrArg some (none h h'),
        fun h h' => congrArg some (part h h')⟩
    · exact fun h => appended.trans ((historyAppend_eq _ _).1 h)
    · exact fun h => appended.trans ((historyAppend_eq _ _).2 h)
    · have newest := historyAppend_last old.history (s.flt.runHours, p)
      rw [← appended, hr] at newest
      rw [ahead, hr]
      exact projectionOf_eq newest
  · have flt := ended hq
    have supply : t.flt.supply = c.flt.supply := flt.filter .supply
    have extract : t.flt.extract = c.flt.extract := flt.filter .extract
    have f1 : c.flt.supply = _ := filters .supply
    have f2 : c.flt.extract = _ := filters .extract
    rw [flt.check, supply, extract, check, f1, f2]
    exact ⟨rfl, rfl, rfl, rfl, flt.slot slot⟩
  · rw [last, check]
  · obtain ⟨w, hw, snapshot⟩ := idle hw
    refine ⟨w, writing.trans hw, ?_⟩
    rw [snapshot, (ended hq).flt]
    rfl
  · obtain ⟨w1, w2⟩ := busy hw
    exact ⟨writing.trans w1, again.trans w2⟩

end

section
/-! FILTER_OPEN where the stack holds a slot that is FREE: the reselection makes it active. -/

open Sys2Proof Sys2Proof.Machine

namespace Sys2Proof.Machine

section Astray

variable {s t : State}

/-- A run-on that a cut condition cuts in SERVICE_PREPARE lets the service begin (R61, R135). -/
theorem State.cutRunOn_prepare (hd : s.osc.device = .servicePrepare) (hr : 0 < s.frg.runOn) (hc : s.cutCondition ≠ none)
    (hp : s.frg.defrost.phase ≠ .prepare) : s.cutRunOn.osc.device = .filterService := by
  obtain ⟨c, hc⟩ := Option.ne_none_iff_exists'.mp hc
  unfold State.cutRunOn
  rw [hc]
  dsimp only
  rw [if_pos hr]
  have same : s.SameTable ((s.updFrg fun g => { g with runOn := 0 }).faultEvent .runOnCut c.code s.frg.runOn) :=
    (State.SameTable.updFrg s rfl).trans (.faultEvent _ _ _ _)
  generalize (s.updFrg fun g => { g with runOn := 0 }).faultEvent .runOnCut c.code s.frg.runOn = w at *
  have waits : w.defrostTimerEnd = w := by
    unfold State.defrostTimerEnd State.tryDefrostPost
    rw [same.defrost, if_neg (fun h => hp h.1), if_neg (fun h => hp h.1)]
  have device : w.osc.device = .servicePrepare := by rw [same.osc, hd]
  unfold State.runOnEnded
  dsimp only
  rw [waits]
  split
  · next h =>
    rw [device] at h
    cases h
  · simp [State.enterFilterService]
  all_goals next h =>
    rw [device] at h
    cases h

theorem SettledFrom.inService {a : List Slot} (h : SettledFrom a s t) (hd : s.osc.device = .filterService) :
    t.osc.device = .filterService := by
  rcases h.device with e | ⟨e, -⟩ | ⟨e, -⟩
  · exact e.trans hd
  · rw [hd] at e
    cases e
  · rw [hd] at e
    cases e

theorem State.heaterAllowed_running (h : s.osc.device ≠ .running) : s.heaterAllowed = false := by
  simp [State.heaterAllowed, h]

/-- With the preheater off and FIRE active, a run-on in SERVICE_PREPARE is cut at once (R61, R135). -/
theorem State.propagate_prepare (hd : s.osc.device = .servicePrepare) (ha : s.frg.applied = 0) (hr : 0 < s.frg.runOn)
    (hf : s.arb.active = some .fire) (hp : s.frg.defrost.phase ≠ .prepare) :
    s.propagate.osc.device = .filterService := by
  have staged := State.Rests.deriveStage s
  have frg := staged.frg
  have first : s.deriveStage.round.osc.device = .filterService := by
    have d1 : s.deriveStage.osc.device = .servicePrepare := by rw [staged.osc, hd]
    have a1 : s.deriveStage.frg.applied = 0 := by rw [frg]; exact ha
    have r1 : 0 < s.deriveStage.frg.runOn := by rw [frg]; exact hr
    have f1 : s.deriveStage.arb.active = some .fire := by rw [staged.arb, hf]
    have p1 : s.deriveStage.frg.defrost.phase ≠ .prepare := by rw [frg]; exact hp
    generalize s.deriveStage = u at *
    have forced := State.SameTable.forceRequest u
    have served := State.SameTable.of_rests (.serveFans u.forceRequest)
    have duty : u.forceRequest.serveFans.deriveDuty = u.forceRequest.serveFans := by
      have off : u.forceRequest.serveFans.frg.applied = 0 := by
        rw [State.serveFans_frg]
        unfold State.forceRequest
        split <;> exact a1
      rw [State.deriveDuty, State.heaterAllowed_running (by rw [served.osc, forced.osc, d1]; decide), State.applyDuty]
      exact if_pos off.symm
    have kept := forced.trans served
    have run : 0 < u.forceRequest.serveFans.frg.runOn := by
      rw [State.serveFans_frg]
      unfold State.forceRequest
      split <;> exact r1
    rw [State.round, duty]
    generalize u.forceRequest.serveFans = v at *
    have cut : v.cutCondition ≠ none := by
      have dv : v.osc.device = .servicePrepare := by rw [kept.osc, d1]
      have av : v.arb.active = some .fire := by rw [kept.arb, f1]
      simp [State.cutCondition, dv, av]
    have entered := State.cutRunOn_prepare (by rw [kept.osc, d1]) run cut (by rw [kept.defrost]; exact p1)
    exact (SettledFrom.startTest v.cutRunOn).inService entered
  have rest (u : State) (h : u.osc.device = .filterService) := (SettledFrom.stagedRound u).inService h
  have after : s.deriveStage.stagedRound.osc.device = .filterService := by
    rw [State.stagedRound]
    generalize s.deriveStage.round = v at *
    exact (SettledFrom.deriveStage v).inService first
  rw [State.propagate]
  generalize s.deriveStage.stagedRound = u at *
  exact rest _ (rest _ (rest _ after))

/-- A check waits as the active demand while the preheater's run-on counts, and the stack holds FIRE although its slot is
FREE. No run reaches such a table, but the statement of FILTER_OPEN speaks of every state. -/
def astray : State :=
  { State.reset with
    osc := { Osc.reset with device := .running }
    arb := { Arb.reset with
      active := some .filterCheck
      stack := [.fire]
      queue := []
      table := { Arb.reset.table with
        filterCheck := some ⟨6, .internal, .flows 150 150, none, 0, 0⟩ } }
    flt := { State.reset.flt with check := { State.reset.flt.check with phase := .waiting } }
    frg := { State.reset.frg with runOn := 20 }
    lnk := { State.reset.lnk with service := { LinkRec.reset with
      waiting := [{ kind := 0x0B, tag := 0, payload := [1] }] } } }

theorem astray_hands :
    astray.hands .service .filterOpen { kind := 0x0B, tag := 0, payload := [1] } .system [] :=
  ⟨by decide, by decide, ⟨1, .system, by decide, by decide, by decide⟩, by decide, by decide⟩

/-- The check abandoned, the winner of the reselection is FIRE. -/
theorem astray_abandoned : ((astray.handed .service).abandonCheck .deferred).arb.active = some .fire := by
  rw [(State.abandonCheck_flies (s := astray.handed .service) (by decide) .deferred).2]
  decide

/-- No report reaches the defrost record, which is IDLE. -/
theorem astray_waits : ((astray.handed .service).abandonCheck .deferred).frg.defrost.phase ≠ .prepare := by
  decide

theorem astray_opens {t : State} (ht : t = (astray.handed .service).filterOpen) :
    t.osc.device = .filterService ∧ t.lnk.restarting = none := by
  have only : (astray.handed .service).TableOnly ((astray.handed .service).abandonCheck .deferred) := .abandonCheck .deferred
  have shown : t = (((astray.handed .service).abandonCheck .deferred).setDevice .servicePrepare).propagate := ht
  have settled := SettledFrom.abandonCheck (astray.handed .service) .deferred
  have quiet : ((astray.handed .service).abandonCheck .deferred).lnk.restarting = none := settled.restarting
  have fire := astray_abandoned
  have phase := astray_waits
  rw [shown]
  generalize (astray.handed .service).abandonCheck .deferred = a at *
  have applied : a.frg.applied = 0 := by rw [only.frg]; rfl
  have runOn : a.frg.runOn = 20 := by rw [only.frg]; rfl
  refine ⟨State.propagate_prepare (by simp [State.setDevice]) (by simpa [State.setDevice] using applied)
    (by simp [State.setDevice, runOn]) (by simpa [State.setDevice] using fire) (by simpa [State.setDevice] using phase), ?_⟩
  refine (SettledFrom.propagate _).restarting.trans ?_
  exact (SettledFrom.raise _ _ _ _).restarting.trans quiet

theorem astray_taken : actFilterOpen (astray.handed .service) .system [] = ((astray.handed .service).filterOpen,
    ⟨.ok, u8 (if (astray.handed .service).heaterIdle then DevState.filterService else .servicePrepare).code⟩) := by
  unfold actFilterOpen
  rw [if_neg (by decide), requireOrigin_from (by decide), if_neg (by decide)]

end Astray

end Sys2Proof.Machine

/-- Refutes O22: where the stack holds FIRE although its slot is FREE, abandoning the waiting check makes FIRE the active slot,
which cuts the run-on, so FILTER_OPEN enters FILTER_SERVICE at once; the demand table is in order in no such state. -/
theorem not_filterServiceRequests : ¬ Obligations.FilterServiceRequests := by
  intro h
  obtain ⟨-, -, -, accepted⟩ := (h .service astray _ .system 0).1 astray_hands
  obtain ⟨-, cooling⟩ := accepted (by decide) (by decide) (.inr (by decide)) (.inl (by decide))
  obtain ⟨u, row, -, -, -, stays, -⟩ := cooling (.inr (by decide))
  obtain ⟨device, -⟩ := stays (by decide) (.inr (by decide))
  have hr := astray_taken
  generalize ht : (astray.handed .service).filterOpen = t at *
  obtain ⟨enters, quiet⟩ := astray_opens ht.symm
  have answered := astray_hands.leads quiet hr
  have same : (t.holding .service _).afterReply .service _ .system _ = u.afterReply .service _ .system _ :=
    answered.symm.trans (Host.Outcome.next.inj row)
  have kept := congrArg State.osc same
  have osc : t.osc = u.osc := kept
  rw [← osc, enters] at device
  cases device

end

section
/-! The timers of the sensor table: the poll round, the ends of the pauses, and the ring tick with the dryness record. -/

open Sys2Proof Sys2Proof.Machine

namespace Sys2Proof.Machine

section Held

variable {s t : State} {x : Slot} {n : Nat} {c : Carry} {r : Option Nat}

/-! ### Demands of the part's own -/

/-- The slot holds a demand that the part itself has posted. -/
def State.Internal (s : State) (x : Slot) (n : Nat) (c : Carry) (r : Option Nat) : Prop :=
  ∃ d, s.arb.table.get x = some d ∧ d.level = n ∧ d.origin = .internal ∧ d.carry = c ∧ d.run = r

theorem State.Internal.of_same (h : s.Internal x n c r) (same : SameDemand (s.arb.table.get x) (t.arb.table.get x)) :
    t.Internal x n c r := by
  obtain ⟨d, hd, level, origin, carry, run⟩ := h
  rw [hd] at same
  obtain ⟨b, hb, level', origin', carry', run', -⟩ := same.of_some
  exact ⟨b, hb, level'.trans level, origin'.trans origin, carry'.trans carry, run'.trans run⟩

theorem State.Internal.settled (h : s.Internal x n c r) {a : List Slot} (settled : SettledFrom a s t) (hx : x ∉ a)
    (h1 : x ≠ .filterCheck) (h2 : x ≠ .defrost) : t.Internal x n c r :=
  h.of_same (settled.slots x hx h1 h2)

/-- A post of the part fills its slot. -/
theorem State.applyPost_internal (s : State) (h1 : x ≠ .filterCheck) (h2 : x ≠ .defrost) (n : Nat) (c : Carry) (r : Option Nat) :
    (s.applyArb (s.arb.post x (internalArgs n c r) s.osc.uptime)).Internal x n c r := by
  have reported := SettledFrom.reported s (s.arb.post x (internalArgs n c r) s.osc.uptime) (Arb.post_reports _ _ _ _)
  have kept := (Arb.post_record s.arb x (internalArgs n c r) s.osc.uptime).trans (reported.slots x (by simp) h1 h2)
  obtain ⟨level, origin, carry, run, -⟩ := (internalArgs n c r).record_eq (s.arb.table.get x) s.osc.uptime
  obtain ⟨d, hd, level', origin', carry', run', -⟩ := kept.of_some
  exact ⟨d, hd, level'.trans level, origin'.trans origin, carry'.trans carry, run'.trans run⟩

theorem SettledFrom.slotNone {a : List Slot} (settled : SettledFrom a s t) (h : s.arb.table.get x = none) (hx : x ∉ a)
    (h1 : x ≠ .filterCheck) (h2 : x ≠ .defrost) : t.arb.table.get x = none := by
  have same := settled.slots x hx h1 h2
  rw [h] at same
  exact same.of_none

theorem SettledFrom.working {a : List Slot} (h : SettledFrom a s t) : t.osc.working = s.osc.working := by
  have kept := congrArg Osc.working h.osc
  exact kept

/-! ### HUMIDITY and DRYNESS -/

/-- HUMIDITY is posted where it is due (R113). -/
theorem State.tryHumidity_posts (due : s.hum.humidityDue = true) (mark : s.hum.humidityMark = false)
    (hd : s.osc.device = .running) (hw : s.arb.watch.enabled = false) :
    s.tryHumidity.hum.humidityMark = true
      ∧ s.tryHumidity.Internal .humidity 7 (.flows (s.setting 6) (s.setting 6)) none := by
  have posted := State.internalPost_missed (s := s) (x := .humidity) (n := 7)
    (c := .flows (s.setting 6) (s.setting 6)) (run := none) (by simp [hd, DevState.posting]) (Watch.hits_disabled hw _ _ _)
  unfold State.tryHumidity
  rw [if_pos ⟨due, mark, hd⟩, posted]
  exact ⟨rfl, s.applyPost_internal (by decide) (by decide) _ _ _⟩

/-- DRYNESS is posted where it is due (R113). -/
theorem State.tryDryness_posts (due : s.hum.dryOn = true) (mark : s.hum.drynessMark = false)
    (hd : s.osc.device = .running) (hw : s.arb.watch.enabled = false) :
    s.tryDryness.hum.drynessMark = true
      ∧ s.tryDryness.Internal .dryness 2 (.flows (s.setting 9) (s.setting 9)) none := by
  have posted := State.internalPost_missed (s := s) (x := .dryness) (n := 2)
    (c := .flows (s.setting 9) (s.setting 9)) (run := none) (by simp [hd, DevState.posting]) (Watch.hits_disabled hw _ _ _)
  unfold State.tryDryness
  rw [if_pos ⟨due, mark, hd⟩, posted]
  exact ⟨rfl, s.applyPost_internal (by decide) (by decide) _ _ _⟩

end Held

theorem State.updSensor_bus (s : State) (n : Nat) (f : Sensor → Sensor) : (s.updSensor n f).hum.bus = s.hum.bus := by
  change (s.hum.updSensor n f).bus = _
  unfold Hum.updSensor
  split <;> rfl

/-! ### The poll round -/

section Poll

variable {s : State}

/-- Offers of different entries join the queue where they are not in it yet (R91). -/
theorem Bus.offers_eq (k : BusKind) (l : List Nat) (hl : l.Nodup) (b : Bus) : l.foldl (fun b n => b.offer n k) b
    = { b with queue := b.queue ++ (l.filter fun n => !b.queue.contains (n, k)).map fun n => (n, k) } := by
  induction l generalizing b with
  | nil => simp
  | cons x l ih =>
    obtain ⟨hx, hl⟩ := List.nodup_cons.mp hl
    rw [List.foldl_cons, ih hl, Bus.offer_eq]
    by_cases hq : (x, k) ∈ b.queue
    · simp [hq]
    · have others : l.filter (fun n => !(b.queue ++ [(x, k)]).contains (n, k))
          = l.filter fun n => !b.queue.contains (n, k) := by
        refine List.filter_congr fun n hn => ?_
        have ne : n ≠ x := fun e => hx (e ▸ hn)
        simp [ne]
      simp only [if_neg hq, others]
      simp [hq]

theorem State.offersBus_eq (k : BusKind) (l : List Nat) (s : State) : l.foldl (fun s n => s.offerBus n k) s
    = s.updHum fun h => { h with bus := l.foldl (fun b n => b.offer n k) h.bus } := by
  induction l generalizing s with
  | nil => rfl
  | cons x l ih =>
    rw [List.foldl_cons, ih]
    rfl

theorem State.pollRound_eq (s : State) : s.pollRound = { s with hum := { s.hum with bus := { s.hum.bus with
    queue := s.hum.bus.queue ++ ([1, 2, 3, 4, 5, 6, 7, 8].filter fun n => (s.hum.sensor n).any (·.state == .online)
      && !s.hum.bus.queue.contains (n, .measure)).map fun n => (n, BusKind.measure) } } } := by
  have online : s.pollRound = (sensorIndexes.filter fun n => (s.hum.sensor n).any (·.state == .online)).foldl
      (fun s n => s.offerBus n .measure) s := by
    refine congrArg (List.foldl _ s) (List.filter_congr fun n _ => ?_)
    cases s.hum.sensor n <;> rfl
  have nodup : (sensorIndexes.filter fun n => (s.hum.sensor n).any (·.state == .online)).Nodup :=
    List.Nodup.filter _ (by decide)
  rw [online, State.offersBus_eq, State.updHum, Bus.offers_eq _ _ nodup, List.filter_filter]
  simp only [Bool.and_comm]
  rfl

end Poll

/-! ### The ring tick -/

section Ring

variable {s t : State}

/-- The rings after a tick (R105). -/
def State.ringTicked (s : State) : State := s.updHum fun h =>
  { h with ringTimer := h.ringTimer - Config.ringSeconds, sensors := h.sensors.map (·.tick s.osc.uptime) }

/-- A ring tick with what follows. -/
def State.ringTick (s : State) : State := s.ringTicked.evaluateDryness.propagate.tryHumidity.propagate.tryDryness.propagate

theorem ringAppend_eq {ring : List Nat} (h : ring.length ≤ 6) (v : Nat) : ringAppend ring v = ring.drop (ring.length - 5) ++ [v] := by
  unfold ringAppend
  split
  · next full =>
    have : ring.length - 5 = 1 := by
      have : 6 ≤ ring.length := full
      omega
    rw [this]
  · next room =>
    have : ring.length - 5 = 0 := by
      have : ¬6 ≤ ring.length := room
      omega
    rw [this, List.drop_zero]

/-- A tick of an entry appends its last humidity where the reading is fresh (R105). -/
theorem Sensor.tick_fresh {e : Sensor} {now v : Nat} (h : e.ring.length ≤ 6) (hf : e.fresh now = true) (hv : e.lastHum = some v) :
    e.tick now = { e with ring := e.ring.drop (e.ring.length - 5) ++ [v] } := by
  have fresh : e.freshHum now = some v := by rw [Sensor.freshHum, if_pos hf, hv]
  rw [← ringAppend_eq h]
  unfold Sensor.tick
  rw [fresh]

theorem Sensor.tick_stale {e : Sensor} {now : Nat} (h : e.fresh now = false ∨ e.lastHum = none) : e.tick now = e := by
  have stale : e.freshHum now = none := by
    unfold Sensor.freshHum
    rcases h with h | h <;> simp [h]
  unfold Sensor.tick
  rw [stale]

theorem Sensor.tick_kept (e : Sensor) (now : Nat) : e.tick now = { e with ring := (e.tick now).ring } := by
  unfold Sensor.tick
  split <;> rfl

/-- The dryness average leaves the rings aside (R112). -/
theorem State.ringTicked_dryness (s : State) : s.ringTicked.hum.dryness s.osc.uptime = s.hum.dryness s.osc.uptime := by
  have qualifies : (fun e : Sensor => (e.tick s.osc.uptime).qualifies s.osc.uptime) = fun e => e.qualifies s.osc.uptime := by
    funext e
    rw [e.tick_kept]
    rfl
  have last : (fun e : Sensor => (e.tick s.osc.uptime).lastHum) = fun e => e.lastHum := by
    funext e
    rw [e.tick_kept]
  have same : ((s.hum.sensors.map (·.tick s.osc.uptime)).filter fun e => e.qualifies s.osc.uptime).filterMap (·.lastHum)
      = (s.hum.sensors.filter fun e => e.qualifies s.osc.uptime).filterMap (·.lastHum) := by
    rw [List.filter_map, List.filterMap_map]
    simp only [Function.comp_def, qualifies, last]
  unfold Hum.dryness
  exact congrArg (fun l : List Nat => (if l.isEmpty then none else some (l.sum / l.length), l.length)) same

theorem Sensor.qualifies_eq (e : Sensor) (now : Nat) : e.qualifies now
    = ((e.role == .wetRoom || e.role == .dryRoom) && e.fresh now && !(e.boost.any (·.state == .boost))) := by
  have room : e.role.room = (e.role == .wetRoom || e.role == .dryRoom) := by cases e.role <;> rfl
  have boosting : e.boosting = e.boost.any (·.state == .boost) := by
    unfold Sensor.boosting
    cases e.boost <;> rfl
  rw [Sensor.qualifies, room, boosting]

theorem Hum.dryness_eq (h : Hum) (now : Nat) {hums : List Nat}
    (hh : hums = (h.sensors.filter fun e => (e.role == .wetRoom || e.role == .dryRoom) && e.fresh now
      && !(e.boost.any (·.state == .boost))).filterMap (·.lastHum)) :
    (h.dryness now).2 = hums.length ∧ (hums = [] → (h.dryness now).1 = none)
      ∧ (hums ≠ [] → (h.dryness now).1 = some (hums.sum / hums.length)) := by
  have same : hums = (h.sensors.filter fun e => e.qualifies now).filterMap (·.lastHum) := by
    simp only [hh, Sensor.qualifies_eq]
  unfold Hum.dryness
  dsimp only
  rw [← same]
  refine ⟨rfl, fun e => if_pos (by simp [e]), fun e => if_neg (by simpa using e)⟩

/-- The dryness record (R112). -/
theorem dryNext_eq (a threshold : Nat) (invalid : Bool) (oda : Int) :
    (∀ on, dryNext on none threshold invalid oda = false)
      ∧ (dryNext false (some a) threshold invalid oda = true ↔ a < threshold ∧ invalid = false ∧ oda < 50)
      ∧ (dryNext true (some a) threshold invalid oda = false ↔ threshold + 50 < a ∨ invalid = false ∧ 80 ≤ oda) := by
  refine ⟨fun on => by cases on <;> rfl, ?_, ?_⟩
  · simp [dryNext, and_assoc]
  · simp [dryNext, or_iff_not_imp_left]

/-- HUM after the dryness evaluation (R112, R113). -/
theorem State.evaluateDryness_hum (s : State) {on : Bool}
    (hon : on = dryNext s.hum.dryOn (s.hum.dryness s.osc.uptime).1 (s.setting 44) (s.frg.oda.status == .invalid)
      s.frg.odaInUse) :
    s.evaluateDryness.hum = { s.hum with
        dryOn := on, dryAverage := (s.hum.dryness s.osc.uptime).1, dryCount := (s.hum.dryness s.osc.uptime).2
        drynessMark := on && s.hum.drynessMark }
      ∧ (s.hum.drynessMark = true → on = false → s.evaluateDryness.arb.table.dryness = none)
      ∧ ∀ b, SettledFrom [.dryness] { s with hum := b } { s.evaluateDryness with hum := b } := by
  have ends := SettledFrom.endDryness (s.updHum fun h =>
    { h with dryOn := on, dryAverage := (s.hum.dryness s.osc.uptime).1, dryCount := (s.hum.dryness s.osc.uptime).2 })
  have shown : s.evaluateDryness = (s.updHum fun h => { h with
      dryOn := on, dryAverage := (s.hum.dryness s.osc.uptime).1, dryCount := (s.hum.dryness s.osc.uptime).2 }).endDryness := by
    rw [hon]
    rfl
  rw [shown]
  refine ⟨?_, fun hm ho => ?_, ends⟩
  · unfold State.endDryness
    split
    · next h =>
      obtain ⟨off, mark⟩ := h
      have off : on = false := off
      rw [(SettledFrom.withdraw _ .dryness).hum, off]
      rfl
    · next h =>
      cases on with
      | true => rfl
      | false =>
        have mark : s.hum.drynessMark = false := by simpa using h
        simp [mark]
  · unfold State.endDryness
    rw [if_pos ⟨ho, hm⟩]
    exact State.withdraw_free .dryness

theorem State.ringTicked_sensor (s : State) {n : Nat} {e : Sensor} (h : s.hum.sensor n = some e) :
    s.ringTicked.hum.sensor n = some (e.tick s.osc.uptime) := by
  have n0 := Hum.sensor_some h
  unfold Hum.sensor at h ⊢
  rw [if_neg n0] at h ⊢
  change (s.hum.sensors.map _)[n - 1]? = _
  rw [List.getElem?_map, h]
  rfl

theorem State.ringTick_settled (s : State) (b : Hum) :
    SettledFrom [.humidity, .dryness] { s with hum := b } { s.ringTick with hum := b } := by
  have ticked : SettledFrom [] { s with hum := b } { s.ringTicked with hum := b } := .refl _ _
  have spread (u : State) : SettledFrom [] { u with hum := b } { u.propagate with hum := b } :=
    (SettledFrom.propagate u).onHum b
  have evaluated := (s.ringTicked.evaluateDryness_hum rfl).2.2 b
  unfold State.ringTick
  generalize s.ringTicked.evaluateDryness = u at *
  have c1 := spread u
  generalize u.propagate = v at *
  have c2 := SettledFrom.tryHumidity v b
  generalize v.tryHumidity = w at *
  have c3 := spread w
  generalize w.propagate = x at *
  have c4 := SettledFrom.tryDryness x b
  generalize x.tryDryness = y at *
  have c5 := spread y
  exact (ticked.trans (evaluated.trans (c1.trans (c2.trans (c3.trans (c4.trans c5)))))).weaken (by simp)

/-- HUM after a ring tick, but for HUMIDITY's mark, and DRYNESS (R105, R112, R113). -/
theorem State.ringTick_hum (s : State) {on : Bool}
    (hon : on = dryNext s.hum.dryOn (s.hum.dryness s.osc.uptime).1 (s.setting 44) (s.frg.oda.status == .invalid)
      s.frg.odaInUse) {t : State} (ht : t = s.ringTick) :
    (∃ m d, t.hum = { s.ringTicked.hum with
        dryOn := on, dryAverage := (s.hum.dryness s.osc.uptime).1, dryCount := (s.hum.dryness s.osc.uptime).2
        humidityMark := m, drynessMark := d })
      ∧ (on = true → s.hum.drynessMark = false → s.osc.device = .running → s.arb.watch.enabled = false →
        t.hum.drynessMark = true ∧ t.Internal .dryness 2 (.flows (s.setting 9) (s.setting 9)) none)
      ∧ (s.hum.drynessMark = true → on = false → t.hum.drynessMark = false ∧ t.arb.table.dryness = none) := by
  obtain ⟨dHum, freed, settled⟩ := s.ringTicked.evaluateDryness_hum (on := on)
    (hon.trans (by rw [show s.ringTicked.osc = s.osc from rfl, s.ringTicked_dryness]; rfl))
  rw [show s.ringTicked.osc = s.osc from rfl, s.ringTicked_dryness] at dHum
  have settled := settled s.hum
  have arrives : s.osc.device = .running → s.ringTicked.evaluateDryness.osc.device = .running := settled.running
  have watched : s.ringTicked.evaluateDryness.arb.watch = s.arb.watch := settled.watch
  have setting : s.ringTicked.evaluateDryness.osc.working = s.osc.working := settled.working
  unfold State.ringTick at ht
  generalize s.ringTicked.evaluateDryness = u at *
  have c1 := SettledFrom.propagate u
  generalize u.propagate = v at *
  obtain hum2 := v.tryHumidity_hum
  have c2 := SettledFrom.tryHumidity v s.hum
  generalize v.tryHumidity = w at *
  have c3 := SettledFrom.propagate w
  generalize w.propagate = x at *
  have hum4 := x.tryDryness_hum
  have posts := State.tryDryness_posts (s := x)
  have idle : x.hum.dryOn = false → x.tryDryness = x := fun h => if_neg (by simp [h])
  generalize hy : x.tryDryness = y at *
  have c5 := SettledFrom.propagate y
  rw [← ht] at c5
  have humX : ∃ m, x.hum = { u.hum with humidityMark := m } := by
    rcases hum2 with e | e
    · exact ⟨u.hum.humidityMark, by rw [c3.hum, e, c1.hum]⟩
    · exact ⟨true, by rw [c3.hum, e, c1.hum]⟩
  obtain ⟨m, humX⟩ := humX
  have dryX : x.hum.dryOn = on ∧ x.hum.drynessMark = (on && s.hum.drynessMark) := by
    rw [humX, dHum]
    exact ⟨rfl, rfl⟩
  refine ⟨?_, fun ho hm hd hw => ?_, fun hm ho => ?_⟩
  · rcases hum4 with e | e
    · exact ⟨m, on && s.hum.drynessMark, by rw [c5.hum, e, humX, dHum]; rfl⟩
    · exact ⟨m, true, by rw [c5.hum, e, humX, dHum]⟩
  · have device : x.osc.device = .running := c3.running (c2.running (c1.running (arrives hd)))
    have watch : x.arb.watch = s.arb.watch := c3.watch.trans (c2.watch.trans (c1.watch.trans watched))
    have work : x.osc.working = s.osc.working := c3.working.trans (c2.working.trans (c1.working.trans setting))
    obtain ⟨mark, made⟩ := posts (dryX.1.trans ho) (by rw [dryX.2, hm, Bool.and_false]) device (by rw [watch, hw])
    have same : x.setting 9 = s.setting 9 := congrArg (fun l => settingNat l 9) work
    rw [same] at made
    exact ⟨by rw [c5.hum, mark], made.settled c5 (by simp) (by decide) (by decide)⟩
  · have e := idle (dryX.1.trans ho)
    subst e
    refine ⟨by rw [c5.hum, dryX.2, ho, Bool.false_and], ?_⟩
    have v1 := c1.slotNone (x := .dryness) (freed hm ho) (by simp) (by decide) (by decide)
    have v2 := c2.slotNone v1 (by simp) (by decide) (by decide)
    exact c5.slotNone (c3.slotNone v2 (by simp) (by decide) (by decide)) (by simp) (by decide) (by decide)

end Ring

end Sys2Proof.Machine

/-- Settles O43. -/
theorem sensorTimersEnd : Obligations.SensorTimersEnd := by
  intro s
  refine ⟨fun m hm h10 => ?_, fun n e hn hs hp => ?_, fun n e hn hs hl => ?_, fun ha hr => ?_⟩
  · have row : exec .pollRound s
        = .next (s.updHum fun h => { h with pollTimer := some (m - Config.tenSeconds) }).pollRound := by
      change execPollRound s = _
      unfold execPollRound
      rw [hm]
      exact if_pos h10
    rw [row, State.pollRound_eq]
    rfl
  · have row : exec (.probePauseEnd n) s
        = .next ((s.updSensor n fun e => { e with pause := none }).offerBus n .probe) := by
      change execProbePauseEnd n s = _
      unfold execProbePauseEnd
      rw [hn]
      exact if_pos ⟨hs, hp⟩
    obtain ⟨entry, others⟩ := Hum.updSensor_sensor hn fun e => { e with pause := none }
    have n0 := Hum.sensor_some hn
    refine ⟨_, row, rfl, entry, others, ?_⟩
    have bus := s.updSensor_bus n fun e => { e with pause := none }
    exact (Bus.offer_eq _ n .probe).trans (by rw [bus])
  · have row : exec (.lostTimeEnd n) s = .next (s.enterProbing n) := by
      change execLostTimeEnd n s = _
      unfold execLostTimeEnd
      rw [hn]
      exact if_pos ⟨hs, hl⟩
    obtain ⟨records, flt, sensors, bus⟩ := s.enterProbing_same n
    obtain ⟨entry, others⟩ := Hum.updSensor_sensor hn fun e =>
      { e with attempts := 0, pause := none, lostTime := 0, state := .probing }
    exact ⟨_, row, records.settledHum flt, (Hum.sensor_of_sensors sensors n).trans entry,
      fun m hm => (Hum.sensor_of_sensors sensors m).trans (others m hm), bus.trans (Bus.offer_eq _ _ _)⟩
  · have row : exec .ringTick s = .next s.ringTick := if_pos ⟨ha, hr⟩
    have settled := s.ringTick_settled
    generalize hon : dryNext s.hum.dryOn (s.hum.dryness s.osc.uptime).1 (s.setting 44) (s.frg.oda.status == .invalid)
      s.frg.odaInUse = on
    obtain ⟨⟨m, d, hum⟩, posts, ends⟩ := s.ringTick_hum hon.symm rfl
    generalize s.ringTick = t at *
    have dryOn : t.hum.dryOn = on := by rw [hum]
    refine ⟨t, row, by rw [hum]; rfl, settled t.hum, fun n e hn => ?_, fun hums hh => ?_, fun h1 h2 h3 h4 h5 => ?_, fun h1 h2 => ?_⟩
    · by_cases room : e.ring.length ≤ 6
      · refine .inl ?_
        have ticked : t.hum.sensor n = some (e.tick s.osc.uptime) := by
          rw [hum]
          exact s.ringTicked_sensor hn
        rw [ticked, e.tick_kept]
        refine congrArg (fun r => some { e with ring := r }) ?_
        cases hv : e.lastHum with
        | none => exact congrArg Sensor.ring (Sensor.tick_stale (.inr hv))
        | some v =>
          cases hf : e.fresh s.osc.uptime with
          | false => exact congrArg Sensor.ring (Sensor.tick_stale (.inl hf))
          | true => exact congrArg Sensor.ring (Sensor.tick_fresh room hf hv)
      · exact .inr (Nat.not_le.mp room)
    · obtain ⟨count, none, some⟩ := s.hum.dryness_eq s.osc.uptime hh
      have invalid : (s.frg.oda.status == .invalid) = false ↔ s.frg.oda.status ≠ .invalid := by simp
      refine ⟨by rw [hum]; exact count, fun h => ⟨by rw [hum]; exact none h, ?_⟩, fun h => ⟨by rw [hum]; exact some h, ?_, ?_⟩⟩
      · rw [dryOn, ← hon, none h]
        exact (dryNext_eq 0 _ _ _).1 _
      · intro off
        rw [dryOn, ← hon, some h, off, ← invalid]
        exact (dryNext_eq _ _ _ _).2.1
      · intro on'
        rw [dryOn, ← hon, some h, on', ← invalid]
        exact (dryNext_eq _ _ _ _).2.2
    · exact posts (dryOn ▸ h2) h3 h4 h5
    · exact ends h1 (dryOn ▸ h2)

end

section
/-! A boost record starts, ends, reaches its limit and leaves its holdoff. -/

open Sys2Proof Sys2Proof.Machine

namespace Sys2Proof.Machine

section Boosts

variable {s t : State} {n : Nat}

/-! ### The tests of a reading -/

theorem ringMin_eq (l : List Nat) : ringMin l = l.min? := by
  cases l <;> rfl

/-- The level before a rise (R107). -/
theorem preRise_eq {ring : List Nat} {rh pre : Nat} (h1 : ring.length < 3 → pre = rh)
    (h2 : 3 ≤ ring.length → pre ∈ ring ∧ ∀ v ∈ ring, pre ≤ v) : preRise ring rh = pre := by
  unfold preRise
  split
  · next h =>
    rw [ringMin_eq, List.min?_eq_some_iff.mpr (h2 h)]
    rfl
  · next h => exact (h1 (Nat.not_le.mp h)).symm

/-- What starts a boost at a reading (R107). -/
theorem boostTest_eq (ring : List Nat) (rh a r : Nat) :
    ((a ≤ rh ∨ 3 ≤ ring.length ∧ 400 ≤ rh ∧ preRise ring rh + r ≤ rh) →
      boostTest ring rh a r = some (if a ≤ rh then .absolute else .rise))
    ∧ (rh < a → (ring.length < 3 ∨ rh < 400 ∨ rh < preRise ring rh + r) → boostTest ring rh a r = none) := by
  refine ⟨fun h => ?_, fun h1 h2 => ?_⟩
  · unfold boostTest
    by_cases ha : a ≤ rh
    · rw [if_pos ha, if_pos ha]
    · rw [if_neg ha, if_neg ha, if_pos (h.resolve_left ha)]
  · unfold boostTest
    rw [if_neg (Nat.not_le.mpr h1), if_neg]
    omega

/-- The end conditions of a boost (R109). -/
theorem Boost.endsAt_iff {b : Boost} {x : Nat} (hx : b.endTarget = some x) (rh minimum rhAbs : Nat) :
    b.endsAt rh minimum rhAbs = true ↔ minimum ≤ b.time ∧ rh ≤ x ∧ rh + 50 < rhAbs := by
  simp [Boost.endsAt, hx, and_assoc]

/-! ### HUMIDITY is due -/

theorem Hum.humidityDue_iff (h : Hum) :
    h.humidityDue = true ↔ ∃ k f b, h.sensor k = some f ∧ f.boost = some b ∧ b.state = .boost := by
  have boosting (f : Sensor) : f.boosting = true ↔ ∃ b, f.boost = some b ∧ b.state = .boost := by
    unfold Sensor.boosting
    cases f.boost <;> simp
  simp only [Hum.humidityDue, List.any_eq_true, boosting]
  constructor
  · rintro ⟨f, hf, b, hb, hs⟩
    obtain ⟨i, hi⟩ := List.mem_iff_getElem?.mp hf
    exact ⟨i + 1, f, b, by simpa [Hum.sensor] using hi, hb, hs⟩
  · rintro ⟨k, f, b, hk, hb, hs⟩
    have k0 := Hum.sensor_some hk
    rw [Hum.sensor, if_neg k0] at hk
    exact ⟨f, List.mem_of_getElem? hk, b, hb, hs⟩

theorem Hum.humidityDue_false {h : Hum} (hk : ∀ k f b, h.sensor k = some f → f.boost = some b → b.state ≠ .boost) :
    h.humidityDue = false := by
  rw [Bool.eq_false_iff, Ne, Hum.humidityDue_iff]
  rintro ⟨k, f, b, h1, h2, h3⟩
  exact hk k f b h1 h2 h3

theorem Hum.humidityDue_of_sensors {h k : Hum} (e : h.sensors = k.sensors) : h.humidityDue = k.humidityDue := by
  rw [Hum.humidityDue, e]
  rfl

/-! ### Start and end -/

/-- HUM with the boost of entry `n` changed. -/
def Hum.boostSet (h : Hum) (n : Nat) (f : Boost → Boost) : Hum := h.updSensor n fun e => { e with boost := e.boost.map f }

/-- Entry `n` with its boost changed, and the notice. -/
def State.boostNoted (s : State) (n : Nat) (f : Boost → Boost) (v : Int) : State :=
  (s.updSensor n fun e => { e with boost := e.boost.map f }).raise .humidityBoost n v

theorem State.startBoost_eq (s : State) (n : Nat) (c : BoostTrigger) (pre : Nat) : s.startBoost n c pre
    = if s.hum.humidityDue then s.boostNoted n (fun b => b.start c s.osc.uptime pre) 0
      else (s.boostNoted n (fun b => b.start c s.osc.uptime pre) 0).tryHumidity := rfl

theorem State.endBoost_eq (s : State) (n : Nat) (f : Boost → Boost) : s.endBoost n f = (s.boostNoted n f 1).endHumidity := rfl

theorem State.boostNoted_hum (s : State) (n : Nat) (f : Boost → Boost) (v : Int) :
    (s.boostNoted n f v).hum = s.hum.boostSet n f := by
  rw [State.boostNoted, State.raise_hum]
  rfl

theorem SettledFrom.boostNoted (s : State) (n : Nat) (f : Boost → Boost) (v : Int) (b : Hum) :
    SettledFrom [] { s with hum := b } { s.boostNoted n f v with hum := b } :=
  (SettledFrom.raise (s.updSensor n fun e => { e with boost := e.boost.map f }) .humidityBoost n v).onHum b

theorem State.startBoost_hum (s : State) (n : Nat) (c : BoostTrigger) (pre : Nat) : ∃ m, (s.startBoost n c pre).hum
    = { s.hum.boostSet n fun b => b.start c s.osc.uptime pre with humidityMark := m } := by
  have noted := s.boostNoted_hum n (fun b => b.start c s.osc.uptime pre) 0
  rw [State.startBoost_eq]
  generalize s.boostNoted n (fun b => b.start c s.osc.uptime pre) 0 = u at *
  rw [← noted]
  split
  · exact ⟨_, rfl⟩
  · rcases u.tryHumidity_hum with e | e
    · exact ⟨_, e⟩
    · exact ⟨_, e⟩

theorem State.endHumidity_hum (s : State) :
    s.endHumidity.hum = { s.hum with humidityMark := s.hum.humidityDue && s.hum.humidityMark } := by
  unfold State.endHumidity
  split
  · next h =>
    obtain ⟨due, mark⟩ := h
    rw [(SettledFrom.withdraw _ .humidity).hum, due]
    rfl
  · next h =>
    have same : (s.hum.humidityDue && s.hum.humidityMark) = s.hum.humidityMark := by
      cases hd : s.hum.humidityDue <;> cases hm : s.hum.humidityMark <;> simp_all
    rw [same]

theorem State.endBoost_hum (s : State) (n : Nat) (f : Boost → Boost) : (s.endBoost n f).hum
    = { s.hum.boostSet n f with humidityMark := (s.hum.boostSet n f).humidityDue && (s.hum.boostSet n f).humidityMark } := by
  rw [State.endBoost_eq, State.endHumidity_hum, State.boostNoted_hum]

theorem SettledFrom.startBoost (s : State) (n : Nat) (c : BoostTrigger) (pre : Nat) (b : Hum) :
    SettledFrom [.humidity] { s with hum := b } { s.startBoost n c pre with hum := b } := by
  have noted := SettledFrom.boostNoted s n (fun b => b.start c s.osc.uptime pre) 0 b
  rw [State.startBoost_eq]
  generalize s.boostNoted n (fun b => b.start c s.osc.uptime pre) 0 = u at *
  split
  · exact noted.weaken (by simp)
  · exact (noted.trans (SettledFrom.tryHumidity u b)).weaken (by simp)

theorem SettledFrom.endBoost (s : State) (n : Nat) (f : Boost → Boost) (b : Hum) :
    SettledFrom [.humidity] { s with hum := b } { s.endBoost n f with hum := b } :=
  ((SettledFrom.boostNoted s n f 1 b).trans (SettledFrom.endHumidity (s.boostNoted n f 1) b)).weaken (by simp)

theorem Hum.boostSet_sensor {h : Hum} {e : Sensor} (hn : h.sensor n = some e) (f : Boost → Boost) :
    (h.boostSet n f).sensor n = some { e with boost := e.boost.map f }
      ∧ ∀ m, m ≠ n → (h.boostSet n f).sensor m = h.sensor m := Hum.updSensor_sensor hn _

theorem Hum.boostSet_rest (h : Hum) (n : Nat) (f : Boost → Boost) :
    h.boostSet n f = { h with sensors := (h.boostSet n f).sensors } := by
  unfold Hum.boostSet Hum.updSensor
  split <;> rfl

/-- A boost that starts as the first posts HUMIDITY (R111, R113). -/
theorem State.startBoost_posts {e : Sensor} {b : Boost} (hn : s.hum.sensor n = some e) (hb : e.boost = some b)
    (first : s.hum.humidityDue = false) (mark : s.hum.humidityMark = false) (hd : s.osc.device = .running)
    (hw : s.arb.watch.enabled = false) (c : BoostTrigger) (pre : Nat) : (s.startBoost n c pre).hum.humidityMark = true
      ∧ (s.startBoost n c pre).Internal .humidity 7 (.flows (s.setting 6) (s.setting 6)) none := by
  have noted := s.boostNoted_hum n (fun b => b.start c s.osc.uptime pre) 0
  have settled := SettledFrom.boostNoted s n (fun b => b.start c s.osc.uptime pre) 0 s.hum
  have due : (s.hum.boostSet n fun b => b.start c s.osc.uptime pre).humidityDue = true :=
    (Hum.humidityDue_iff _).mpr ⟨n, _, b.start c s.osc.uptime pre, (Hum.boostSet_sensor hn _).1, by rw [hb]; rfl, rfl⟩
  have kept : (s.hum.boostSet n fun b => b.start c s.osc.uptime pre).humidityMark = false := by
    rw [Hum.boostSet_rest]
    exact mark
  rw [State.startBoost_eq, if_neg (by simp [first])]
  generalize s.boostNoted n (fun b => b.start c s.osc.uptime pre) 0 = u at *
  have device : u.osc.device = .running := settled.running hd
  have watch : u.arb.watch.enabled = false := by
    have same : u.arb.watch = s.arb.watch := settled.watch
    rw [same, hw]
  have work : u.setting 6 = s.setting 6 := congrArg (fun l => settingNat l 6) settled.working
  rw [← work]
  exact State.tryHumidity_posts (by rw [noted, due]) (by rw [noted, kept]) device watch

/-- A boost that ends as the last withdraws HUMIDITY (R111, R113). -/
theorem State.endBoost_withdraws (f : Boost → Boost) (last : (s.hum.boostSet n f).humidityDue = false)
    (mark : s.hum.humidityMark = true) :
    (s.endBoost n f).hum.humidityMark = false ∧ (s.endBoost n f).arb.table.humidity = none := by
  have noted := s.boostNoted_hum n f 1
  refine ⟨by rw [State.endBoost_hum, last]; rfl, ?_⟩
  rw [State.endBoost_eq]
  generalize s.boostNoted n f 1 = u at *
  have kept : u.hum.humidityMark = true := by
    rw [noted, Hum.boostSet_rest]
    exact mark
  unfold State.endHumidity
  rw [if_pos ⟨by rw [noted, last], kept⟩]
  exact State.withdraw_free .humidity

/-! ### A fresh reading -/

section Reading

variable {e : Sensor} {b : Boost} {rh : Nat}

theorem State.freshReading_starts (ha : s.hum.active = true) (hn : s.hum.sensor n = some e) (hb : e.boost = some b)
    (hs : b.state = .idle) {c : BoostTrigger} (test : boostTest e.ring rh (s.setting 39) (s.setting 40) = some c) :
    s.freshReading n rh = (s.startBoost n c (preRise e.ring rh)).deriveHumidity := by
  unfold State.freshReading
  simp only [ha, hn, hb, hs, test, if_true]

theorem State.freshReading_ends (ha : s.hum.active = true) (hn : s.hum.sensor n = some e) (hb : e.boost = some b)
    (hs : b.state = .boost) (ends : b.endsAt rh (s.setting 41) (s.setting 39) = true) :
    s.freshReading n rh = (s.endBoost n (·.finish .fallen)).deriveHumidity := by
  unfold State.freshReading
  simp only [ha, hn, hb, hs, ends, if_true]

theorem State.freshReading_keeps (ha : s.hum.active = true) (hn : s.hum.sensor n = some e) (hb : e.boost = some b)
    (h : b.state = .idle ∧ boostTest e.ring rh (s.setting 39) (s.setting 40) = none
      ∨ b.state = .boost ∧ b.endsAt rh (s.setting 41) (s.setting 39) = false ∨ b.state = .holdoff) :
    s.freshReading n rh = s.deriveHumidity := by
  unfold State.freshReading
  rcases h with ⟨hs, test⟩ | ⟨hs, ends⟩ | hs
  · simp only [ha, hn, hb, hs, test, if_true]
  · simp only [ha, hn, hb, hs, ends, if_true, Bool.false_eq_true, if_false]
  · simp only [ha, hn, hb, hs, if_true]

end Reading

/-! ### A measurement reaches its entry -/

/-- A transaction without a stretch timeout leaves the bus IDLE and its queue without its head (R90). -/
theorem State.completeHead_eq {o : BusOutcome} (h : o ≠ .stretchTimeout) (s : State) (n : Nat) (sent : List BusItem) :
    s.completeHead n o sent = s.updHum fun k => { k with bus := { k.bus with
      queue := k.bus.queue.drop 1, timeouts := 0, state := .idle, flight := [], sent := sent } } := by
  unfold State.completeHead
  rw [if_neg h]
  rfl

/-- The entry with the outcome of its transaction (R96). -/
def Sensor.noted (e : Sensor) (k : BusKind) (o : BusOutcome) : Sensor := { e with lastOutcome := some (k, o) }

/-- The entry with a GOOD reading (R98). -/
def Sensor.reads (e : Sensor) (v : Measured) (now : Nat) : Sensor :=
  { e with lastTemp := some v.temp, lastHum := some v.hum, lastStatus := some v.status, failures := 0,
           lastGood := if v.status = .ok then some now else e.lastGood }

theorem State.updSensor_updSensor (s : State) (n : Nat) (f g : Sensor → Sensor) :
    (s.updSensor n f).updSensor n g = s.updSensor n fun e => g (f e) := by
  have hum : (s.hum.updSensor n f).updSensor n g = s.hum.updSensor n fun e => g (f e) := by
    unfold Hum.updSensor
    split
    · rfl
    · exact congrArg (fun l => { s.hum with sensors := l }) (List.modify_modify_eq _ _ _ _)
  exact congrArg (fun h => { s with hum := h }) hum

theorem State.updSensor_sensor {e : Sensor} (hn : s.hum.sensor n = some e) (f : Sensor → Sensor) :
    (s.updSensor n f).hum.sensor n = some (f e) ∧ ∀ m, m ≠ n → (s.updSensor n f).hum.sensor m = s.hum.sensor m :=
  Hum.updSensor_sensor hn f

/-- A GOOD measurement of an ONLINE entry (R98). -/
theorem State.measured_good {e : Sensor} (hn : s.hum.sensor n = some e) (ho : e.state = .online) (o : BusOutcome) (v : Measured) :
    s.measured n o (some v) = if v.status = .ok
      then ((s.updSensor n fun e => (e.noted .measure o).reads v s.osc.uptime).freshReading n v.hum).propagate
      else s.updSensor n fun e => (e.noted .measure o).reads v s.osc.uptime := by
  have entry := (State.updSensor_sensor hn fun e => e.noted .measure o).1
  have both := s.updSensor_updSensor n (fun e => e.noted .measure o) fun e => e.reads v s.osc.uptime
  unfold State.measured
  simp only [Sensor.noted] at entry both ⊢
  simp only [entry, ho, if_true]
  rw [← both]
  rfl

/-- The state a completed MEASURE leaves before its outcome reaches the entry (R90). -/
def State.headTaken (s : State) (rest : List (Nat × BusKind)) (sent : List BusItem) : State :=
  s.updHum fun k => { k with bus := { k.bus with
    queue := rest, timeouts := 0, state := .idle, flight := [], sent := sent } }

theorem State.measureComplete_eq {rest : List (Nat × BusKind)} {m : MeasureReply} (hs : s.hum.bus.state = .busy)
    (hq : s.hum.bus.queue = (n, .measure) :: rest) (ho : (classifyMeasure m).1 ≠ .stretchTimeout) :
    exec (.measureComplete m) s = .next ((s.headTaken rest (s.hum.bus.measureSent m)).measured n (classifyMeasure m).1
      (classifyMeasure m).2) := by
  have row : exec (.measureComplete m) s = .next ((s.completeHead n (classifyMeasure m).1 (s.hum.bus.measureSent m)).measured
      n (classifyMeasure m).1 (classifyMeasure m).2) := by
    change execMeasureComplete m s = _
    unfold execMeasureComplete
    rw [hs, hq]
  rw [row, State.completeHead_eq ho, State.headTaken]
  simp only [State.updHum, hq, List.drop_succ_cons, List.drop_zero]

theorem State.headTaken_sensor (s : State) (rest : List (Nat × BusKind)) (sent : List BusItem) (k : Nat) :
    (s.headTaken rest sent).hum.sensor k = s.hum.sensor k := rfl

/-- A good reading of an entry, with its status (R89). -/
theorem classifyReply_good {b0 b1 b2 b3 b4 b5 : Byte} (crc : crc8 [b0, b1, b2, b3, b4] = b5) (hb : b4 = 0 ∨ b4 = 1)
    (h1 : -400 ≤ (b0 ++ b1 : BitVec 16).toInt) (h2 : (b0 ++ b1 : BitVec 16).toInt ≤ 800) (h3 : be16 b2 b3 ≤ 1050) :
    classifyReply b0 b1 b2 b3 b4 b5 = (.good, some { temp := (b0 ++ b1 : BitVec 16).toInt, hum := min (be16 b2 b3) 1000
                                                     status := if b4 = 0 then .ok else .warming }) := by
  have status : b4 ≠ 2 ∧ ¬(b4 ≠ 0 ∧ b4 ≠ 1) := by rcases hb with rfl | rfl <;> decide
  unfold classifyReply
  dsimp only
  rw [if_neg (not_not.mpr crc), if_neg status.1, if_neg status.2, if_neg (by omega), if_neg (by omega)]

/-- The state in which a good reading of an ONLINE entry reaches the response (R90, R98). -/
theorem State.measure_reads {e : Sensor} {rest : List (Nat × BusKind)} {pulses : Fin 10} {b0 b1 b2 b3 b5 : Byte}
    (hs : s.hum.bus.state = .busy) (hq : s.hum.bus.queue = (n, .measure) :: rest) (hn : s.hum.sensor n = some e)
    (ho : e.state = .online) (crc : crc8 [b0, b1, b2, b3, 0] = b5) (h1 : -400 ≤ (b0 ++ b1 : BitVec 16).toInt)
    (h2 : (b0 ++ b1 : BitVec 16).toInt ≤ 800) (h3 : be16 b2 b3 ≤ 1050) : ∃ u : State,
    exec (.measureComplete (.bytes pulses b0 b1 b2 b3 0 b5)) s = .next (u.freshReading n (min (be16 b2 b3) 1000)).propagate
      ∧ u.osc = s.osc ∧ u.arb = s.arb ∧ u.hum.active = s.hum.active ∧ u.hum.humidityMark = s.hum.humidityMark
      ∧ u.hum.sensor n = some ((e.noted .measure .good).reads
        { temp := (b0 ++ b1 : BitVec 16).toInt, hum := min (be16 b2 b3) 1000, status := .ok } s.osc.uptime)
      ∧ ∀ m, m ≠ n → u.hum.sensor m = s.hum.sensor m := by
  have good : classifyMeasure (.bytes pulses b0 b1 b2 b3 0 b5) = (.good, some
      { temp := (b0 ++ b1 : BitVec 16).toInt, hum := min (be16 b2 b3) 1000, status := .ok }) :=
    classifyReply_good crc (.inl rfl) h1 h2 h3
  have row := State.measureComplete_eq hs hq (m := .bytes pulses b0 b1 b2 b3 0 b5) (by rw [good]; exact fun h => nomatch h)
  rw [good] at row
  have taken : (s.headTaken rest (s.hum.bus.measureSent (.bytes pulses b0 b1 b2 b3 0 b5))).hum.sensor n = some e := hn
  rw [State.measured_good taken ho, if_pos rfl] at row
  obtain ⟨entry, others⟩ := State.updSensor_sensor taken fun e => (e.noted .measure .good).reads
    { temp := (b0 ++ b1 : BitVec 16).toInt, hum := min (be16 b2 b3) 1000, status := .ok } s.osc.uptime
  refine ⟨_, row, rfl, rfl, ?_, ?_, entry, others⟩
  all_goals
    unfold State.updSensor State.updHum Hum.updSensor
    dsimp only
    split <;> rfl

end Boosts

/-! ### The records of the others -/

section Others

variable {s t : State} {n : Nat} {e : Sensor} {b : Boost}

/-- No boost but that of entry `n`. -/
def Hum.noOther (h : Hum) (n : Nat) : Prop := ∀ k f c, k ≠ n → h.sensor k = some f → f.boost = some c → c.state ≠ .boost

/-- With no other boost, HUMIDITY is due exactly while the changed record is in BOOST. -/
theorem Hum.boostSet_due {h : Hum} (hn : h.sensor n = some e) (hb : e.boost = some b) (others : h.noOther n) (f : Boost → Boost)
    (hf : (f b).state ≠ .boost) : (h.boostSet n f).humidityDue = false := by
  obtain ⟨entry, rest⟩ := Hum.boostSet_sensor hn f
  refine Hum.humidityDue_false fun k g c hk hc => ?_
  by_cases kn : k = n
  · subst kn
    rw [entry] at hk
    cases hk
    rw [hb] at hc
    cases hc
    exact hf
  · rw [rest k kn] at hk
    exact others k g c kn hk hc

/-- HUM and its slots after the extract humidity is derived and what follows from it. -/
theorem State.derived_follow {w : State} (ht : t = w.deriveHumidity.propagate) :
    (∀ k, t.hum.sensor k = w.hum.sensor k) ∧ t.hum.humidityMark = w.hum.humidityMark
      ∧ ∀ x, x ≠ .filterCheck → x ≠ .defrost → SameDemand (w.arb.table.get x) (t.arb.table.get x) := by
  obtain ⟨records, hum, -⟩ := w.deriveHumidity_same
  generalize w.deriveHumidity = v at *
  have follow := SettledFrom.propagate v
  rw [← ht] at follow
  refine ⟨fun k => ?_, ?_, fun x h1 h2 => ?_⟩
  · rw [follow.hum, hum]
    rfl
  · rw [follow.hum, hum]
  · rw [← records.arb]
    exact follow.slots x (by simp) h1 h2

end Others

end Sys2Proof.Machine

/-- Settles O44. -/
theorem boostsStartAndEnd : Obligations.BoostsStartAndEnd := by
  intro s n e b hn hb
  refine ⟨fun rest pulses b0 b1 b2 b3 b5 rh pre ha hs hq ho crc t1 t2 h1 hrh p1 p2 => ?_, fun hs hl => ?_, fun hs hh => ?_⟩
  · obtain ⟨u, row, osc, arb, active, mark, entry, others⟩ := State.measure_reads (pulses := pulses) hs hq hn ho crc t1 t2 h1
    rw [← hrh] at entry row
    obtain ⟨e3, he, hb3, ring3⟩ : ∃ e3 : Sensor, u.hum.sensor n = some e3 ∧ e3.boost = some b ∧ e3.ring = e.ring :=
      ⟨_, entry, hb, rfl⟩
    clear entry
    have setting (i : Nat) : u.setting i = s.setting i := congrArg (fun o : Osc => settingNat o.working i) osc
    have noBoost (none : s.hum.noOther n) : u.hum.noOther n := fun k f c hk hf => none k f c hk (others k hk ▸ hf)
    have ring : preRise e3.ring rh = pre := by
      rw [ring3]
      exact preRise_eq p1 p2
    have kept := u.freshReading_keeps (rh := rh) (active.trans ha) he hb3
    have starts := fun c => u.freshReading_starts (c := c) (rh := rh) (active.trans ha) he hb3
    have ends := u.freshReading_ends (rh := rh) (active.trans ha) he hb3
    have test := boostTest_eq e3.ring rh (s.setting 39) (s.setting 40)
    simp only [setting] at kept starts ends
    rw [ring] at starts test
    rw [ring3] at test
    rw [ring3] at kept starts
    -- a reading that changes no record
    have stays (h : u.freshReading n rh = u.deriveHumidity) : ∃ t : State,
        exec (.measureComplete (.bytes pulses b0 b1 b2 b3 0 b5)) s = .next t ∧ t.hum.sensor n = some e3 := by
      rw [h] at row
      obtain ⟨sensor, -⟩ := State.derived_follow (w := u) rfl
      exact ⟨_, row, (sensor n).trans he⟩
    cases hst : b.state with
    | holdoff =>
      obtain ⟨t, row, sensor⟩ := stays (kept (.inr (.inr hst)))
      exact ⟨t, e3, b, row, sensor, hb3, nofun, fun _ _ _ => rfl, nofun, fun _ => rfl⟩
    | idle =>
      by_cases cond : s.setting 39 ≤ rh ∨ 3 ≤ e.ring.length ∧ 400 ≤ rh ∧ pre + s.setting 40 ≤ rh
      · obtain ⟨m, hum⟩ := u.startBoost_hum n (if s.setting 39 ≤ rh then .absolute else .rise) pre
        have posts := State.startBoost_posts (s := u) (n := n) he hb3 (c := if s.setting 39 ≤ rh then .absolute else .rise)
          (pre := pre)
        obtain ⟨started, -⟩ := Hum.boostSet_sensor he fun b =>
          b.start (if s.setting 39 ≤ rh then .absolute else .rise) u.osc.uptime pre
        rw [starts _ hst (test.1 cond)] at row
        generalize u.startBoost n (if s.setting 39 ≤ rh then .absolute else .rise) pre = w at *
        obtain ⟨sensor, tmark, slot⟩ := State.derived_follow (w := w) rfl
        generalize w.deriveHumidity.propagate = t at *
        rw [hb3] at started
        refine ⟨t, _, _, row, (sensor n).trans (by rw [hum]; exact started), rfl,
          fun _ _ => ⟨by rw [osc]; rfl, fun none hm hd hw => ?_⟩, fun _ h1 h2 => ?_, nofun, nofun⟩
        · have first : u.hum.humidityDue = false := by
            refine Hum.humidityDue_false fun k f c hk hf => ?_
            by_cases kn : k = n
            · subst kn
              rw [he] at hk
              cases hk
              rw [hb3] at hf
              cases hf
              rw [hst]
              decide
            · exact none k f c (others k kn ▸ hk) hf
          obtain ⟨wm, made⟩ := posts first (mark.trans hm) (by rw [osc, hd]) (by rw [arb, hw])
          rw [setting] at made
          exact ⟨tmark.trans wm, made.of_same (slot .humidity (by decide) (by decide))⟩
        · omega
      · have quiet : boostTest e.ring rh (s.setting 39) (s.setting 40) = none := test.2 (by omega) (by omega)
        obtain ⟨t, row, sensor⟩ := stays (kept (.inl ⟨hst, quiet⟩))
        exact ⟨t, e3, b, row, sensor, hb3, fun _ h => absurd h cond, fun _ _ _ => rfl, nofun, nofun⟩
    | boost =>
      cases hx : b.endsAt rh (s.setting 41) (s.setting 39) with
      | false =>
        obtain ⟨t, row, sensor⟩ := stays (kept (.inr (.inl ⟨hst, hx⟩)))
        refine ⟨t, e3, b, row, sensor, hb3, nofun, nofun, fun x _ h => ⟨fun h1 h2 h3 => ?_, fun _ => rfl⟩, nofun⟩
        rw [(Boost.endsAt_iff h rh _ _).mpr ⟨h1, h2, h3⟩] at hx
        cases hx
      | true =>
        have hum := u.endBoost_hum n (·.finish .fallen)
        have withdraws := State.endBoost_withdraws (s := u) (n := n) (·.finish .fallen)
        obtain ⟨ended, -⟩ := Hum.boostSet_sensor he (·.finish .fallen)
        rw [ends hst hx] at row
        generalize u.endBoost n (·.finish .fallen) = w at *
        obtain ⟨sensor, tmark, slot⟩ := State.derived_follow (w := w) rfl
        generalize w.deriveHumidity.propagate = t at *
        rw [hb3] at ended
        refine ⟨t, _, _, row, (sensor n).trans (by rw [hum]; exact ended), rfl, nofun, nofun,
          fun x _ h => ⟨fun _ _ _ => ⟨rfl, fun alone hm => ?_⟩, fun h1 => ?_⟩, nofun⟩
        · obtain ⟨wm, free⟩ := withdraws (Hum.boostSet_due he hb3 (noBoost alone) _ (by simp [Boost.finish])) (mark.trans hm)
          have same := slot .humidity (by decide) (by decide)
          have free : w.arb.table.get .humidity = none := free
          rw [free] at same
          exact ⟨tmark.trans wm, same.of_none⟩
        · obtain ⟨h2, h3, h4⟩ := (Boost.endsAt_iff h rh _ _).mp hx
          omega
  · have row : exec (.boostLimit n) s = .next (s.endBoost n (·.limit (s.setting 43))).propagate := by
      change execBoostLimit n s = _
      unfold execBoostLimit
      simp only [hn, hb, Option.bind_some]
      exact if_pos ⟨hs, hl⟩
    have hum := s.endBoost_hum n (·.limit (s.setting 43))
    have settled := SettledFrom.endBoost s n (·.limit (s.setting 43))
    have withdraws := State.endBoost_withdraws (s := s) (n := n) (·.limit (s.setting 43))
    generalize s.endBoost n (·.limit (s.setting 43)) = u at *
    have follow := SettledFrom.propagate u
    generalize u.propagate = t at *
    obtain ⟨entry, others⟩ := Hum.boostSet_sensor hn (·.limit (s.setting 43))
    have sensors : t.hum.sensors = (s.hum.boostSet n (·.limit (s.setting 43))).sensors := by rw [follow.hum, hum]
    refine ⟨t, row, (Hum.sensor_of_sensors sensors n).trans (entry.trans (by rw [hb]; rfl)),
      fun k hk => (Hum.sensor_of_sensors sensors k).trans (others k hk), ?_, ?_, fun none hm => ?_⟩
    · rw [follow.hum, hum, Hum.boostSet_rest]
    · exact ((settled t.hum).trans (follow.onHum t.hum)).weaken (by simp)
    · obtain ⟨mark, slot⟩ := withdraws (Hum.boostSet_due hn hb none _ (by simp [Boost.limit])) hm
      exact ⟨by rw [follow.hum, mark], follow.slotNone (x := .humidity) slot (by simp) (by decide) (by decide)⟩
  · have row : exec (.holdoffEnd n) s
        = .next (s.updSensor n fun e => { e with boost := some { b with state := .idle } }) := by
      change execHoldoffEnd n s = _
      unfold execHoldoffEnd
      simp only [hn, hb, Option.bind_some]
      exact if_pos ⟨hs, hh⟩
    obtain ⟨entry, others⟩ := State.updSensor_sensor hn fun e => { e with boost := some { b with state := .idle } }
    refine ⟨_, row, rfl, ?_, entry, others⟩
    change { s.hum.updSensor n _ with sensors := s.hum.sensors } = s.hum
    unfold Hum.updSensor
    split <;> rfl

end

section
/-! The transactions of the sensor bus: what passes, and what the outcome makes of the entry. -/

open Sys2Proof Sys2Proof.Machine

namespace Sys2Proof.Machine

section Passing

variable {lead tail : List BusItem}

/-! ### What passes -/

theorem Bus.pulsesOnly_eq {b : Bus} (h : BusItem.lineTest ∉ lead) (hf : b.flight = lead ++ .lineTest :: tail) :
    b.pulsesOnly = lead ++ List.replicate 9 .clock := by
  rw [Bus.pulsesOnly, Bus.passing_eq h hf, List.append_nil]
  rfl

theorem Bus.afterTest_flight {b : Bus} (h : BusItem.lineTest ∉ lead) (hf : b.flight = lead ++ .lineTest :: tail) :
    afterTest b.flight = tail := by
  rw [hf, afterTest_append h]

end Passing

section Readings

variable {s t w : State} {n : Nat} {e : Sensor}

/-! ### A reading reaches the response -/

/-- At most the boost of entry `n` has changed in HUM, and HUMIDITY with it. -/
structure State.Boosted (s : State) (n : Nat) (w : State) : Prop where
  bus : w.hum.bus = s.hum.bus
  active : w.hum.active = s.hum.active
  entry : ∀ e, s.hum.sensor n = some e → ∃ b, w.hum.sensor n = some { e with boost := b }
  others : ∀ m, m ≠ n → w.hum.sensor m = s.hum.sensor m
  settled : ∀ b, SettledFrom [.humidity] { s with hum := b } { w with hum := b }

theorem State.Boosted.refl (s : State) (n : Nat) : s.Boosted n s where
  bus := rfl
  active := rfl
  entry e he := ⟨e.boost, he⟩
  others _ _ := rfl
  settled b := (SettledFrom.refl [] _).weaken (by simp)

theorem State.Boosted.of_set {f : Boost → Boost} {m : Bool} (hum : w.hum = { s.hum.boostSet n f with humidityMark := m })
    (settled : ∀ b, SettledFrom [.humidity] { s with hum := b } { w with hum := b }) : s.Boosted n w where
  bus := by rw [hum, Hum.boostSet_rest]
  active := by rw [hum, Hum.boostSet_rest]
  entry e he := ⟨_, by rw [hum]; exact (Hum.boostSet_sensor he f).1⟩
  others k hk := by
    rw [hum]
    change (s.hum.updSensor n _).sensor k = _
    by_cases n0 : n = 0
    · subst n0
      rfl
    · by_cases k0 : k = 0
      · subst k0
        rfl
      · rw [Hum.sensor_updSensor n0 _ _ k0, if_neg hk]
  settled := settled

theorem State.Boosted.start (s : State) (n : Nat) (c : BoostTrigger) (pre : Nat) : s.Boosted n (s.startBoost n c pre) := by
  obtain ⟨m, hum⟩ := s.startBoost_hum n c pre
  exact .of_set hum (SettledFrom.startBoost s n c pre)

theorem State.Boosted.stop (s : State) (n : Nat) (f : Boost → Boost) : s.Boosted n (s.endBoost n f) :=
  .of_set (s.endBoost_hum n f) (SettledFrom.endBoost s n f)

/-- A reading is the response's at most in its boost record and the extract humidity value. -/
theorem State.freshReading_boosted (s : State) (n rh : Nat) :
    s.freshReading n rh = s ∨ ∃ w, s.Boosted n w ∧ s.freshReading n rh = w.deriveHumidity := by
  unfold State.freshReading
  split
  · refine .inr ⟨_, ?_, rfl⟩
    split
    · split
      · split
        · split
          · exact .start _ _ _ _
          · exact .refl _ _
        · split
          · exact .stop _ _ _
          · exact .refl _ _
        · exact .refl _ _
      · exact .refl _ _
    · exact .refl _ _
  · exact .inl rfl

/-- HUM and SUP have changed, with the demands in `l`, and of the flags at most those of `a` have. -/
structure State.Response (l : List Slot) (a : List Flag) (s t : State) : Prop where
  settled : ∀ b c, SettledFrom l { s with hum := b, sup := c } { t with hum := b, sup := c }
  flags : ∀ g, g ∉ a → g ≠ .runOnCut → g ≠ .noticesLost → t.sup.flags.get g = s.sup.flags.get g
  stay : ∀ g, s.sup.flags.get g = true → t.sup.flags.get g = true
  capture : s.sup.capture ≠ none → t.sup.capture = s.sup.capture

variable {l k : List Slot} {a d : List Flag} {u : State}

theorem State.Response.refl (s : State) : State.Response l a s s where
  settled b c := (SettledFrom.refl [] _).weaken (by simp)
  flags _ _ _ _ := rfl
  stay _ := id
  capture _ := rfl

theorem State.Response.trans (h : State.Response l a s t) (g : State.Response l a t u) : State.Response l a s u where
  settled b c := ((h.settled b c).trans (g.settled b c)).weaken (by simp)
  flags x h1 h2 h3 := (g.flags x h1 h2 h3).trans (h.flags x h1 h2 h3)
  stay x hx := g.stay x (h.stay x hx)
  capture hc := (g.capture (by rw [h.capture hc]; exact hc)).trans (h.capture hc)

theorem State.Response.weaken (h : State.Response k d s t) (hk : ∀ x ∈ k, x ∈ l) (hd : ∀ g ∈ d, g ∈ a) : State.Response l a s t where
  settled b c := (h.settled b c).weaken hk
  flags g h1 h2 h3 := h.flags g (fun hg => h1 (hd g hg)) h2 h3
  stay := h.stay
  capture := h.capture

theorem State.Response.of_settled (h : ∀ b, SettledFrom l { s with hum := b } { t with hum := b }) : State.Response l a s t where
  settled b c := (h b).onSup c
  flags g _ h2 h3 := (h s.hum).flags g h2 h3
  stay := (h s.hum).flagsStay
  capture := (h s.hum).capture

theorem State.Response.of_records (h : s.Records a t) (hf : t.flt = s.flt) : State.Response l a s t where
  settled b c := by
    have whole := ((h.settledHum hf).onHum b).onSup c
    exact whole.weaken (by simp)
  flags g h1 _ h3 := h.kept g h1 h3
  stay := h.stay
  capture _ := by rw [h.sup]

theorem State.Response.propagate (s : State) : State.Response l a s s.propagate :=
  .of_settled fun b => ((SettledFrom.propagate s).onHum b).weaken (by simp)

theorem State.Response.deriveHumidity (s : State) (ha : Flag.frostDegraded ∈ a) : State.Response l a s s.deriveHumidity :=
  .of_records (s.deriveHumidity_same.1.weaken (by simpa using ha)) s.deriveHumidity_same.2.2

theorem State.Response.updSensor (s : State) (n : Nat) (f : Sensor → Sensor) : State.Response l a s (s.updSensor n f) :=
  .of_records (.updHum s _) rfl

theorem State.Response.fault (s : State) {g : Flag} (hg : g ∈ a) (x : Nat) (v : Int) :
    State.Response l a s (s.faultEvent g x v) where
  settled b c := by
    have whole := ((SettledFrom.fault s g x v).onHum b).onSup c
    exact whole.weaken (by simp)
  flags y h1 _ h3 := by
    have ne : (y == g) = false := by
      rw [beq_eq_false_iff_ne]
      rintro rfl
      exact h1 hg
    rw [(s.faultEvent_taken g x v).flags y h3, ne, Bool.false_or]
  stay y hy := by
    have set := (State.Records.setFlag (a := [g]) s (List.mem_singleton.mpr rfl)).stay y hy
    exact (SettledFrom.offerCapture (s.setFlag g) (.fault g x (clampI v (-32768) 32767) s.osc.uptime)).flagsStay y set
  capture hc := ((s.faultEvent_taken g x v).held hc).1

theorem State.updSensor_active (s : State) (n : Nat) (f : Sensor → Sensor) : (s.updSensor n f).hum.active = s.hum.active := by
  change (s.hum.updSensor n f).active = _
  unfold Hum.updSensor
  split <;> rfl

/-! ### A loss -/

/-- A boost record whose entry has left ONLINE (R110). -/
def Boost.lost (b : Boost) : Boost :=
  match b.state with
  | .boost => b.finish .loss
  | .holdoff => { b with state := .idle, holdoff := 0 }
  | .idle => b

/-- The entry that has left ONLINE: its ring is empty, its boost has ended (R105, R110). -/
theorem State.entryLost_effect (hn : s.hum.sensor n = some e) :
    (s.entryLost n).hum.sensor n = some { e with ring := [], boost := e.boost.map Boost.lost }
      ∧ (∀ m, m ≠ n → (s.entryLost n).hum.sensor m = s.hum.sensor m)
      ∧ (s.entryLost n).hum.bus = s.hum.bus ∧ State.Response [.humidity] [] s (s.entryLost n) := by
  obtain ⟨entry, others⟩ := State.updSensor_sensor hn fun e => { e with ring := [] }
  have bus := s.updSensor_bus n fun e => { e with ring := [] }
  have apart : State.Response [.humidity] [] s (s.updSensor n fun e => { e with ring := [] }) := .updSensor s n _
  unfold State.entryLost
  dsimp only
  generalize s.updSensor n (fun e => { e with ring := [] }) = u at *
  rw [entry, Option.bind_some]
  cases hb : e.boost with
  | none => exact ⟨by rw [entry, ← hb]; simp [hb], others, bus, apart⟩
  | some b =>
    dsimp only
    cases hs : b.state with
    | boost =>
      have stop := State.Boosted.stop u n (·.finish .loss)
      have set := (Hum.boostSet_sensor entry (·.finish .loss)).1
      refine ⟨?_, fun m hm => (stop.others m hm).trans (others m hm), stop.bus.trans bus, apart.trans (.of_settled stop.settled)⟩
      rw [State.endBoost_hum]
      refine Eq.trans set ?_
      simp [hb, Boost.lost, hs]
    | holdoff =>
      obtain ⟨entry', others'⟩ := State.updSensor_sensor entry fun e => { e with boost := some { b with state := .idle, holdoff := 0 } }
      refine ⟨entry'.trans ?_, fun m hm => (others' m hm).trans (others m hm), (u.updSensor_bus n _).trans bus,
        apart.trans (.updSensor u n _)⟩
      simp [Boost.lost, hs]
    | idle =>
      refine ⟨entry.trans ?_, others, bus, apart⟩
      simp [hb, Boost.lost, hs]

/-- What a loss leaves of the entry (R99, R105, R110). -/
def Sensor.lose (e : Sensor) (active : Bool) : Sensor :=
  { e with
    state := .lost
    lostTime := 600
    ring := if active then [] else e.ring
    boost := if active then e.boost.map Boost.lost else e.boost }

/-- An entry that becomes LOST (R99). -/
theorem State.loseSensor_effect (hn : s.hum.sensor n = some e) (o : Nat) (ht : t = s.loseSensor n o) :
    t.hum.sensor n = some (e.lose s.hum.active) ∧ (∀ m, m ≠ n → t.hum.sensor m = s.hum.sensor m) ∧ t.hum.bus = s.hum.bus
      ∧ State.Response [.humidity] [.sensorLost, .frostDegraded] s t ∧ t.sup.flags.get .sensorLost = true
      ∧ (s.sup.capture = none → t.sup.capture = some (.fault .sensorLost n (clampI o (-32768) 32767) s.osc.uptime)) := by
  obtain ⟨records, hum⟩ := s.setSensor_same n .lost fun e => { e with lostTime := Config.lostSeconds }
  have setFlt : (s.setSensor n .lost fun e => { e with lostTime := Config.lostSeconds }).flt = s.flt := by
    rw [State.setSensor, State.raise_flt]
    rfl
  have setResponse : State.Response [.humidity] [.sensorLost, .frostDegraded] s
      (s.setSensor n .lost fun e => { e with lostTime := Config.lostSeconds }) :=
    .of_records (records.weaken (by simp)) setFlt
  obtain ⟨entry, others⟩ := Hum.updSensor_sensor hn fun e => { e with lostTime := Config.lostSeconds, state := .lost }
  have bus := s.updSensor_bus n fun e => { e with lostTime := Config.lostSeconds, state := .lost }
  have osc := records.osc
  have sup := records.sup
  rw [← hum] at entry others
  have bus : (s.setSensor n .lost fun e => { e with lostTime := Config.lostSeconds }).hum.bus = s.hum.bus := by
    rw [hum]
    exact bus
  have active : (s.setSensor n .lost fun e => { e with lostTime := Config.lostSeconds }).hum.active = s.hum.active := by
    rw [hum]
    unfold Hum.updSensor
    split <;> rfl
  unfold State.loseSensor at ht
  dsimp only at ht
  generalize s.setSensor n .lost (fun e => { e with lostTime := Config.lostSeconds }) = u at *
  have taken := u.faultEvent_taken .sensorLost n o
  have faulted : State.Response [.humidity] [.sensorLost, .frostDegraded] u (u.faultEvent .sensorLost n o) := .fault u (by simp) n o
  have same := State.faultEvent_hum u .sensorLost n o
  generalize u.faultEvent .sensorLost n o = v at *
  rw [← same] at entry others bus active
  have flag : v.sup.flags.get .sensorLost = true := by rw [taken.flags _ (by decide)]; rfl
  obtain ⟨w, hw, wentry, wothers, wbus, wresponse⟩ : ∃ w : State, (if v.hum.active = true then v.entryLost n else v) = w
      ∧ w.hum.sensor n = some (e.lose v.hum.active) ∧ (∀ m, m ≠ n → w.hum.sensor m = v.hum.sensor m)
      ∧ w.hum.bus = v.hum.bus ∧ State.Response [.humidity] [.sensorLost, .frostDegraded] v w := by
    refine ⟨_, rfl, ?_⟩
    cases ha : v.hum.active with
    | true =>
      obtain ⟨h1, h2, h3, h4⟩ := State.entryLost_effect entry
      exact ⟨h1, h2, h3, h4.weaken (by simp) (by simp)⟩
    | false => exact ⟨entry, fun _ _ => rfl, rfl, .refl v⟩
  rw [hw] at ht
  have derived : State.Response [.humidity] [.sensorLost, .frostDegraded] w w.deriveHumidity := .deriveHumidity w (by simp)
  obtain ⟨sensors, -⟩ := State.derived_follow ht
  have tbus : t.hum.bus = w.hum.bus := by
    rw [ht, (SettledFrom.propagate w.deriveHumidity).hum, w.deriveHumidity_same.2.1]
  have follow : State.Response [.humidity] [.sensorLost, .frostDegraded] w.deriveHumidity t := ht ▸ .propagate _
  have rest := wresponse.trans (derived.trans follow)
  refine ⟨(sensors n).trans (by rw [wentry, active]), fun m hm => ?_, tbus.trans (wbus.trans bus), setResponse.trans (faulted.trans rest),
    rest.stay _ flag, fun hc => ?_⟩
  · rw [sensors m, wothers m hm, others m hm]
  · have armed := (taken.armed (by rw [sup]; exact hc)).1
    rw [rest.capture (by rw [armed]; exact Option.some_ne_none _), armed, osc]

/-! ### Outcomes of a measurement -/

/-- An outcome other than GOOD is a failure of an ONLINE entry (R98). -/
theorem State.measured_fails (hn : s.hum.sensor n = some e) (ho : e.state = .online) (o : BusOutcome) :
    s.measured n o none = if 3 ≤ min (e.failures + 1) 3
      then (s.updSensor n fun x => { x.noted .measure o with failures := min (e.failures + 1) 3 }).loseSensor n o.code
      else s.updSensor n fun x => { x.noted .measure o with failures := min (e.failures + 1) 3 } := by
  have entry := (State.updSensor_sensor hn fun x => x.noted .measure o).1
  have both := s.updSensor_updSensor n (fun x => x.noted .measure o) fun x => { x with failures := min (e.failures + 1) 3 }
  unfold State.measured
  simp only [Sensor.noted] at entry both ⊢
  simp only [entry, ho, if_true]
  rw [← both]
  rfl

/-- A failed MEASURE of an ONLINE entry (R98, R99). -/
theorem State.measured_failed (hn : s.hum.sensor n = some e) (ho : e.state = .online) {o : BusOutcome}
    (ht : t = s.measured n o none) : (∀ m, m ≠ n → t.hum.sensor m = s.hum.sensor m) ∧ t.hum.bus = s.hum.bus
      ∧ State.Response [.humidity] [.sensorLost, .frostDegraded] s t
      ∧ (e.failures < 2 → t.hum.sensor n = some { e.noted .measure o with failures := e.failures + 1 })
      ∧ (2 ≤ e.failures → t.hum.sensor n = some ({ e.noted .measure o with failures := 3 }.lose s.hum.active)
        ∧ t.sup.flags.get .sensorLost = true
        ∧ (s.sup.capture = none → t.sup.capture = some (.fault .sensorLost n o.code s.osc.uptime))) := by
  obtain ⟨entry, others⟩ := State.updSensor_sensor hn fun x => { x.noted .measure o with failures := min (e.failures + 1) 3 }
  have bus := s.updSensor_bus n fun x => { x.noted .measure o with failures := min (e.failures + 1) 3 }
  have set : State.Response [.humidity] [.sensorLost, .frostDegraded] s
    (s.updSensor n fun x => { x.noted .measure o with failures := min (e.failures + 1) 3 }) := .updSensor s n _
  have active := s.updSensor_active n fun x => { x.noted .measure o with failures := min (e.failures + 1) 3 }
  have sup : (s.updSensor n fun x => { x.noted .measure o with failures := min (e.failures + 1) 3 }).sup = s.sup := rfl
  have osc : (s.updSensor n fun x => { x.noted .measure o with failures := min (e.failures + 1) 3 }).osc = s.osc := rfl
  rw [State.measured_fails hn ho] at ht
  generalize s.updSensor n (fun x => { x.noted .measure o with failures := min (e.failures + 1) 3 }) = u at *
  by_cases third : 3 ≤ min (e.failures + 1) 3
  · rw [if_pos third] at ht
    obtain ⟨lost, kept, same, response, flag, capture⟩ := State.loseSensor_effect entry o.code ht
    have full : min (e.failures + 1) 3 = 3 := by omega
    rw [full, active] at lost
    refine ⟨fun m hm => (kept m hm).trans (others m hm), same.trans bus, set.trans response, fun h => by omega, fun _ =>
      ⟨lost, flag, fun hc => ?_⟩⟩
    rw [capture (by rw [sup]; exact hc), osc]
    have small : clampI (o.code : Int) (-32768) 32767 = o.code := by cases o <;> rfl
    rw [small]
  · rw [if_neg third] at ht
    subst ht
    refine ⟨others, bus, set, fun h => ?_, fun h => by omega⟩
    have count : min (e.failures + 1) 3 = e.failures + 1 := by omega
    rw [count] at entry
    exact entry

/-- An entry that is not ONLINE records the outcome alone (R98). -/
theorem State.measured_other (hn : s.hum.sensor n = some e) (ho : e.state ≠ .online) (o : BusOutcome) (m : Option Measured) :
    s.measured n o m = s.updSensor n fun e => e.noted .measure o := by
  have entry := (State.updSensor_sensor hn fun e => e.noted .measure o).1
  unfold State.measured
  simp only [Sensor.noted] at entry ⊢
  simp only [entry, ho, if_false]

/-- What a good reading leaves of an ONLINE entry (R98). -/
theorem State.measured_reads (hn : s.hum.sensor n = some e) (ho : e.state = .online) {o : BusOutcome} {v : Measured}
    (ht : t = s.measured n o (some v)) : (∀ m, m ≠ n → t.hum.sensor m = s.hum.sensor m) ∧ t.hum.bus = s.hum.bus
      ∧ State.Response [.humidity] [.sensorLost, .frostDegraded] s t
      ∧ (v.status = .warming → t.hum.sensor n = some ((e.noted .measure o).reads v s.osc.uptime))
      ∧ (v.status = .ok → ∃ e', t.hum.sensor n = some e'
        ∧ { e' with boost := e.boost } = (e.noted .measure o).reads v s.osc.uptime) := by
  obtain ⟨entry, others⟩ := State.updSensor_sensor hn fun e => (e.noted .measure o).reads v s.osc.uptime
  have bus := s.updSensor_bus n fun e => (e.noted .measure o).reads v s.osc.uptime
  have set : State.Response [.humidity] [.sensorLost, .frostDegraded] s
    (s.updSensor n fun e => (e.noted .measure o).reads v s.osc.uptime) := .updSensor s n _
  rw [State.measured_good hn ho] at ht
  generalize s.updSensor n (fun e => (e.noted .measure o).reads v s.osc.uptime) = u at *
  cases hv : v.status with
  | warming =>
    rw [hv, if_neg nofun] at ht
    subst ht
    exact ⟨others, bus, set, fun _ => entry, nofun⟩
  | ok =>
    rw [hv, if_pos rfl] at ht
    obtain ⟨b, hb, kept, same, response⟩ : ∃ b, (u.freshReading n v.hum).hum.sensor n
          = some { (e.noted .measure o).reads v s.osc.uptime with boost := b }
        ∧ (∀ m, m ≠ n → (u.freshReading n v.hum).hum.sensor m = u.hum.sensor m)
        ∧ (u.freshReading n v.hum).hum.bus = u.hum.bus
        ∧ State.Response [.humidity] [.sensorLost, .frostDegraded] u (u.freshReading n v.hum) := by
      rcases u.freshReading_boosted n v.hum with e' | ⟨w, boosted, e'⟩
      · rw [e']
        exact ⟨_, entry, fun _ _ => rfl, rfl, .refl u⟩
      · rw [e']
        obtain ⟨b, hb⟩ := boosted.entry _ entry
        have derived := w.deriveHumidity_same.2.1
        have response : State.Response [.humidity] [.sensorLost, .frostDegraded] w w.deriveHumidity := .deriveHumidity w (by simp)
        generalize w.deriveHumidity = x at *
        have sensors (m : Nat) : x.hum.sensor m = w.hum.sensor m := Hum.sensor_of_sensors (by rw [derived]) m
        exact ⟨b, (sensors n).trans hb, fun m hm => (sensors m).trans (boosted.others m hm), by rw [derived]; exact boosted.bus,
          (State.Response.of_settled boosted.settled).trans response⟩
    generalize u.freshReading n v.hum = x at *
    have follow := SettledFrom.propagate x
    have responds : State.Response [.humidity] [.sensorLost, .frostDegraded] x x.propagate := .propagate x
    rw [← ht] at follow responds
    refine ⟨fun m hm => ?_, ?_, set.trans (response.trans responds), nofun, fun _ => ⟨_, by rw [follow.hum]; exact hb, rfl⟩⟩
    · rw [follow.hum, kept m hm, others m hm]
    · rw [follow.hum, same, bus]

/-! ### A stretch timeout -/

/-- The bus as a stretch timeout leaves it, before a fault (R88, R90). -/
def State.stretchTaken (s : State) (rest : List (Nat × BusKind)) : State :=
  s.updHum fun h => { h with bus := { h.bus with
    queue := rest, timeouts := s.hum.bus.timeouts + 1, state := .idle, flight := []
    sent := s.hum.bus.stretchSent s.freeCount } }

/-- A stretch timeout at the bus: the timeouts are counted, and the third one faults the bus (R90, R94). -/
theorem State.stretched_effect {k : BusKind} {rest : List (Nat × BusKind)} (hq : s.hum.bus.queue = (n, k) :: rest)
    (ht : t = s.stretched n) : t.osc = s.osc ∧ (∀ m, t.hum.sensor m = s.hum.sensor m) ∧ t.hum.active = s.hum.active
      ∧ State.Response l [.sensorBusFault] s t
      ∧ (s.hum.bus.timeouts < 2 → t.sup = s.sup ∧ t.hum.bus = { s.hum.bus with
          state := .idle, timeouts := s.hum.bus.timeouts + 1, queue := rest, flight := []
          sent := s.hum.bus.stretchSent s.freeCount })
      ∧ (2 ≤ s.hum.bus.timeouts → t.hum.bus = { s.hum.bus with
          state := .recovery, timeouts := 0, recovery := 5000, faults := min (s.hum.bus.faults + 1) 255, queue := rest
          flight := releaseSequence, sent := s.hum.bus.stretchSent s.freeCount }
        ∧ t.sup.flags.get .sensorBusFault = true
        ∧ (s.sup.capture = none → t.sup.capture
          = some (.fault .sensorBusFault 0 (min n 32767 : Nat) s.osc.uptime))) := by
  have shown : t = (if 3 ≤ s.hum.bus.timeouts + 1 then (s.stretchTaken rest).busFault n else s.stretchTaken rest).useFree := by
    rw [ht, State.stretched, State.completeHead]
    simp only [if_true, hq, List.drop_succ_cons, List.drop_zero, State.updHum, State.stretchTaken]
  have start : State.Response l [.sensorBusFault] s (s.stretchTaken rest) := .of_records (.updHum s _) rfl
  by_cases third : 3 ≤ s.hum.bus.timeouts + 1
  · rw [if_pos third] at shown
    have fault := (s.stretchTaken rest).faultEvent_taken .sensorBusFault 0 n
    have faulted : State.Response l [.sensorBusFault] (s.stretchTaken rest) ((s.stretchTaken rest).faultEvent .sensorBusFault 0 n) :=
      .fault _ (by simp) 0 n
    have hum := State.faultEvent_hum (s.stretchTaken rest) .sensorBusFault 0 n
    have osc := State.faultEvent_osc (s.stretchTaken rest) .sensorBusFault 0 n
    unfold State.busFault at shown
    dsimp only at shown
    generalize (s.stretchTaken rest).faultEvent .sensorBusFault 0 n = v at *
    have recovery : State.Response l [.sensorBusFault] v (v.updHum fun h => { h with bus := { h.bus with
        faults := bump h.bus.faults 255, timeouts := 0, state := .recovery, recovery := Config.recoveryMs
        flight := releaseSequence } }) := .of_records (.updHum v _) rfl
    have thumb : t.hum = { v.hum with bus := { v.hum.bus with
        faults := bump v.hum.bus.faults 255, timeouts := 0, state := .recovery, recovery := Config.recoveryMs
        flight := releaseSequence } } := by rw [shown]; rfl
    have tsup : t.sup = v.sup := by rw [shown]; rfl
    refine ⟨?_, fun m => ?_, ?_, ?_, fun h => by omega, fun _ => ⟨?_, ?_, fun hc => ?_⟩⟩
    · rw [shown]
      exact osc
    · rw [thumb, hum]
      rfl
    · rw [thumb, hum]
      rfl
    · have whole := start.trans (faulted.trans recovery)
      rw [shown]
      exact whole.trans (.of_records (.useFree _) rfl)
    · rw [thumb, hum]
      rfl
    · rw [tsup, fault.flags _ (by decide)]
      rfl
    · rw [tsup, (fault.armed hc).1, clampI_natCast]
      rfl
  · rw [if_neg third] at shown
    subst shown
    exact ⟨rfl, fun _ => rfl, rfl, start.trans (.of_records (.useFree _) rfl), fun _ => ⟨rfl, rfl⟩,
      fun h => by omega⟩

end Readings

/-! ### The outcome of a measurement -/

theorem Hum.updSensor_set {h : Hum} {n : Nat} {e : Sensor} (hn : h.sensor n = some e) (f : Sensor → Sensor) :
    h.updSensor n f = { h with sensors := h.sensors.set (n - 1) (f e) } := by
  have n0 := Hum.sensor_some hn
  rw [Hum.sensor, if_neg n0] at hn
  rw [Hum.updSensor, if_neg n0, List.modify_eq_set_getElem?, hn]
  rfl

theorem classifyReply_bad {b0 b1 b2 b3 b4 b5 : Byte} {o : BusOutcome}
    (h : crc8 [b0, b1, b2, b3, b4] ≠ b5 ∧ o = .crcBad
      ∨ crc8 [b0, b1, b2, b3, b4] = b5 ∧ (b4 = 2 ∧ o = .sensorError
        ∨ b4 ≠ 2 ∧ (2 < b4.toNat ∨ (b0 ++ b1 : BitVec 16).toInt < -400 ∨ 800 < (b0 ++ b1 : BitVec 16).toInt
          ∨ 1050 < be16 b2 b3) ∧ o = .rangeBad)) : classifyReply b0 b1 b2 b3 b4 b5 = (o, none) := by
  unfold classifyReply
  dsimp only
  rcases h with ⟨crc, rfl⟩ | ⟨crc, ⟨rfl, rfl⟩ | ⟨b2', h, rfl⟩⟩
  · exact if_pos crc
  · exact (if_neg (not_not.mpr crc)).trans (if_pos rfl)
  · rw [if_neg (not_not.mpr crc), if_neg b2']
    by_cases status : b4 ≠ 0 ∧ b4 ≠ 1
    · exact if_pos status
    · rw [if_neg status]
      have small : ¬2 < b4.toNat := by
        intro big
        refine status ⟨?_, ?_⟩ <;> rintro rfl <;> exact absurd big (by decide)
      by_cases range : (b0 ++ b1 : BitVec 16).toInt < -400 ∨ 800 < (b0 ++ b1 : BitVec 16).toInt
      · exact if_pos range
      · rw [if_neg range]
        refine if_pos ?_
        rcases h with h | h | h | h
        · exact absurd h small
        · exact absurd (.inl h) range
        · exact absurd (.inr h) range
        · exact h

theorem classifyReply_cases (b0 b1 b2 b3 b4 b5 : Byte) :
    (classifyReply b0 b1 b2 b3 b4 b5).1 ≠ .stretchTimeout := by
  unfold classifyReply
  dsimp only
  repeat' split
  all_goals exact nofun

theorem classifyMeasure_noStretch (m : MeasureReply) : (classifyMeasure m).1 ≠ .stretchTimeout := by
  cases m with
  | noAck k p => exact nofun
  | dataLow => exact nofun
  | bytes k b0 b1 b2 b3 b4 b5 => exact classifyReply_cases _ _ _ _ _ _

end Sys2Proof.Machine

/-- Settles O42. -/
theorem measureReachesEntry : Obligations.MeasureReachesEntry := by
  intro s n rest e m hs hq hn
  have row := State.measureComplete_eq hs hq (classifyMeasure_noStretch m)
  have taken : State.Response [.humidity] [.sensorLost, .frostDegraded] s (s.headTaken rest (s.hum.bus.measureSent m)) :=
    .of_records (.updHum s _) rfl
  refine ⟨fun ho => ?_, fun ho => ?_, fun ho => ⟨s.hum.bus.measureSent m, ?_⟩⟩
  · cases hc : classifyMeasure m with | mk c v =>
    rw [hc] at row
    have sent : (s.headTaken rest (s.hum.bus.measureSent m)).hum.bus = { s.hum.bus with
        state := .idle, timeouts := 0, queue := rest, flight := [], sent := s.hum.bus.measureSent m } := rfl
    have active : (s.headTaken rest (s.hum.bus.measureSent m)).hum.active = s.hum.active := rfl
    have fails (o : BusOutcome) (ho' : classifyMeasure m = (o, none)) : o = c ∧ v = none := by
      rw [hc] at ho'
      cases ho'
      exact ⟨rfl, rfl⟩
    have parts : ∃ t : State, t = (s.headTaken rest (s.hum.bus.measureSent m)).measured n c v
        ∧ (∀ k, k ≠ n → t.hum.sensor k = s.hum.sensor k)
        ∧ t.hum.bus = (s.headTaken rest (s.hum.bus.measureSent m)).hum.bus
        ∧ State.Response [.humidity] [.sensorLost, .frostDegraded] s t := by
      refine ⟨_, rfl, ?_⟩
      cases v with
      | none =>
        obtain ⟨h1, h2, h3, -⟩ := State.measured_failed (s := s.headTaken rest (s.hum.bus.measureSent m)) hn ho (o := c) rfl
        exact ⟨h1, h2, taken.trans h3⟩
      | some v =>
        obtain ⟨h1, h2, h3, -⟩ := State.measured_reads (s := s.headTaken rest (s.hum.bus.measureSent m)) hn ho (o := c) (v := v) rfl
        exact ⟨h1, h2, taken.trans h3⟩
    obtain ⟨t, ht, others, bus, response⟩ := parts
    rw [← ht] at row
    refine ⟨t, row, response.settled t.hum t.sup, fun g h1 h2 h3 h4 => response.flags g (by simp [h1, h2]) h3 h4,
      ⟨_, bus.trans sent, fun lead tail hl hf => ⟨fun h => ?_, fun k b0 b1 b2 b3 b4 b5 h => ?_,
        fun k p w c r after h htail => ?_⟩⟩, others, fun k b0 b1 b2 b3 b4 b5 x h crc hx h1 h2 h3 => ⟨fun h4 => ?_, fun h4 => ?_⟩,
      fun o hm => ?_⟩
    · rw [h]
      exact Bus.pulsesOnly_eq hl hf
    · rw [h, Bus.measureSent, Bus.passing_eq hl hf, Bus.afterTest_flight hl hf]
    · rw [h]
      rw [htail] at hf
      exact Bus.measureSent_noAck k p hl hf
    · subst h hx h4
      have good : classifyMeasure (.bytes k b0 b1 b2 b3 0 b5) = _ := classifyReply_good crc (.inl rfl) h1 h2 h3
      rw [hc] at good
      obtain ⟨rfl, rfl⟩ := Prod.mk.inj good
      obtain ⟨-, -, -, -, entry⟩ := State.measured_reads (s := s.headTaken rest (s.hum.bus.measureSent _)) hn ho ht
      exact entry rfl
    · subst h hx h4
      have good : classifyMeasure (.bytes k b0 b1 b2 b3 1 b5) = _ := classifyReply_good crc (.inr rfl) h1 h2 h3
      rw [hc] at good
      obtain ⟨rfl, rfl⟩ := Prod.mk.inj good
      obtain ⟨-, -, -, entry, -⟩ := State.measured_reads (s := s.headTaken rest (s.hum.bus.measureSent _)) hn ho ht
      exact entry rfl
    · have bad : classifyMeasure m = (o, none) := by
        rcases hm with ⟨⟨k, p, rfl⟩ | rfl, rfl⟩ | ⟨k, b0, b1, b2, b3, b4, b5, rfl, h⟩
        · rfl
        · rfl
        · exact classifyReply_bad h
      obtain ⟨rfl, rfl⟩ := fails o bad
      obtain ⟨-, -, -, early, late⟩ := State.measured_failed (s := s.headTaken rest (s.hum.bus.measureSent m)) hn ho ht
      refine ⟨early, fun h => ?_⟩
      obtain ⟨lost, flag, capture⟩ := late h
      refine ⟨flag, capture, _, lost, rfl, rfl, rfl, rfl, rfl, rfl, fun ha => ?_⟩
      rw [active, ha]
      refine ⟨rfl, fun b hb => ⟨b.lost, ?_, ?_, fun hst => ?_, fun hst => ?_⟩⟩
      · change e.boost.map Boost.lost = _
        rw [hb]
        rfl
      · cases hst : b.state <;> simp [Boost.lost, hst, Boost.finish]
      · simp [Boost.lost, hst, Boost.finish]
      · simp [Boost.lost, hst]
  · have row : exec .stretchTimeout s = .next ((s.stretched n).measured n .stretchTimeout none) := by
      change execStretchTimeout s = _
      unfold execStretchTimeout
      rw [hs, hq]
    obtain ⟨osc, sensors, active, response, first, third⟩ := State.stretched_effect (l := [.humidity]) hq rfl
    generalize s.stretched n = u at *
    obtain ⟨others, -, failed, early, late⟩ := State.measured_failed ((sensors n).trans hn) ho rfl
    generalize u.measured n .stretchTimeout none = t at *
    have settled := (response.settled t.hum t.sup).trans (failed.settled t.hum t.sup)
    refine ⟨t, row, settled.weaken (by simp), fun k hk => (others k hk).trans (sensors k), early, fun h => ?_⟩
    obtain ⟨lost, flag, capture⟩ := late h
    refine ⟨flag, fun hc ht => ?_, _, lost, rfl, rfl, rfl, rfl, rfl, rfl, fun ha => ?_⟩
    · rw [capture (by rw [(first ht).1]; exact hc), osc]
      rfl
    · rw [active, ha]
      refine ⟨rfl, fun b hb hst => ⟨b.lost, ?_, ?_, ?_, ?_⟩⟩
      · change e.boost.map Boost.lost = _
        rw [hb]
        rfl
      all_goals simp [Boost.lost, hst, Boost.finish]
  · rw [row, State.measured_other (s := s.headTaken rest (s.hum.bus.measureSent m)) hn ho]
    have set := Hum.updSensor_set (h := (s.headTaken rest (s.hum.bus.measureSent m)).hum) hn
      fun e => e.noted .measure (classifyMeasure m).1
    exact congrArg (fun h => Host.Outcome.next { s with hum := h }) set

end

section
/-! A transaction of the sensor bus starts and ends; the outcome of a PROBE; the recovery. -/

open Sys2Proof Sys2Proof.Machine

namespace Sys2Proof.Machine

section Probes

variable {s t : State} {n : Nat} {e : Sensor}

/-! ### The start of a transaction -/

/-- What goes out after the line test (R84 to R86). -/
theorem Hum.headSequence_eq {h : Hum} {k : BusKind} {rest : List (Nat × BusKind)} (hq : h.bus.queue = (n, k) :: rest)
    (hn : h.sensor n = some e) : h.headSequence = k.sequence e.address := by
  simp only [Hum.headSequence, hq, hn]

theorem addressByte_eq (a : Nat) : addressByte a false = BitVec.ofNat 8 (2 * a)
    ∧ addressByte a true = BitVec.ofNat 8 (2 * a + 1) := ⟨rfl, rfl⟩

theorem State.setSensor_effect (s : State) (n : Nat) (st : SensorState) (f : Sensor → Sensor) :
    State.Response [] [.frostDegraded] s (s.setSensor n st f)
      ∧ (s.setSensor n st f).hum = s.hum.updSensor n fun e => { f e with state := st } := by
  obtain ⟨records, hum⟩ := s.setSensor_same n st f
  refine ⟨.of_records (records.weaken (by simp)) ?_, hum⟩
  rw [State.setSensor, State.raise_flt]
  rfl

theorem State.setSensor_derived (s : State) (n : Nat) (st : SensorState) (f : Sensor → Sensor) :
    (s.setSensor n st f).deriveHumidity.hum.bus = s.hum.bus
      ∧ State.Response [] [.frostDegraded] s (s.setSensor n st f).deriveHumidity := by
  obtain ⟨set, hum⟩ := s.setSensor_effect n st f
  have bus := s.updSensor_bus n fun e => { f e with state := st }
  generalize s.setSensor n st f = v at *
  refine ⟨?_, set.trans (.deriveHumidity v (by simp))⟩
  rw [v.deriveHumidity_same.2.1, hum]
  exact bus

/-! ### The outcome of a PROBE -/

theorem classifyProbe_noStretch (a : ProbeReply) : classifyProbe a ≠ .stretchTimeout := by
  cases a with
  | answered k b => cases b <;> exact nofun
  | dataLow => exact nofun

theorem State.probeComplete_eq {rest : List (Nat × BusKind)} {a : ProbeReply} (hs : s.hum.bus.state = .busy)
    (hq : s.hum.bus.queue = (n, .probe) :: rest) : exec (.probeComplete a) s
      = .next ((s.headTaken rest (s.hum.bus.probeSent a)).probed n (classifyProbe a)) := by
  have row : exec (.probeComplete a) s
      = .next ((s.completeHead n (classifyProbe a) (s.hum.bus.probeSent a)).probed n (classifyProbe a)) := by
    change execProbeComplete a s = _
    unfold execProbeComplete
    rw [hs, hq]
  rw [row, State.completeHead_eq (classifyProbe_noStretch a), State.headTaken]
  simp only [State.updHum, hq, List.drop_succ_cons, List.drop_zero]

/-- A PROBE that is acknowledged takes a PROBING entry ONLINE and offers a MEASURE (R97). -/
theorem State.probed_good (hn : s.hum.sensor n = some e) (he : e.state = .probing) (ht : t = s.probed n .good) :
    t.hum.sensor n = some { e with state := .online, failures := 0, pause := none, lastOutcome := some (.probe, .good) }
      ∧ (∀ m, m ≠ n → t.hum.sensor m = s.hum.sensor m) ∧ t.hum.bus = s.hum.bus.offer n .measure
      ∧ State.Response [] [.frostDegraded] s t := by
  obtain ⟨entry, others⟩ := State.updSensor_sensor hn fun e => e.noted .probe .good
  have bus := s.updSensor_bus n fun e => e.noted .probe .good
  have shown : t = (((s.updSensor n fun e => e.noted .probe .good).setSensor n .online fun e =>
      { e with failures := 0, pause := none }).offerBus n .measure).deriveHumidity := by
    rw [ht]
    unfold State.probed
    simp only [Sensor.noted] at entry ⊢
    simp only [entry, he, if_true]
  have noted : State.Response [] [.frostDegraded] s (s.updSensor n fun e => e.noted .probe .good) := .updSensor s n _
  generalize s.updSensor n (fun e => e.noted .probe .good) = u at *
  obtain ⟨entry', others'⟩ := Hum.updSensor_sensor entry fun e => { e with failures := 0, pause := none, state := .online }
  obtain ⟨set, hum⟩ := u.setSensor_effect n .online fun e => { e with failures := 0, pause := none }
  have busSet := u.updSensor_bus n fun e => { e with failures := 0, pause := none, state := .online }
  generalize (u.setSensor n .online fun e => { e with failures := 0, pause := none }) = v at *
  have derived := (v.offerBus n .measure).deriveHumidity_same.2.1
  have response : State.Response [] [.frostDegraded] (v.offerBus n .measure) (v.offerBus n .measure).deriveHumidity :=
    .deriveHumidity _ (by simp)
  have offered : State.Response [] [.frostDegraded] v (v.offerBus n .measure) := .of_records (.updHum v _) rfl
  rw [← shown] at derived response
  have sensors : t.hum.sensors = (u.hum.updSensor n fun e => { e with failures := 0, pause := none, state := .online }).sensors := by
    rw [derived, ← hum]
    rfl
  refine ⟨(Hum.sensor_of_sensors sensors n).trans entry', fun m hm => ?_, ?_, noted.trans (set.trans (offered.trans response))⟩
  · exact (Hum.sensor_of_sensors sensors m).trans ((others' m hm).trans (others m hm))
  · rw [derived]
    change v.hum.bus.offer n .measure = _
    rw [hum]
    exact congrArg (fun b : Bus => b.offer n .measure) (busSet.trans bus)

/-- Another outcome counts an attempt of a PROBING entry, and the last one makes it ABSENT (R97). -/
theorem State.probed_failed (hn : s.hum.sensor n = some e) (he : e.state = .probing) {o : BusOutcome} (ho : o ≠ .good)
    (ht : t = s.probed n o) : (∀ m, m ≠ n → t.hum.sensor m = s.hum.sensor m)
      ∧ (min (e.attempts + 1) 50 < s.setting 38 → t.hum.sensor n = some { e with
          attempts := min (e.attempts + 1) 50, pause := some (s.setting 37), lastOutcome := some (.probe, o) })
      ∧ (s.setting 38 ≤ min (e.attempts + 1) 50 → t.hum.sensor n = some { e with
          state := .absent, attempts := min (e.attempts + 1) 50, pause := none, lastOutcome := some (.probe, o) }) := by
  obtain ⟨entry, others⟩ := State.updSensor_sensor hn fun e => e.noted .probe o
  have setting (i : Nat) : (s.updSensor n fun e => e.noted .probe o).setting i = s.setting i := rfl
  have shown : t = if s.setting 38 ≤ min (e.attempts + 1) 50
      then ((s.updSensor n fun e => e.noted .probe o).setSensor n .absent fun x =>
        { x with attempts := min (e.attempts + 1) 50, pause := none }).deriveHumidity
      else (s.updSensor n fun e => e.noted .probe o).updSensor n fun x =>
        { x with attempts := min (e.attempts + 1) 50, pause := some (s.setting 37) } := by
    rw [ht]
    unfold State.probed
    simp only [Sensor.noted] at entry ⊢
    simp only [entry, he, ho, if_true, if_false]
    rfl
  generalize s.updSensor n (fun e => e.noted .probe o) = u at *
  by_cases last : s.setting 38 ≤ min (e.attempts + 1) 50
  · rw [if_pos last] at shown
    obtain ⟨entry', others'⟩ := Hum.updSensor_sensor entry fun x =>
      { x with attempts := min (e.attempts + 1) 50, pause := none, state := .absent }
    obtain ⟨-, hum⟩ := u.setSensor_effect n .absent fun x => { x with attempts := min (e.attempts + 1) 50, pause := none }
    generalize (u.setSensor n .absent fun x => { x with attempts := min (e.attempts + 1) 50, pause := none }) = v at *
    have sensors : t.hum.sensors = (u.hum.updSensor n fun x =>
        { x with attempts := min (e.attempts + 1) 50, pause := none, state := .absent }).sensors := by
      rw [shown, v.deriveHumidity_same.2.1, hum]
    exact ⟨fun m hm => (Hum.sensor_of_sensors sensors m).trans ((others' m hm).trans (others m hm)), fun h => by omega,
      fun _ => (Hum.sensor_of_sensors sensors n).trans entry'⟩
  · rw [if_neg last] at shown
    subst shown
    obtain ⟨entry', others'⟩ := State.updSensor_sensor entry fun x =>
      { x with attempts := min (e.attempts + 1) 50, pause := some (s.setting 37) }
    exact ⟨fun m hm => (others' m hm).trans (others m hm), fun _ => entry', fun h => absurd h last⟩

/-- An entry that is not PROBING records the outcome alone (R97). -/
theorem State.probed_other (hn : s.hum.sensor n = some e) (he : e.state ≠ .probing) (o : BusOutcome) :
    s.probed n o = s.updSensor n fun e => e.noted .probe o := by
  have entry := (State.updSensor_sensor hn fun e => e.noted .probe o).1
  unfold State.probed
  simp only [Sensor.noted] at entry ⊢
  simp only [entry, he, if_false]

/-- What an outcome other than GOOD leaves of the bus and of the rest. -/
theorem State.probed_same (s : State) (n : Nat) {o : BusOutcome} (ho : o ≠ .good) :
    (s.probed n o).hum.bus = s.hum.bus ∧ State.Response [] [.frostDegraded] s (s.probed n o) := by
  have bus := s.updSensor_bus n fun e => e.noted .probe o
  have noted : State.Response [] [.frostDegraded] s (s.updSensor n fun e => e.noted .probe o) := .updSensor s n _
  unfold State.probed
  simp only [Sensor.noted, ho, if_false] at bus noted ⊢
  generalize (s.updSensor n _) = u at *
  split
  · split
    · split
      · obtain ⟨set, response⟩ := u.setSensor_derived n .absent fun x => { x with attempts := _, pause := none }
        exact ⟨set.trans bus, noted.trans response⟩
      · exact ⟨(u.updSensor_bus n _).trans bus, noted.trans (.updSensor u n _)⟩
    · exact ⟨bus, noted⟩
  · exact ⟨bus, noted⟩

theorem State.measured_same (s : State) (n : Nat) (o : BusOutcome) :
    (s.measured n o none).hum.bus = s.hum.bus ∧ State.Response [.humidity] [.sensorLost, .frostDegraded] s (s.measured n o none) := by
  cases hn : s.hum.sensor n with
  | some e =>
    by_cases ho : e.state = .online
    · obtain ⟨-, bus, response, -⟩ := State.measured_failed hn ho (o := o) rfl
      exact ⟨bus, response⟩
    · rw [State.measured_other hn ho]
      exact ⟨s.updSensor_bus n _, .updSensor s n _⟩
  | none =>
    have absent : (s.updSensor n fun e => e.noted .measure o).hum.sensor n = none := by
      by_cases n0 : n = 0
      · subst n0
        rfl
      · refine (Hum.sensor_updSensor n0 s.hum _ n0).trans ?_
        rw [if_pos rfl, hn]
        rfl
    have shown : s.measured n o none = s.updSensor n fun e => e.noted .measure o := by
      unfold State.measured
      simp only [Sensor.noted] at absent ⊢
      simp only [absent]
    rw [shown]
    exact ⟨s.updSensor_bus n _, .updSensor s n _⟩

end Probes

end Sys2Proof.Machine

/-- Settles O41. -/
theorem busTransactions : Obligations.BusTransactions := by
  intro s
  refine ⟨fun hs hq => ?_, fun hs hr => if_pos ⟨hs, hr⟩, fun n rest e hs hq hn => ⟨fun k => ?_, fun c o hc => ?_⟩,
    fun n k rest hs hq => ?_⟩
  · refine ⟨_, s.hum.headSequence, if_pos ⟨hs, hq⟩, rfl, fun n rest e hq hn => ?_, fun n rest e hq hn => ?_⟩
    · exact Hum.headSequence_eq hq hn
    · exact Hum.headSequence_eq hq hn
  · have row := State.probeComplete_eq (a := .answered k true) hs hq
    have taken : State.Response [] [.frostDegraded] s (s.headTaken rest (s.hum.bus.probeSent (.answered k true))) :=
      .of_records (.updHum s _) rfl
    have passed (lead tail : List BusItem) (hl : .lineTest ∉ lead) (hf : s.hum.bus.flight = lead ++ .lineTest :: tail) :
        s.hum.bus.probeSent (.answered k true) = lead ++ List.replicate k.val .clock ++ tail := by
      rw [Bus.probeSent, Bus.passing_eq hl hf, Bus.afterTest_flight hl hf]
    have head : (s.headTaken rest (s.hum.bus.probeSent (.answered k true))).hum.sensor n = some e := hn
    have bus : (s.headTaken rest (s.hum.bus.probeSent (.answered k true))).hum.bus = { s.hum.bus with
      state := .idle, timeouts := 0, queue := rest, flight := [], sent := s.hum.bus.probeSent (.answered k true) } := rfl
    have others (m : Nat) : (s.headTaken rest (s.hum.bus.probeSent (.answered k true))).hum.sensor m = s.hum.sensor m := rfl
    generalize s.hum.bus.probeSent (.answered k true) = gone at *
    by_cases he : e.state = .probing
    · obtain ⟨entry, kept, offered, response⟩ := State.probed_good head he rfl
      refine ⟨_, gone, row, passed, (taken.trans response).settled _ _, fun m hm => (kept m hm).trans (others m),
        fun _ => ⟨entry, ?_⟩, fun h => absurd he h⟩
      refine offered.trans ?_
      rw [Bus.offer_eq, bus]
    · have alone := State.probed_other head he .good
      obtain ⟨entry, kept⟩ := State.updSensor_sensor head fun e => e.noted .probe .good
      have shown := row.trans (congrArg Host.Outcome.next alone)
      have busKept := (s.headTaken rest gone).updSensor_bus n fun e => e.noted .probe .good
      have noted := taken.trans (.updSensor _ n fun e => e.noted .probe .good)
      exact ⟨_, gone, shown, passed, noted.settled _ _, fun m hm => (kept m hm).trans (others m),
        fun h => absurd h he, fun _ => ⟨entry, busKept.trans bus⟩⟩
  · have outcome : ∃ u : State, exec c s = .next (u.probed n o) ∧ (∀ m, u.hum.sensor m = s.hum.sensor m) ∧ u.osc = s.osc
        ∧ o ≠ .good ∧ u.hum.bus.queue = rest ∧ State.Response [] [.sensorBusFault, .frostDegraded] s u
        ∧ (o = .noAck → u.hum.bus.state = .idle ∧ u.hum.bus.timeouts = 0)
        ∧ (∀ k, c = .probeComplete (.answered k false) → u.hum.bus.sent = s.hum.bus.probeSent (.answered k false))
        ∧ (c = .probeComplete .dataLow → u.hum.bus.sent = s.hum.bus.probeSent .dataLow) := by
      rcases hc with ⟨⟨k, rfl⟩, rfl⟩ | ⟨rfl, rfl⟩ | ⟨rfl, rfl⟩
      · refine ⟨_, State.probeComplete_eq hs hq, fun _ => rfl, rfl, nofun, rfl, .of_records (.updHum s _) rfl,
          fun _ => ⟨rfl, rfl⟩, fun k' h => ?_, nofun⟩
        cases h
        rfl
      · exact ⟨_, State.probeComplete_eq hs hq, fun _ => rfl, rfl, nofun, rfl, .of_records (.updHum s _) rfl,
          fun _ => ⟨rfl, rfl⟩, nofun, fun _ => rfl⟩
      · have row : exec .stretchTimeout s = .next ((s.stretched n).probed n .stretchTimeout) := by
          change execStretchTimeout s = _
          unfold execStretchTimeout
          rw [hs, hq]
        obtain ⟨osc, sensors, -, response, first, third⟩ := State.stretched_effect (l := []) hq rfl
        refine ⟨_, row, sensors, osc, nofun, ?_, response.weaken (by simp) (by simp), nofun, nofun, nofun⟩
        by_cases h : s.hum.bus.timeouts < 2
        · rw [(first h).2]
        · rw [(third (Nat.not_lt.mp h)).1]
    obtain ⟨u, row, sensors, osc, bad, queue, response, idle, answered, low⟩ := outcome
    have entry := (sensors n).trans hn
    have setting (i : Nat) : u.setting i = s.setting i := congrArg (fun o : Osc => settingNat o.working i) osc
    obtain ⟨bus, probed⟩ := u.probed_same n bad
    have failed := State.probed_failed entry (o := o) (t := u.probed n o)
    have other := fun h => State.probed_other entry h o
    have whole := response.trans (probed.weaken (by simp) (by simp))
    refine ⟨_, row, whole.settled _ _, fun m hm => ?_, fun he h => ?_, fun he h => ?_, fun he => ?_, ?_, fun h => ?_,
      fun lead tail hl hf => ⟨fun k h => ?_, fun h => ?_⟩⟩
    · by_cases he : e.state = .probing
      · exact ((failed he bad rfl).1 m hm).trans (sensors m)
      · rw [other he]
        exact ((State.updSensor_sensor entry _).2 m hm).trans (sensors m)
    · have count := (failed he bad rfl).2.1 (by rwa [setting])
      rwa [setting] at count
    · exact (failed he bad rfl).2.2 (by rwa [setting])
    · rw [other he]
      exact (State.updSensor_sensor entry _).1
    · rw [bus, queue]
    · rw [bus]
      exact idle h
    · rw [bus, answered k h, Bus.probeSent, Bus.passing_eq hl hf, Bus.afterTest_flight hl hf]
    · rw [bus, low h, Bus.probeSent, Bus.pulsesOnly_eq hl hf]
  · obtain ⟨-, -, -, response, first, third⟩ := State.stretched_effect (l := [.humidity]) hq rfl
    have follows : ∃ t : State, exec .stretchTimeout s = .next t ∧ t.hum.bus = (s.stretched n).hum.bus
        ∧ State.Response [.humidity] [.sensorLost, .frostDegraded] (s.stretched n) t := by
      cases k with
      | probe =>
        obtain ⟨bus, probed⟩ := (s.stretched n).probed_same n (o := .stretchTimeout) nofun
        refine ⟨_, ?_, bus, probed.weaken (by simp) (by simp)⟩
        change execStretchTimeout s = _
        unfold execStretchTimeout
        rw [hs, hq]
      | measure =>
        obtain ⟨bus, measured⟩ := (s.stretched n).measured_same n .stretchTimeout
        refine ⟨_, ?_, bus, measured⟩
        change execStretchTimeout s = _
        unfold execStretchTimeout
        rw [hs, hq]
    obtain ⟨t, row, bus, follow⟩ := follows
    generalize s.stretched n = u at *
    refine ⟨t, s.hum.bus.stretchSent s.freeCount, row, ?_, fun lead tail hl hf => ?_, fun h => bus.trans (first h).2, fun h => ?_⟩
    · rw [bus]
      by_cases h : s.hum.bus.timeouts < 2
      · rw [(first h).2]
      · rw [(third (Nat.not_lt.mp h)).1]
    · refine ⟨(Config.freePulses s.freeCount).val, Config.freePassed s.freeCount, Nat.le_of_lt_succ (Fin.is_lt _), ?_⟩
      rw [Bus.stretchSent, hf, beforeTest_append hl, afterTest_append hl]
      rfl
    · obtain ⟨recovery, flag, capture⟩ := third h
      refine ⟨bus.trans recovery, follow.stay _ flag, fun hc => ?_⟩
      have taken := capture hc
      rw [follow.capture (by rw [taken]; exact Option.some_ne_none _), taken]

end

section
/-! The notices of events. -/

open Sys2Proof Sys2Proof.Machine

namespace Sys2Proof.Machine

section Notices

variable {s t : State}

/-- A notice goes by the queues, the uptime and the settings alone. -/
theorem State.raise_lnk_congr (hl : t.lnk = s.lnk) (ho : t.osc = s.osc) (k : NoticeKind) (x : Nat) (v : Int) :
    (t.raise k x v).lnk = (s.raise k x v).lnk := by
  rw [State.raise_eq t k x v rfl rfl rfl, State.raise_eq s k x v rfl rfl rfl, hl, ho]

theorem State.applyArb_none (s : State) (b : Arb) : s.applyArb (b, [])
    = if b.active = s.arb.active then { s with arb := b }
      else { s with arb := b }.raise .demandChanged (slotCode b.active) (twoPart b.activeLevel (slotCode s.arb.active)) := rfl



theorem State.boostNoted_lnk (s : State) (n : Nat) (f : Boost → Boost) (v : Int) :
    (s.boostNoted n f v).lnk = (s.raise .humidityBoost n v).lnk :=
  State.raise_lnk_congr (s := s) (t := s.updSensor n fun e => { e with boost := e.boost.map f }) rfl rfl _ _ _

theorem State.setSensor_lnk (s : State) (n : Nat) (x : SensorState) (f : Sensor → Sensor) :
    (s.setSensor n x f).lnk = (s.raise .sensorState n x.code).lnk :=
  State.raise_lnk_congr (s := s) (t := s.updSensor n fun e => { f e with state := x }) rfl rfl _ _ _

/-- A filter entry that changes state (R123). -/
theorem State.deriveFilter_lnk (s : State) (i : PathId) : (s.deriveFilter i).lnk
    = if ((s.flt.filter i).derive (s.setting 64)).state = (s.flt.filter i).state then s.lnk
      else (s.raise .filterState (pathCode i) ((s.flt.filter i).derive (s.setting 64)).state.code).lnk := by
  have due (u : State) (a b : FilterState) : (u.flagDue a b).lnk = u.lnk := by
    unfold State.flagDue
    split <;> rfl
  unfold State.deriveFilter
  dsimp only
  split
  · rfl
  · rw [due]
    exact State.raise_lnk_congr (s := s)
      (t := s.updFlt (·.setFilter i ((s.flt.filter i).derive (s.setting 64)))) rfl rfl _ _ _

theorem State.deriveFilter_entry (s : State) (i : PathId) :
    (s.deriveFilter i).flt.filter i = (s.flt.filter i).derive (s.setting 64) := by
  rw [s.deriveFilter_flt]
  cases i <;> rfl

theorem Capture.noticeValue_eq (c : Capture) : c.noticeValue = match c with
    | .fault g _ _ _ => (g.code : Nat)
    | .watch x _ _ _ _ _ _ _ => (65536 + x.code : Nat) := by
  cases c <;> simp [Capture.noticeValue, twoPart] <;> rfl

/-! ### The door -/

/-- The door as it is reported, with its notice (R138, R178). -/
def State.doorNoted (s : State) (c : Contact) : State := (s.updFlt fun t => { t with door := c }).raise .door 0 (doorCode c)

theorem State.doorNoted_same (s : State) (c : Contact) : (s.doorNoted c).osc = s.osc
    ∧ (s.doorNoted c).flt.serviceTimer = s.flt.serviceTimer := by
  refine ⟨State.raise_osc _ _ _ _, ?_⟩
  rw [State.doorNoted, State.raise_flt]
  rfl

/-- What follows a door report, by the device state (R135, R136, R138). -/
theorem State.doorReport_eq (s : State) (c : Contact) :
    (s.osc.device = .running → c = .opened → s.doorReport c = (s.doorNoted c).enterDoorOpen)
    ∧ (s.osc.device = .servicePrepare → c = .opened → s.doorReport c = (s.doorNoted c).enterFilterService.propagate)
    ∧ ((s.osc.device = .doorOpen ∨ s.osc.device = .filterService ∧ s.flt.serviceTimer = 0) → c = .closed →
      s.doorReport c = (s.doorNoted c).returnToRunning)
    ∧ ((c = .opened → s.osc.device ≠ .running ∧ s.osc.device ≠ .servicePrepare) →
      (c = .closed → s.osc.device ≠ .doorOpen ∧ (s.osc.device = .filterService → 0 < s.flt.serviceTimer)) →
      s.doorReport c = s.doorNoted c) := by
  obtain ⟨osc, timer⟩ := s.doorNoted_same c
  unfold State.doorReport
  rw [← State.doorNoted]
  simp only [osc, timer]
  refine ⟨fun hd hc => ?_, fun hd hc => ?_, fun hd hc => ?_, fun ho hc => ?_⟩
  · simp only [hd, hc]
  · simp only [hd, hc]
  · rcases hd with hd | ⟨hd, ht⟩
    · simp only [hd, hc]
    · simp only [hd, hc, ht, if_true]
  · cases c with
    | opened =>
      obtain ⟨h1, h2⟩ := ho rfl
      cases hd : s.osc.device <;> simp_all
    | closed =>
      obtain ⟨h1, h2⟩ := hc rfl
      cases hd : s.osc.device <;> simp_all <;> omega

/-! ### The end of a defrost -/

theorem State.takeReport_elapsed (s : State) (q : Report) : (s.takeReport q).frg.defrost.elapsed = s.frg.defrost.elapsed := by
  unfold State.takeReport
  split
  · unfold State.defrostActive
    split
    · simp
    all_goals rfl
  · unfold State.defrostPreempted
    split <;> rfl
  · unfold State.trySettle
    split <;> rfl
  · unfold State.checkPreempted
    split
    · dsimp only
      split
      · rw [State.raiseFilterResult, State.raise_frg]
        rfl
      · rfl
    · rfl
  · unfold State.checkFreedByStandby
    split
    · rfl
    · rw [State.raiseFilterResult, State.raise_frg]
      rfl
  all_goals rfl

theorem State.applyArb_elapsed (s : State) (r : Arb × List Report) :
    (s.applyArb r).frg.defrost.elapsed = s.frg.defrost.elapsed := by
  have reports (l : List Report) (t : State) : (l.foldl State.takeReport t).frg.defrost.elapsed = t.frg.defrost.elapsed := by
    induction l generalizing t with
    | nil => rfl
    | cons q l ih => exact (ih _).trans (t.takeReport_elapsed q)
  unfold State.applyArb
  dsimp only
  refine (reports _ _).trans ?_
  split
  · rfl
  · rw [State.raise_frg, State.updArb_frg]

end Notices

end Sys2Proof.Machine

/-- Settles O53. -/
theorem eventsRaiseNotices : Obligations.EventsRaiseNotices := by
  refine ⟨fun s b => ⟨fun h => ?_, fun x h hx => ?_, fun y hb hy => ?_⟩, fun s i p => ⟨fun h => if_pos h, fun h => ?_⟩,
    fun s i q goal h1 h2 h3 h4 h5 h6 => ?_, fun s c u hu => ⟨fun hd hc => ?_, fun hd hc => ?_, fun hd hc => ?_, fun ho hc => ?_⟩,
    fun s d => ?_, fun s hp => ?_, fun s e n => ?_, fun s n c pre f => ⟨fun h => ?_, fun h => ?_⟩, fun s n x f => ?_,
    fun s o c ho hc => ?_, fun s i t ht => ⟨fun h => ?_, fun h => ?_⟩, fun s c => ⟨fun h => ?_, fun h => ?_⟩, fun s w hw => ?_⟩
  · exact (s.applyArb_none b).trans (if_pos h)
  · refine (s.applyArb_none b).trans ((if_neg h).trans ?_)
    rw [hx, Arb.activeLevel, hx]
    rfl
  · refine (s.applyArb_none b).trans ((if_neg (by rw [hb, hy]; exact nofun)).trans ?_)
    rw [hb, Arb.activeLevel, hb, hy]
    simp [slotCode, twoPart]
  · refine (if_neg h).trans ?_
    cases i <;> cases p.state <;> rfl
  · have short : (s.afc.path i).shortCond = true := by
      simp [FanPath.shortCond, h3, h4, h5, h6]
    have row : exec (.shortfallReported i) s = .next (s.shortfallNoted i).shortfallPrompt.propagate := if_pos ⟨h1, h2, short⟩
    rw [row, State.shortfallNoted, State.movePath_shortStands, h4]
    cases i <;> rfl
  · rw [(s.doorReport_eq c).1 hd hc, hu, hc]
    rfl
  · rw [(s.doorReport_eq c).2.1 hd hc, hu, hc]
    rfl
  · rw [(s.doorReport_eq c).2.2.1 hd hc, hu, hc]
    rfl
  · rw [(s.doorReport_eq c).2.2.2 ho hc, hu]
    cases c <;> rfl
  · unfold State.setDevice
    cases d <;> rfl
  · unfold State.defrostActive
    rw [hp]
    exact ⟨_, rfl, rfl, rfl, rfl⟩
  · have elapsed := s.applyArb_elapsed (s.arb.free .defrost)
    have free := State.withdraw_free (s := s) .defrost
    refine ⟨(s.withdraw .defrost).updDefrost fun d => { d with phase := .lockout, lockout := n, endDue := none }, ?_, rfl, rfl,
      elapsed, free⟩
    have shown : s.endDefrost e n = (((s.withdraw .defrost).updDefrost fun d =>
        { d with phase := .lockout, lockout := n, endDue := none }).raise .defrostEnded 0
          (twoPart e.code (s.withdraw .defrost).frg.defrost.elapsed)).propagate := rfl
    rw [shown, State.withdraw, elapsed]
    cases e <;> rfl
  · rw [State.startBoost_eq, if_pos h]
    exact s.boostNoted_lnk n _ 0
  · have mark : (s.boostNoted n f 1).hum.humidityMark = false := by
      rw [State.boostNoted_hum, Hum.boostSet_rest]
      exact h
    have stays : (s.boostNoted n f 1).endHumidity = s.boostNoted n f 1 := if_neg (by simp [mark])
    rw [State.endBoost_eq, stays]
    exact s.boostNoted_lnk n f 1
  · refine (s.setSensor_lnk n x f).trans ?_
    cases x <;> rfl
  · unfold State.raiseFilterResult
    rw [ho, hc]
    cases o <;> cases c <;> rfl
  · rw [ht, s.deriveFilter_entry i] at h
    rw [ht, s.deriveFilter_lnk i, if_pos h]
  · rw [ht, s.deriveFilter_entry i] at h ⊢
    rw [s.deriveFilter_lnk i, if_neg h]
    cases i <;> cases ((s.flt.filter _).derive (s.setting 64)).state <;> rfl
  · rw [(s.offerCapture_taken c).2.2.2.2 h]
  · rw [State.offerCapture_armed h, c.noticeValue_eq]
    rfl
  · exact ⟨_, _, execStoreComplete_done hw, rfl, rfl⟩

end

section
/-! The end of a defrost and the second of its record: what the reports of the table make of the record, and what it keeps through
the propagation in a phase that takes no report. -/

open Sys2Proof Sys2Proof.Machine

namespace Sys2Proof.Machine

section Reports

variable {s t : State}

/-- The phases in which FRG acts on a report of DEFROST's slot (R71). -/
def DefrostPhase.heeds : DefrostPhase → ReportKind → Bool
  | .posted, .active | .suspended, .active | .running, .suspended | .confirm, .suspended => true
  | _, _ => false

/-- Only FRG's own reports reach its record, and only in the phases that wait for them. -/
theorem State.takeReport_frg {q : Report} (h : q.slot = .defrost → s.frg.defrost.phase.heeds q.kind = false) :
    (s.takeReport q).frg = s.frg := by
  unfold State.takeReport
  split
  · next hk hx =>
    have deaf := h hx
    rw [hk] at deaf
    unfold State.defrostActive
    split
    case h_1 hp | h_2 hp => rw [hp] at deaf; cases deaf
    all_goals rfl
  · next hk hx =>
    have deaf := h hx
    rw [hk] at deaf
    unfold State.defrostPreempted
    split
    case h_1 hp | h_2 hp => rw [hp] at deaf; cases deaf
    all_goals rfl
  · unfold State.trySettle
    split <;> rfl
  · unfold State.checkPreempted
    split
    · dsimp only
      split
      · rw [State.raiseFilterResult, State.raise_frg]
        rfl
      · rfl
    · rfl
  · unfold State.checkFreedByStandby
    split
    · rfl
    · rw [State.raiseFilterResult, State.raise_frg]
      rfl
  all_goals rfl

theorem State.applyArb_frg {r : Arb × List Report}
    (h : ∀ q ∈ r.2, q.slot = .defrost → s.frg.defrost.phase.heeds q.kind = false) : (s.applyArb r).frg = s.frg := by
  have reports (l : List Report) (hl : ∀ q ∈ l, q.slot = .defrost → s.frg.defrost.phase.heeds q.kind = false)
      (t : State) (ht : t.frg = s.frg) : (l.foldl State.takeReport t).frg = s.frg := by
    induction l generalizing t with
    | nil => exact ht
    | cons q l ih =>
      refine ih (fun x hx => hl x (by simp [hx])) _ ?_
      rw [State.takeReport_frg (by rw [ht]; exact hl q (by simp)), ht]
  unfold State.applyArb
  refine reports _ (fun q hq => h q (List.mem_filter.mp hq).1) _ ?_
  split
  · rfl
  · rw [State.raise_frg, State.updArb_frg]

/-- A report leaves the last result and the elapsed time of a defrost as they are. -/
theorem State.takeReport_lastResult (s : State) (q : Report) :
    (s.takeReport q).frg.defrost.lastResult = s.frg.defrost.lastResult := by
  cases hx : decide (q.slot = .defrost) with
  | false => rw [State.takeReport_frg fun e => absurd e (of_decide_eq_false hx)]
  | true =>
    obtain ⟨k, x⟩ := q
    obtain rfl : x = .defrost := of_decide_eq_true hx
    cases k with
    | active =>
      change s.defrostActive.frg.defrost.lastResult = _
      unfold State.defrostActive
      split
      · rw [State.raise_frg]
        rfl
      all_goals rfl
    | suspended =>
      change s.defrostPreempted.frg.defrost.lastResult = _
      unfold State.defrostPreempted
      split <;> rfl
    | _ => rfl

theorem State.applyArb_lastResult (s : State) (r : Arb × List Report) :
    (s.applyArb r).frg.defrost.lastResult = s.frg.defrost.lastResult := by
  have reports (l : List Report) (t : State) :
      (l.foldl State.takeReport t).frg.defrost.lastResult = t.frg.defrost.lastResult := by
    induction l generalizing t with
    | nil => rfl
    | cons q l ih => exact (ih _).trans (t.takeReport_lastResult q)
  unfold State.applyArb
  refine (reports _ _).trans ?_
  split
  · rfl
  · rw [State.raise_frg, State.updArb_frg]

/-! ### A phase that takes no report -/

/-- In IDLE and LOCKOUT nothing that the propagation does reaches the record. -/
def DefrostPhase.rests (p : DefrostPhase) : Prop := p = .idle ∨ p = .lockout

theorem DefrostPhase.rests.deaf {p : DefrostPhase} (h : p.rests) (k : ReportKind) : p.heeds k = false := by
  rcases h with rfl | rfl <;> rfl

theorem State.postCore_frg (h : ∀ k, s.frg.defrost.phase.heeds k = false) (x : Slot) (n : Nat) (p : PostArgs)
    (l : Option Link) : (s.postCore x n p l).1.frg = s.frg := by
  have test := (State.TableOnly.watchTest (s := s) x n p l).frg
  have same := (State.SameTable.watchTest s x n p l).defrost
  rw [same] at test
  unfold State.postCore
  split
  · dsimp only
    split
    · exact test
    · rw [State.applyArb_frg fun q _ _ => by rw [same]; exact h q.kind, test]
  · rfl

theorem State.postCore_slotFree (s : State) {x y : Slot} (hy : y ≠ x) (h : s.arb.table.get y = none) (n : Nat)
    (p : PostArgs) (l : Option Link) : (s.postCore x n p l).1.arb.table.get y = none := by
  have test := (State.SameTable.watchTest s x n p l).arb
  unfold State.postCore
  split
  · dsimp only
    split
    · rwa [test]
    · exact State.applyArb_free (Arb.post_free hy (by rwa [test]) p _)
  · exact h

theorem State.trySettle_frg (s : State) : s.trySettle.frg = s.frg ∧ s.trySettle.arb = s.arb := by
  unfold State.trySettle
  split <;> exact ⟨rfl, rfl⟩

/-- A check that starts leaves FRG and DEFROST's slot alone where no report of it is waited for. -/
theorem State.startCheck_deaf (h : ∀ k, s.frg.defrost.phase.heeds k = false) (c : CheckTrigger) :
    (s.startCheck c).1.frg = s.frg
      ∧ (s.arb.table.get .defrost = none → (s.startCheck c).1.arb.table.get .defrost = none) := by
  cases faulted : s.filterSensorFaulted with
  | true =>
    rw [State.startCheck_faulted faulted]
    refine ⟨?_, fun free => ?_⟩
    · dsimp only
      rw [State.raiseFilterResult, State.raise_frg]
      rfl
    · dsimp only
      rw [State.raiseFilterResult, State.raise_arb]
      exact free
  | false =>
    have frg : (s.checkPost c).1.frg = s.frg :=
      State.postCore_frg (s := s.updCheck (·.started c)) h _ _ _ _
    have slot : s.arb.table.get .defrost = none → (s.checkPost c).1.arb.table.get .defrost = none := fun free =>
      State.postCore_slotFree (s.updCheck (·.started c)) (x := .filterCheck) (by decide) free _ _ _
    cases hw : s.checkPost c with | mk w a =>
    rw [hw] at frg slot
    by_cases ha : a = .ok
    · subst ha
      obtain ⟨frg', arb'⟩ := (w.updCheck fun k => { k with phase := .waiting }).trySettle_frg
      rw [State.startCheck_posted faulted hw]
      exact ⟨frg'.trans frg, fun free => by rw [arb']; exact slot free⟩
    · rw [State.startCheck_undone faulted hw ha]
      exact ⟨frg, slot⟩

/-- A round leaves the record of a defrost in IDLE or LOCKOUT alone, and its slot FREE. -/
theorem State.round_rests (h : s.frg.defrost.phase.rests) : s.round.frg.defrost = s.frg.defrost
    ∧ (s.arb.table.get .defrost = none → s.round.arb.table.get .defrost = none) := by
  have waits {t : State} (ht : t.frg.defrost = s.frg.defrost) : t.frg.defrost.phase ≠ .prepare := by
    rw [ht]
    rcases h with h | h <;> rw [h] <;> decide
  refine State.round_induct (P := fun t => t.frg.defrost = s.frg.defrost
    ∧ (s.arb.table.get .defrost = none → t.arb.table.get .defrost = none)) ?_ ?_ ?_ ?_ ?_ ?_ ⟨rfl, id⟩
  · intro t u hu ht
    rwa [hu.defrost, hu.arb]
  · intro t hp ht
    exact absurd hp (waits ht.1)
  · intro t w p f hp ht
    exact absurd hp (waits ht.1)
  · intro t _ ht
    have frg : (t.setDevice .standby).frg = t.frg := State.setDevice_frg _ _
    have arb : (t.setDevice .standby).arb = t.arb := State.setDevice_arb _ _
    refine ⟨?_, fun free => State.applyArb_free ?_⟩
    · unfold State.enterStandby
      rw [State.applyArb_frg (by simp), frg]
      exact ht.1
    · rw [arb]
      exact ht.2 free
  · intro t _ ht
    have frg : t.enterFilterService.frg = t.frg := State.setDevice_frg _ _
    have arb : t.enterFilterService.arb = t.arb := State.setDevice_arb _ _
    rwa [frg, arb]
  · intro t ht
    unfold State.startTest
    split
    · dsimp only
      split
      · obtain ⟨frg, slot⟩ := State.startCheck_deaf (s := t.updFlt fun f => { f with startTestDue := false })
          (fun k => by rw [State.updFlt_frg, ht.1]; exact h.deaf k) .scheduled
        exact ⟨by rw [frg]; exact ht.1, fun free => slot (ht.2 free)⟩
      · exact ht
    · exact ht

theorem State.propagate_rests (h : s.frg.defrost.phase.rests) : s.propagate.frg.defrost = s.frg.defrost
    ∧ (s.arb.table.get .defrost = none → s.propagate.arb.table.get .defrost = none) := by
  refine State.propagate_rounds (P := fun t => t.frg.defrost = s.frg.defrost
    ∧ (s.arb.table.get .defrost = none → t.arb.table.get .defrost = none)) (fun t ht => ?_) (fun t ht => ?_) ⟨rfl, id⟩
  · have same := State.SameTable.of_rests (.deriveStage t)
    rwa [same.defrost, same.arb]
  · obtain ⟨kept, free⟩ := State.round_rests (s := t) (by rw [ht.1]; exact h)
    exact ⟨kept.trans ht.1, fun hs => free (ht.2 hs)⟩

end Reports

/-! ### The end -/

section Ends

variable {s : State} {e : DefrostEnd} {n : Nat}

/-- The record of a defrost as the row of its end takes it (R74, R75). -/
def Defrost.result (d : Defrost) (e : DefrostEnd) (elapsed confirm : Nat) : Defrost :=
  { d with lastResult := some e, elapsed := elapsed, confirm := confirm }

/-- The end of a defrost before its consequences (R76). -/
def State.defrostEnding (s : State) (e : DefrostEnd) (n : Nat) : State :=
  ((s.withdraw .defrost).updDefrost fun d => { d with phase := .lockout, lockout := n, endDue := none }).raise .defrostEnded 0
    (twoPart e.code (s.withdraw .defrost).frg.defrost.elapsed)

theorem State.endDefrost_eq (s : State) (e : DefrostEnd) (n : Nat) : s.endDefrost e n = (s.defrostEnding e n).propagate := rfl

theorem State.defrostEnding_defrost (s : State) (e : DefrostEnd) (n : Nat) : (s.defrostEnding e n).frg.defrost
    = { (s.withdraw .defrost).frg.defrost with phase := .lockout, lockout := n, endDue := none } := by
  rw [State.defrostEnding, State.raise_frg]
  rfl

theorem State.defrostEnding_arb (s : State) (e : DefrostEnd) (n : Nat) :
    (s.defrostEnding e n).arb = (s.withdraw .defrost).arb := by
  rw [State.defrostEnding, State.raise_arb]
  rfl

/-- The record after the end of a defrost: its withdrawal reports the next active slot, which is DEFROST in no table that is in
order, and which the record does not wait for while the defrost runs. -/
theorem State.endDefrost_record (s : State) (e : DefrostEnd) (n : Nat) :
    (s.endDefrost e n).frg.defrost.phase = .lockout ∧ (s.endDefrost e n).frg.defrost.lockout = n
      ∧ (s.endDefrost e n).frg.defrost.lastResult = s.frg.defrost.lastResult
      ∧ (s.endDefrost e n).frg.defrost.elapsed = s.frg.defrost.elapsed
      ∧ (s.frg.defrost.phase = .running ∨ s.frg.defrost.phase = .confirm →
        (s.endDefrost e n).frg.defrost = { s.frg.defrost with phase := .lockout, lockout := n, endDue := none })
      ∧ (s.endDefrost e n).arb.table.defrost = none := by
  have record := s.defrostEnding_defrost e n
  obtain ⟨kept, slot⟩ := State.propagate_rests (s := s.defrostEnding e n) (.inr (by rw [record]))
  have shown := kept.trans record
  rw [s.endDefrost_eq]
  refine ⟨by rw [shown], by rw [shown], by rw [shown]; exact s.applyArb_lastResult _, by rw [shown]; exact s.applyArb_elapsed _,
    fun hp => ?_, slot (by rw [State.defrostEnding_arb]; exact State.withdraw_free _)⟩
  have same : (s.withdraw .defrost).frg = s.frg := State.applyArb_frg fun q hq _ => by
    rw [s.arb.free_reportsActive .defrost q hq]
    rcases hp with hp | hp <;> rw [hp] <;> rfl
  rw [shown, same]

theorem SettledFrom.endDefrost (s : State) (e : DefrostEnd) (n : Nat) : SettledFrom [] s (s.endDefrost e n) := by
  have freed := (SettledFrom.withdraw s .defrost).forget (.inr rfl)
  exact ((freed.next (.updDefrost _ _)).next (.raise _ _ _ _)).next (.propagate _)

theorem State.endDefrost_atRest (h : s.atRest) : (s.endDefrost e n).arb = (s.arb.free .defrost).1 := by
  have active := Arb.free_interrupts s.arb .defrost
  have rest : (s.withdraw .defrost).atRest := State.applyArb_atRest h active
  have still : (s.defrostEnding e n).atRest := by
    unfold State.atRest State.defrostEnding
    rw [State.raise_frg, State.raise_flt]
    exact rest
  rw [s.endDefrost_eq, (State.Rests.propagate still).arb, State.defrostEnding_arb]
  exact (State.applyArb_table active s).1

end Ends

/-! ### The second of the record -/

section Second

variable {s : State}

/-- Whether the exhaust is at the end temperature (R73). -/
def State.exhaustWarm (s : State) : Bool :=
  s.frg.ehaInUse.any fun x => decide (settingVal s.osc.working 33 ≤ x)

theorem State.exhaustWarm_iff : s.exhaustWarm = true ↔ ∃ x, s.frg.ehaInUse = some x ∧ settingVal s.osc.working 33 ≤ x := by
  unfold State.exhaustWarm
  cases s.frg.ehaInUse <;> simp

theorem State.defrostCounting_iff : s.defrostCounting = true
    ↔ s.arb.active = some .defrost ∧ s.afc.extract.state.regulates = true := by
  simp [State.defrostCounting]

theorem State.confirmEntry_eq (s : State) : s.confirmEntry
    = if s.frg.defrost.phase = .running ∧ s.frg.load = 0 ∧ s.exhaustWarm = true ∧ s.defrostCounting = true then
        s.updDefrost fun d => { d.passage (s.setting 34) with phase := .confirm, confirmSince := s.osc.uptime }
      else s := by
  unfold State.confirmEntry State.exhaustWarm
  cases s.frg.ehaInUse <;> rfl

theorem State.confirmExit_eq (s : State) : s.confirmExit
    = if s.frg.defrost.phase = .confirm ∧ s.exhaustWarm = false then
        s.updDefrost fun d => { d.passage (s.setting 34) with phase := .running }
      else s := by
  unfold State.confirmExit State.exhaustWarm
  cases s.frg.ehaInUse with
  | none =>
    by_cases hp : s.frg.defrost.phase = .confirm <;> simp [hp]
  | some x =>
    by_cases hp : s.frg.defrost.phase = .confirm
    · by_cases hx : settingVal s.osc.working 33 ≤ x <;> simp [hp, hx]
    · simp [hp]

theorem Defrost.passage_incomplete {d : Defrost} {n c : Nat} (h : d.endDue = some (.incomplete, n, c)) (max : Nat) :
    d.passage max = { d with confirm := 0, endDue := some (.incomplete, n, 0) } := by
  simp only [Defrost.passage, h]

theorem Defrost.passage_none {d : Defrost} (h : d.endDue = none) (max : Nat) : d.passage max = { d with confirm := 0 } := by
  simp only [Defrost.passage, h]

/-- The elapsed and confirm seconds after an update that counts (R72, R74). -/
def State.elapsedNext (s : State) : Nat := s.frg.defrost.elapsed
  + (if s.arb.active = some .defrost ∧ s.afc.extract.state.regulates = true ∧ s.frg.defrost.runSince < s.osc.uptime then 1 else 0)

def State.confirmNext (s : State) : Nat := s.frg.defrost.confirm
  + (if s.arb.active = some .defrost ∧ s.afc.extract.state.regulates = true ∧ s.frg.defrost.phase = .confirm
      ∧ s.frg.defrost.confirmSince < s.osc.uptime then 1 else 0)

theorem State.defrostSecond_stands (hp : s.frg.defrost.phase = .running ∨ s.frg.defrost.phase = .confirm)
    (hd : s.frg.defrost.endDue ≠ none) : s.defrostSecond = s := by
  have due : s.frg.defrost.endDue.isSome = true := Option.isSome_iff_ne_none.mpr hd
  unfold State.defrostSecond
  rcases hp with hp | hp <;> simp only [hp] <;> exact if_pos due

/-- An update of the record in RUNNING or CONFIRM (R72 to R75). -/
theorem State.defrostSecond_eq (hp : s.frg.defrost.phase = .running ∨ s.frg.defrost.phase = .confirm)
    (hd : s.frg.defrost.endDue = none) : s.defrostSecond
      = if 60 ≤ s.confirmNext then s.updDefrost fun d => { d with endDue := some (.cleared, s.elapsedNext, s.confirmNext) }
        else if s.frg.defrost.elapsed < s.elapsedNext ∧ s.setting 34 ≤ s.elapsedNext then
          s.updDefrost fun d => { d with endDue := some (.incomplete, s.elapsedNext, s.confirmNext) }
        else (s.updDefrost fun d => { d with elapsed := s.elapsedNext, confirm := s.confirmNext }).confirmEntry := by
  have due : ¬s.frg.defrost.endDue.isSome = true := by simp [hd]
  have elapsed : (if (s.defrostCounting && decide (s.frg.defrost.runSince < s.osc.uptime)) = true
      then s.frg.defrost.elapsed + 1 else s.frg.defrost.elapsed) = s.elapsedNext := by
    unfold State.elapsedNext
    simp only [Bool.and_eq_true, State.defrostCounting_iff, decide_eq_true_iff, and_assoc]
    split <;> rfl
  have confirm : (if (s.defrostCounting && s.frg.defrost.phase == .confirm
      && decide (s.frg.defrost.confirmSince < s.osc.uptime)) = true
      then s.frg.defrost.confirm + 1 else s.frg.defrost.confirm) = s.confirmNext := by
    unfold State.confirmNext
    simp only [Bool.and_eq_true, State.defrostCounting_iff, decide_eq_true_iff, beq_iff_eq, and_assoc]
    split <;> rfl
  have counts : (s.defrostCounting && decide (s.frg.defrost.runSince < s.osc.uptime)) = true
      ↔ s.frg.defrost.elapsed < s.elapsedNext := by
    rw [← elapsed]
    split <;> simp [*]
  have shown : s.defrostSecond
      = if Config.confirmSeconds ≤ s.confirmNext then
          s.updDefrost fun d => { d with endDue := some (.cleared, s.elapsedNext, s.confirmNext) }
        else if (s.defrostCounting && decide (s.frg.defrost.runSince < s.osc.uptime)) = true ∧ s.setting 34 ≤ s.elapsedNext then
          s.updDefrost fun d => { d with endDue := some (.incomplete, s.elapsedNext, s.confirmNext) }
        else (s.updDefrost fun d => { d with elapsed := s.elapsedNext, confirm := s.confirmNext }).confirmEntry := by
    rw [← elapsed, ← confirm]
    unfold State.defrostSecond
    rcases hp with hp | hp <;> simp only [hp] <;> exact if_neg due
  rw [shown]
  simp only [counts, Config.confirmSeconds]

end Second

end Sys2Proof.Machine

/-- Settles O40. -/
theorem defrostEnds : Obligations.DefrostEnds := by
  intro s
  refine ⟨fun elapsed confirm due => ?_, fun elapsed confirm due => ?_, fun due hp => State.defrostSecond_stands hp due,
    fun elapsed confirm t due ht => ?_, fun elapsed confirm hp due he hc => ?_⟩
  · obtain ⟨u, hu⟩ : ∃ u, u = s.updDefrost (·.result .cleared elapsed confirm) := ⟨_, rfl⟩
    have row : exec .defrostCleared s = .next (u.endDefrost .cleared (s.setting 35)) := by
      change execDefrostCleared s = _
      unfold execDefrostCleared
      rw [due, hu]
      rfl
    obtain ⟨phase, lockout, result, time, record, slot⟩ := u.endDefrost_record .cleared (s.setting 35)
    have base : SettledFrom [] s u := by
      rw [hu]
      exact .updDefrost _ _
    refine ⟨_, row, phase, lockout, result.trans (by rw [hu]; rfl), time.trans (by rw [hu]; rfl), fun _ marked => ?_, slot,
      base.next (.endDefrost _ _ _), fun rest => (State.endDefrost_atRest (s := u) (by rw [hu]; exact rest)).trans (by rw [hu]; rfl)⟩
    rw [record (by rw [hu]; exact marked (by rw [due]; exact nofun)), hu]
    rfl
  · obtain ⟨w, hw⟩ : ∃ w, w = s.updDefrost (·.result .incomplete elapsed confirm) := ⟨_, rfl⟩
    obtain ⟨v, hv⟩ : ∃ v, v = w.faultEvent .defrostIncomplete 0 w.frg.load := ⟨_, rfl⟩
    obtain ⟨u, hu⟩ : ∃ u, u = v.updFrg fun g => { g with load := s.setting 32 / 2 } := ⟨_, rfl⟩
    have row : exec .defrostIncomplete s = .next (u.endDefrost .incomplete (s.setting 36)) := by
      change execDefrostIncomplete s = _
      unfold execDefrostIncomplete
      rw [due, hu, hv, hw]
      simp [State.setting, Defrost.result]
    obtain ⟨phase, lockout, result, time, record, slot⟩ := u.endDefrost_record .incomplete (s.setting 36)
    have fault : SettledFrom [] { w with sup := v.sup } v := hv ▸ SettledFrom.fault w _ _ _
    have taken := State.faultEvent_taken w .defrostIncomplete 0 w.frg.load
    rw [← hv, clampI_natCast] at taken
    have frg : v.frg = w.frg := by rw [hv, State.faultEvent_frg]
    have arb : v.arb = w.arb := by rw [hv, State.faultEvent_arb]
    have flt : v.flt = w.flt := by rw [hv, State.faultEvent_flt]
    have ended := SettledFrom.endDefrost u .incomplete (s.setting 36)
    have base : SettledFrom [] { s with frg := { s.frg with load := s.setting 32 / 2 }, sup := v.sup } u := by
      have shown : u = { v with frg := { s.frg with
          load := s.setting 32 / 2, defrost := s.frg.defrost.result .incomplete elapsed confirm } } := by
        rw [hu, State.updFrg, frg, hw]
        rfl
      have loaded := fault.onFrg { s.frg with
        load := s.setting 32 / 2, defrost := s.frg.defrost.result .incomplete elapsed confirm }
      rw [← shown, hw] at loaded
      exact SettledFrom.next (.updDefrost _ (·.result .incomplete elapsed confirm)) loaded
    have load : (u.endDefrost .incomplete (s.setting 36)).frg.load = s.setting 32 / 2 :=
      (ended.frost_get Frg.load fun _ _ _ _ _ _ _ _ => rfl).trans (by rw [hu]; rfl)
    have defrost : u.frg.defrost = s.frg.defrost.result .incomplete elapsed confirm := by
      rw [hu, State.updFrg_frg, frg, hw]
      rfl
    have table : u.arb = s.arb := by rw [hu, State.updFrg_arb, arb, hw]; rfl
    refine ⟨_, v.sup, row, phase, lockout, by rw [result, defrost]; rfl, by rw [time, defrost]; rfl, fun _ marked => ?_, load, ?_, slot,
      fun rest => (State.endDefrost_atRest ?_).trans (by rw [table]), base.next ended⟩
    · rw [record (by rw [defrost]; exact marked (by rw [due]; exact nofun)), defrost]
      rfl
    · rw [hw] at taken
      exact taken
    · unfold State.atRest
      rw [hu, State.updFrg_frg, State.updFrg_flt, frg, flt, hw]
      exact rest
  · rcases ht with rfl | rfl
    · rw [s.confirmEntry_eq]
      split
      · exact ⟨0, congrArg Defrost.endDue (Defrost.passage_incomplete due _)⟩
      · exact ⟨confirm, due⟩
    · rw [s.confirmExit_eq]
      split
      · exact ⟨0, congrArg Defrost.endDue (Defrost.passage_incomplete due _)⟩
      · exact ⟨confirm, due⟩
  · obtain rfl : elapsed = s.elapsedNext := he
    obtain rfl : confirm = s.confirmNext := hc
    rw [State.defrostSecond_eq hp due]
    refine ⟨fun h => by rw [if_pos h]; rfl, fun h h1 h2 => by rw [if_neg (Nat.not_le.mpr h), if_pos ⟨h2, h1⟩]; rfl, fun h h1 => ?_⟩
    rw [if_neg (Nat.not_le.mpr h), if_neg fun c => Nat.not_le.mpr h1 c.2, State.confirmEntry_eq]
    have counted : ¬(s.frg.defrost.phase = .running ∧ s.frg.load = 0 ∧ s.exhaustWarm = true ∧ s.defrostCounting = true) →
        s.frg.defrost.phase = .running → ¬(s.frg.load = 0 ∧ s.arb.active = some .defrost
          ∧ s.afc.extract.state.regulates = true ∧ ∃ x, s.frg.ehaInUse = some x ∧ settingVal s.osc.working 33 ≤ x) :=
      fun no run h => no ⟨run, h.1, State.exhaustWarm_iff.mpr h.2.2.2, State.defrostCounting_iff.mpr ⟨h.2.1, h.2.2.1⟩⟩
    have passed := Defrost.passage_none
      (d := { s.frg.defrost with elapsed := s.elapsedNext, confirm := s.confirmNext }) due (s.setting 34)
    split
    · next hc =>
      obtain ⟨run, load, warm, counting⟩ : s.frg.defrost.phase = .running ∧ s.frg.load = 0 ∧ s.exhaustWarm = true
        ∧ s.defrostCounting = true := hc
      have counting := State.defrostCounting_iff.mp counting
      refine ⟨(congrArg Defrost.endDue passed).trans due, congrArg Defrost.elapsed passed, fun hp => ?_,
        fun _ => ⟨fun _ => ⟨load, counting.1, counting.2, State.exhaustWarm_iff.mp warm⟩, fun _ => rfl⟩⟩
      rw [run] at hp
      cases hp
    · next hc =>
      refine ⟨due, rfl, fun _ => rfl, fun run => ⟨fun hp => ?_, fun h => absurd h (counted hc run)⟩⟩
      have kept : s.frg.defrost.phase = .confirm := hp
      rw [run] at kept
      cases kept

end

section
/-! The ends of the run-on, of a heater window and of the lockout, with the post of a defrost that has waited for the run-on. -/

open Sys2Proof Sys2Proof.Machine

namespace Sys2Proof.Machine

section Waiting

variable {s t u : State} {x : Slot}

/-! ### A defrost that does not wait for the run-on -/

theorem State.takeReport_notPrepare (h : s.frg.defrost.phase ≠ .prepare) (q : Report) :
    (s.takeReport q).frg.defrost.phase ≠ .prepare := by
  by_cases deaf : q.slot = .defrost → s.frg.defrost.phase.heeds q.kind = false
  · rwa [State.takeReport_frg deaf]
  · obtain ⟨k, y⟩ := q
    obtain rfl : y = .defrost := by
      by_contra hy
      exact deaf fun e => absurd e hy
    cases k with
    | active =>
      change s.defrostActive.frg.defrost.phase ≠ .prepare
      unfold State.defrostActive
      split
      · rw [State.raise_frg]
        exact nofun
      · exact nofun
      all_goals exact h
    | suspended =>
      change s.defrostPreempted.frg.defrost.phase ≠ .prepare
      unfold State.defrostPreempted
      split
      case h_1 | h_2 => exact nofun
      all_goals exact h
    | _ => exact h

theorem State.applyArb_notPrepare (h : s.frg.defrost.phase ≠ .prepare) (r : Arb × List Report) :
    (s.applyArb r).frg.defrost.phase ≠ .prepare := by
  have reports (l : List Report) (t : State) (ht : t.frg.defrost.phase ≠ .prepare) :
      (l.foldl State.takeReport t).frg.defrost.phase ≠ .prepare := by
    induction l generalizing t with
    | nil => exact ht
    | cons q l ih => exact ih _ (State.takeReport_notPrepare ht q)
  unfold State.applyArb
  refine reports _ _ ?_
  split
  · exact h
  · rw [State.raise_frg]
    exact h

/-- A post leaves the table, or changes it behind the watch. -/
theorem State.postCore_core (s : State) (x : Slot) (n : Nat) (p : PostArgs) (l : Option Link) :
    (s.SameTable (s.postCore x n p l).1 ∧ (s.postCore x n p l).1.frg = s.frg ∧ (s.postCore x n p l).2 ≠ .ok)
      ∨ ∃ v : State, s.SameTable v ∧ v.frg = s.frg
        ∧ s.postCore x n p l = (v.applyArb (v.arb.post x p v.osc.uptime), .ok) := by
  by_cases hd : s.osc.device.posting = true
  · have same := State.SameTable.watchTest s x n p l
    have frg := (s.watchTest_same x n p l).2.2
    cases hw : s.watchTest x n p l with | mk v b =>
    rw [hw] at same frg
    cases b with
    | true =>
      rw [State.postCore_blocked hd hw]
      exact .inl ⟨same, frg, nofun⟩
    | false => exact .inr ⟨v, same, frg, State.postCore_passes hd hw⟩
  · have refused : s.postCore x n p l = (s, .refusedState) := if_neg hd
    rw [refused]
    exact .inl ⟨.refl s, rfl, nofun⟩

/-- What a check that starts makes of FRG and of the table, it makes by its post. -/
theorem State.startCheck_core (s : State) (c : CheckTrigger) :
    (s.startCheck c).1.frg = s.frg ∧ (s.startCheck c).1.arb = s.arb
      ∨ ∃ v : State, (s.updCheck (·.started c)).SameTable v ∧ v.frg = s.frg
        ∧ (s.startCheck c).1 = ((v.applyArb (v.arb.post .filterCheck
          (internalArgs 6 (.flows (s.setting 10) (s.setting 10)) none) v.osc.uptime)).updCheck
            fun k => { k with phase := .waiting }).trySettle := by
  cases faulted : s.filterSensorFaulted with
  | true =>
    rw [State.startCheck_faulted faulted, State.raiseFilterResult, State.raise_frg, State.raise_arb]
    exact .inl ⟨rfl, rfl⟩
  | false =>
    rcases (s.updCheck (·.started c)).postCore_core .filterCheck 6
      (internalArgs 6 (.flows (s.setting 10) (s.setting 10)) none) none with ⟨same, frg, refused⟩ | ⟨v, same, frg, hw⟩
    · have kept : s.startCheck c = ((s.checkPost c).1.updCheck fun _ => s.flt.check, (s.checkPost c).2) :=
        State.startCheck_undone faulted rfl refused
      rw [kept]
      exact .inl ⟨frg, same.arb⟩
    · have posted : s.checkPost c = _ := hw
      rw [State.startCheck_posted faulted posted]
      exact .inr ⟨v, same, frg, rfl⟩

theorem State.startCheck_notPrepare (h : s.frg.defrost.phase ≠ .prepare) (c : CheckTrigger) :
    (s.startCheck c).1.frg.defrost.phase ≠ .prepare := by
  rcases s.startCheck_core c with ⟨frg, -⟩ | ⟨v, -, frg, eq⟩
  · rwa [frg]
  · rw [eq, (State.trySettle_frg _).1]
    exact State.applyArb_notPrepare (by rwa [frg]) _

theorem State.enterStandby_frg (s : State) : s.enterStandby.frg = s.frg := by
  unfold State.enterStandby
  rw [State.applyArb_frg (by simp), State.setDevice_frg]

theorem State.enterFilterService_frg (s : State) : s.enterFilterService.frg = s.frg := State.setDevice_frg _ _

theorem State.enterFilterService_arb (s : State) : s.enterFilterService.arb = s.arb := State.setDevice_arb _ _

theorem State.enterStandby_arb (s : State) : s.enterStandby.arb = s.arb.enterStandby := by
  have arb : (s.setDevice .standby).arb = s.arb := State.setDevice_arb _ _
  unfold State.enterStandby
  rw [(State.applyArb_table (by simp) _).1, arb]

theorem State.startTest_notPrepare (h : s.frg.defrost.phase ≠ .prepare) : s.startTest.frg.defrost.phase ≠ .prepare := by
  unfold State.startTest
  split
  · dsimp only
    split
    · exact State.startCheck_notPrepare (s := s.updFlt fun f => { f with startTestDue := false }) h _
    · exact h
  · exact h

theorem State.propagate_notPrepare (h : s.frg.defrost.phase ≠ .prepare) : s.propagate.frg.defrost.phase ≠ .prepare := by
  refine State.propagate_induct (P := fun t => t.frg.defrost.phase ≠ .prepare) ?_ ?_ ?_ ?_ ?_ ?_ h
  · intro t u hu ht
    rwa [hu.defrost]
  · exact fun t hp ht => absurd hp ht
  · exact fun t w p f hp ht => absurd hp ht
  · intro t _ ht
    rwa [t.enterStandby_frg]
  · intro t _ ht
    rwa [t.enterFilterService_frg]
  · exact fun t ht => State.startTest_notPrepare ht

/-! ### The end of the run-on -/

/-- What waits for the run-on at its end beside a defrost: STOPPING and SERVICE_PREPARE (R135, R189). -/
theorem State.runOnEnded_eq (s : State) : s.runOnEnded = match s.osc.device with
    | .stopping => s.defrostTimerEnd.enterStandby
    | .servicePrepare => s.defrostTimerEnd.enterFilterService
    | _ => s.defrostTimerEnd := by
  have osc := (State.TableOnly.defrostTimerEnd (s := s)).osc
  unfold State.runOnEnded
  dsimp only
  rw [osc]
  cases s.osc.device <;> rfl

/-- The demand that a defrost posts (R70). -/
def State.defrostArgs (s : State) : PostArgs := internalArgs 13 (.flows 0 (s.setting 11)) none

/-- A defrost that finds the run-on done posts its demand (R70). -/
theorem State.tryDefrostPost_posts (hp : s.frg.defrost.phase = .prepare) (hr : s.frg.runOn = 0)
    (hd : s.osc.device.posting = true) : ∃ w : State,
      (s.updDefrost fun d => { d with phase := .posted }).SameTable w
      ∧ w.frg = (s.updDefrost fun d => { d with phase := .posted }).frg
      ∧ s.tryDefrostPost = w.defrostApplied s.defrostArgs fun _ => true := by
  have shown : s.tryDefrostPost = (s.updDefrost fun d => { d with phase := .posted }).postDefrost := if_pos ⟨hp, hr⟩
  have args : (s.updDefrost fun d => { d with phase := .posted }).defrostArgs = s.defrostArgs := rfl
  rw [shown, ← args]
  have device : (s.updDefrost fun d => { d with phase := .posted }).osc.device.posting = true := hd
  generalize (s.updDefrost fun d => { d with phase := .posted }) = u at *
  have test := State.SameTable.watchTest u .defrost 13 u.defrostArgs none
  have frg := (u.watchTest_same .defrost 13 u.defrostArgs none).2.2
  have passed : (u.watchTest .defrost 13 u.defrostArgs none).2 = false := State.watchTest_unblocked (.inr (.inl rfl))
  refine ⟨_, test, frg, ?_⟩
  cases hw : u.watchTest .defrost 13 u.defrostArgs none with | mk w b =>
  obtain rfl : b = false := by
    rw [hw] at passed
    exact passed
  have passes : u.internalPost .defrost 13 (.flows 0 (u.setting 11)) none
      = (w.applyArb (w.arb.post .defrost u.defrostArgs w.osc.uptime), .ok) := State.postCore_passes device hw
  rw [State.postDefrost, passes, State.defrostApplied, List.filter_true]

/-- At the end of the run-on the defrost that has waited for it posts its demand; beside an accepted STANDBY its own report
waits (R70, R81). -/
theorem State.defrostTimerEnd_posts (hp : s.frg.defrost.phase = .prepare) (hr : s.frg.runOn = 0)
    (hd : s.osc.device.posting = true) : ∃ (w : State) (f : Report → Bool),
      (s.updDefrost fun d => { d with phase := .posted }).SameTable w
      ∧ w.frg = (s.updDefrost fun d => { d with phase := .posted }).frg
      ∧ s.defrostTimerEnd = w.defrostApplied s.defrostArgs f
      ∧ (s.standbyNext = true → f = (·.slot != .defrost)) ∧ (s.standbyNext = false → f = fun _ => true) := by
  cases next : s.standbyNext with
  | true =>
    have shown : s.defrostTimerEnd = (s.updDefrost fun d => { d with phase := .posted }).postDefrostBeforeStandby :=
      if_pos ⟨hp, hr, next⟩
    rw [shown]
    exact ⟨_, (·.slot != .defrost), .watchTest _ .defrost 13 s.defrostArgs none,
      (State.watchTest_same _ .defrost 13 s.defrostArgs none).2.2, rfl, fun _ => rfl, nofun⟩
  | false =>
    have shown : s.defrostTimerEnd = s.tryDefrostPost := if_neg (by simp [next])
    obtain ⟨w, same, frg, eq⟩ := State.tryDefrostPost_posts hp hr hd
    exact ⟨w, fun _ => true, same, frg, shown.trans eq, nofun, fun _ => rfl⟩

theorem State.defrostTimerEnd_waits (h : ¬(s.frg.defrost.phase = .prepare ∧ s.frg.runOn = 0)) : s.defrostTimerEnd = s := by
  unfold State.defrostTimerEnd State.tryDefrostPost
  rw [if_neg fun c => h ⟨c.1, c.2.1⟩, if_neg h]

/-- In a device state that takes no posts a defrost's post is refused (R5, R70). -/
theorem State.defrostTimerEnd_refused (hp : s.frg.defrost.phase = .prepare) (hr : s.frg.runOn = 0)
    (hd : s.osc.device.posting = false) : s.defrostTimerEnd = s.updDefrost fun d => { d with phase := .posted } := by
  have next : s.standbyNext = false := by
    by_contra c
    rw [State.standbyNext_running (Bool.not_eq_false _ ▸ c)] at hd
    cases hd
  refine (if_neg (by simp [next])).trans ((if_pos ⟨hp, hr⟩).trans ?_)
  exact congrArg Prod.fst (if_neg (c := (s.updDefrost fun d => { d with phase := .posted }).osc.device.posting = true) (by simp [hd]))

theorem State.defrostTimerEnd_notPrepare (hr : s.frg.runOn = 0) : s.defrostTimerEnd.frg.defrost.phase ≠ .prepare := by
  by_cases hp : s.frg.defrost.phase = .prepare
  · cases hd : s.osc.device.posting with
    | true =>
      obtain ⟨w, f, -, frg, eq, -⟩ := State.defrostTimerEnd_posts hp hr hd
      rw [eq]
      exact State.applyArb_notPrepare (by rw [frg]; exact nofun) _
    | false =>
      rw [State.defrostTimerEnd_refused hp hr hd]
      exact nofun
  · rwa [State.defrostTimerEnd_waits fun c => hp c.1]

theorem State.runOnEnded_frg (s : State) : s.runOnEnded.frg = s.defrostTimerEnd.frg := by
  rw [s.runOnEnded_eq]
  cases s.osc.device
  case stopping => exact State.enterStandby_frg _
  case servicePrepare => exact State.enterFilterService_frg _
  all_goals rfl

theorem State.runOnEnded_device (s : State) : (s.osc.device = .stopping → s.runOnEnded.osc.device = .standby)
    ∧ (s.osc.device = .servicePrepare → s.runOnEnded.osc.device = .filterService) := by
  refine ⟨fun h => ?_, fun h => ?_⟩
  · rw [s.runOnEnded_eq, h]
    dsimp only
    rw [State.enterStandby, (State.TableOnly.applyArb _).osc]
    simp
  · rw [s.runOnEnded_eq, h]
    dsimp only
    rw [State.enterFilterService, State.updFlt_osc]
    simp

/-! ### What follows the end of the run-on -/

theorem SettledFrom.onDevice {l : List Slot} (h : SettledFrom l s t) {d : DevState} (hd : t.osc.device = d) :
    SettledFrom l { s with osc := { s.osc with device := d } } t :=
  { h with
    osc := by
      have osc := congrArg (fun o : Osc => { o with device := d }) h.osc
      exact osc
    device := .inl hd }

theorem State.startTest_stopped (h : s.osc.device ≠ .running) :
    s.startTest = { s with flt := { s.flt with startTestDue := false } } :=
  State.startTest_passes fun c => h c.2.2

/-- In STANDBY the propagation leaves the table alone. -/
theorem State.propagate_standby (hd : s.osc.device = .standby) (hp : s.frg.defrost.phase ≠ .prepare) :
    s.propagate.osc.device = .standby ∧ s.propagate.arb = s.arb := by
  refine (State.propagate_induct (P := fun t => t.frg.defrost.phase ≠ .prepare ∧ t.osc.device = .standby ∧ t.arb = s.arb)
    ?_ ?_ ?_ ?_ ?_ ?_ ⟨hp, hd, rfl⟩).2
  · intro t u hu ht
    rwa [hu.defrost, hu.osc, hu.arb]
  · exact fun t h ht => absurd h ht.1
  · exact fun t w p f h ht => absurd h ht.1
  · intro t h ht
    rw [ht.2.1] at h
    cases h
  · intro t h ht
    rw [ht.2.1] at h
    cases h
  · intro t ht
    rw [State.startTest_stopped (by rw [ht.2.1]; decide)]
    exact ht

end Waiting

section Posted

variable {s t u : State}

theorem State.applyArb_get {x : Slot} (hx : x ≠ .filterCheck) (r : Arb × List Report) :
    (s.applyArb r).arb.table.get x = r.1.table.get x := by
  have reports (l : List Report) (t : State) :
      (l.foldl State.takeReport t).arb.table.get x = t.arb.table.get x := by
    induction l generalizing t with
    | nil => rfl
    | cons q l ih =>
      refine (ih _).trans ?_
      rcases t.takeReport_arb q with e | e
      · rw [e]
      · rw [e, Arb.free_get_ne _ hx]
  unfold State.applyArb
  refine (reports _ _).trans ?_
  split
  · rfl
  · rw [State.raise_arb, State.updArb_arb]

/-- A start test that is due after a demand has changed goes with a FREE slot of FILTER_CHECK. -/
def State.testFree (s : State) : Prop := s.flt.startTestDue = true → s.arb.table.get .filterCheck = none

theorem State.takeReport_testFree (h : s.testFree) {q : Report} (hq : q.kind = .active ∨ q.kind = .suspended) :
    (s.takeReport q).testFree := by
  unfold State.takeReport
  split
  · unfold State.defrostActive
    split
    · exact (by simpa [State.testFree] using h)
    all_goals exact h
  · unfold State.defrostPreempted
    split <;> exact h
  · unfold State.trySettle
    split <;> exact h
  · unfold State.checkPreempted
    split
    · dsimp only
      split
      · intro _
        rw [State.raiseFilterResult, State.raise_arb]
        exact Arb.free_get_self _ _
      · exact h
    · exact h
  · next hk _ => rcases hq with hq | hq <;> rw [hk] at hq <;> cases hq
  all_goals exact h

theorem State.applyArb_testFree {r : Arb × List Report} (h : s.flt.startTestDue = true → r.1.table.get .filterCheck = none)
    (hr : ∀ q ∈ r.2, q.kind = .active ∨ q.kind = .suspended) : (s.applyArb r).testFree := by
  have reports (l : List Report) (hl : ∀ q ∈ l, q.kind = .active ∨ q.kind = .suspended) (t : State) (ht : t.testFree) :
      (l.foldl State.takeReport t).testFree := by
    induction l generalizing t with
    | nil => exact ht
    | cons q l ih => exact ih (fun x hx => hl x (by simp [hx])) _ (State.takeReport_testFree ht (hl q (by simp)))
  unfold State.applyArb
  refine reports _ (fun q hq => hr q (List.mem_filter.mp hq).1) _ ?_
  split
  · exact h
  · unfold State.testFree
    rw [State.raise_flt, State.raise_arb]
    exact h

/-- A device that runs with DEFROST posted at level 13; in `o` its record is `d`, a start test that is due finds FILTER_CHECK
FREE, and in `a` DEFROST is the active slot. -/
structure State.DefrostStands (o a : Prop) (c : Carry) (d : Defrost) (t : State) : Prop where
  device : t.osc.device = .running
  phase : t.frg.defrost.phase ≠ .prepare
  slot : t.Internal .defrost 13 c none
  record : o → t.frg.defrost = d ∧ t.testFree
  active : o → a → t.arb.active = some .defrost

/-- A check's post below DEFROST reports nothing of DEFROST (R8). -/
theorem Arb.post_belowDefrost {a : Arb} (hf : a.table.get .filterCheck = none) {k : Demand}
    (hk : a.table.get .defrost = some k) {p : PostArgs} (hp : p.level ≤ k.level) (now : Nat) :
    ∀ q ∈ (a.post .filterCheck p now).2, q.slot ≠ .defrost := by
  have posted := a.post_posted .filterCheck p now
  generalize a.post .filterCheck p now = r at *
  cases posted with
  | preempts act free active above =>
    intro q hq
    simp only [Arb.preempt, List.mem_cons, List.not_mem_nil, or_false] at hq
    rcases hq with rfl | rfl
    · intro e
      have level : a.level act = k.level := by
        obtain rfl : act = .defrost := e
        rw [Arb.level, hk]
      omega
    · exact nofun
  | waits => simp
  | overtaken w d held => exact absurd (hf.symm.trans held) nofun
  | overtakes act d held => exact absurd (hf.symm.trans held) nofun
  | stays d held => exact absurd (hf.symm.trans held) nofun

theorem State.DefrostStands.same {o a : Prop} {c : Carry} {d : Defrost} (h : s.DefrostStands o a c d) (same : s.SameTable t) :
    t.DefrostStands o a c d where
  device := by rw [same.osc, h.device]
  phase := by rw [same.defrost]; exact h.phase
  slot := h.slot.of_same (by rw [same.arb]; exact .refl _)
  record ho := by
    obtain ⟨record, test⟩ := h.record ho
    refine ⟨by rw [same.defrost, record], ?_⟩
    unfold State.testFree
    rwa [same.flt, same.arb]
  active ho ha := by rw [same.arb, h.active ho ha]

/-- A check's post below the active slot waits (R8). -/
theorem Arb.post_belowActive {a : Arb} {x y : Slot} (hf : a.table.get x = none) (ha : a.active = some y) {p : PostArgs}
    (hp : p.level ≤ a.level y) (now : Nat) : (a.post x p now).1.active = some y := by
  have posted := a.post_posted x p now
  generalize a.post x p now = r at *
  cases posted with
  | preempts act free active above =>
    obtain rfl := Option.some.inj (active.symm.trans ha)
    exact absurd above (Nat.not_lt.mpr hp)
  | waits => exact ha
  | overtaken w d held => exact absurd (hf.symm.trans held) nofun
  | overtakes act d held => exact absurd (hf.symm.trans held) nofun
  | stays d held => exact absurd (hf.symm.trans held) nofun

theorem State.trySettle_startTestDue (s : State) : s.trySettle.flt.startTestDue = s.flt.startTestDue := by
  unfold State.trySettle
  split <;> rfl

theorem State.DefrostStands.startTest {o a : Prop} {c : Carry} {d : Defrost} (h : s.DefrostStands o a c d) :
    s.startTest.DefrostStands o a c d := by
  by_cases due : s.flt.startTestDue = true
  · obtain ⟨u, hu⟩ : ∃ u, u = s.updFlt fun t => { t with startTestDue := false } := ⟨_, rfl⟩
    have off : u.flt.startTestDue = false := by rw [hu]; rfl
    have osc : u.osc = s.osc := by rw [hu]; rfl
    have arb : u.arb = s.arb := by rw [hu]; rfl
    have frg : u.frg = s.frg := by rw [hu]; rfl
    have shown : s.startTest = if u.flt.check.scheduledDue = true ∧ u.flt.check.phase = .idle ∧ u.osc.device = .running then
        (u.startCheck .scheduled).1 else u := by
      rw [hu]
      exact if_pos due
    rw [shown]
    have phase : u.frg.defrost.phase ≠ .prepare := by rw [frg]; exact h.phase
    split
    · next hc =>
      have device : (u.startCheck .scheduled).1.osc.device = .running := by
        rw [(State.TableOnly.startCheck (s := u) .scheduled).osc]
        exact hc.2.2
      refine ⟨device, State.startCheck_notPrepare phase _, ?_, fun ho => ?_, fun ho hact => ?_⟩
      · rcases u.startCheck_core .scheduled with ⟨-, arb'⟩ | ⟨v, same, -, eq⟩
        · exact h.slot.of_same (by rw [arb', arb]; exact .refl _)
        · refine h.slot.of_same ?_
          rw [eq, (State.trySettle_frg _).2, State.updCheck, State.updFlt_arb, State.applyArb_get (by decide), ← arb]
          have other := Arb.post_other (a := v.arb) (x := .filterCheck) (y := .defrost) (by decide)
            (internalArgs 6 (.flows (u.setting 10) (u.setting 10)) none) v.osc.uptime
          rw [same.arb] at other ⊢
          exact other
      · obtain ⟨record, test⟩ := h.record ho
        have free : u.arb.table.get .filterCheck = none := by rw [arb]; exact test due
        rcases u.startCheck_core .scheduled with ⟨frg', arb'⟩ | ⟨v, same, frg', eq⟩
        · exact ⟨by rw [frg', frg, record], fun _ => by rw [arb']; exact free⟩
        · obtain ⟨k, hk, level, -⟩ := h.slot
          have table : v.arb = u.arb := same.arb
          have quiet := Arb.post_belowDefrost (a := v.arb) (by rw [table]; exact free) (k := k) (by rw [table, arb]; exact hk)
            (p := internalArgs 6 (.flows (u.setting 10) (u.setting 10)) none) (by rw [level]; exact (by decide : 6 ≤ 13))
            v.osc.uptime
          have idle : v.flt.check.phase = .idle := by rw [same.flt]; exact hc.2.1
          obtain ⟨flt, -⟩ := v.applyArb_idle idle
            (v.arb.post .filterCheck (internalArgs 6 (.flows (u.setting 10) (u.setting 10)) none) v.osc.uptime)
          refine ⟨?_, fun late => absurd late ?_⟩
          · rw [eq, (State.trySettle_frg _).1, State.updCheck, State.updFlt_frg,
              State.applyArb_frg fun q hq e => absurd e (quiet q hq), frg', frg, record]
          · rw [eq, State.trySettle_startTestDue, State.updCheck, State.updFlt_flt, flt, same.flt]
            simpa using off
      · have free : u.arb.table.get .filterCheck = none := by rw [arb]; exact (h.record ho).2 due
        have active : u.arb.active = some .defrost := by rw [arb, h.active ho hact]
        rcases u.startCheck_core .scheduled with ⟨-, arb'⟩ | ⟨v, same, -, eq⟩
        · rw [arb', active]
        · obtain ⟨k, hk, level, -⟩ := h.slot
          have table : v.arb = u.arb := same.arb
          have idle : v.flt.check.phase = .idle := by rw [same.flt]; exact hc.2.1
          rw [eq, (State.trySettle_frg _).2, State.updCheck, State.updFlt_arb, (v.applyArb_idle idle _).2, table]
          refine Arb.post_belowActive free active ?_ _
          rw [Arb.level, arb, hk]
          exact (by rw [level]; decide : 6 ≤ k.level)
    · exact ⟨by rw [osc, h.device], phase, h.slot.of_same (by rw [arb]; exact .refl _),
        fun ho => ⟨by rw [frg, (h.record ho).1], fun late => absurd (off.symm.trans late) nofun⟩,
        fun ho ha => by rw [arb, h.active ho ha]⟩
  · rw [State.startTest_notDue (by simpa using due)]
    exact h

theorem State.DefrostStands.round {o a : Prop} {c : Carry} {d : Defrost} (h : s.DefrostStands o a c d) :
    s.round.DefrostStands o a c d := by
  refine State.round_induct (P := State.DefrostStands o a c d) (fun _ _ same ht => ht.same same)
    (fun t hp ht => absurd hp ht.phase) (fun t w p f hp ht => absurd hp ht.phase) (fun t hd ht => ?_) (fun t hd ht => ?_)
    (fun t ht => ht.startTest) h
  · rw [ht.device] at hd
    cases hd
  · rw [ht.device] at hd
    cases hd

theorem State.DefrostStands.propagate {o a : Prop} {c : Carry} {d : Defrost} (h : s.DefrostStands o a c d) :
    s.propagate.DefrostStands o a c d :=
  State.propagate_rounds (fun t ht => ht.same (.of_rests (.deriveStage t))) (fun _ ht => ht.round) h

/-- DEFROST's own post that makes it active starts the defrost (R71). -/
theorem State.applyArb_startsDefrost (hp : s.frg.defrost.phase = .posted) {r : Arb × List Report} {act : Slot}
    (hr : r.2 = [⟨.suspended, act⟩, ⟨.active, .defrost⟩]) : (s.applyArb r).frg.defrost.phase = .running
      ∧ (s.applyArb r).frg.defrost.started = true
      ∧ (s.applyArb r).frg.defrost.count = min (s.frg.defrost.count + 1) 65535 := by
  have active (v : State) (hv : v.frg = s.frg) : v.defrostActive.frg.defrost.phase = .running
      ∧ v.defrostActive.frg.defrost.started = true
      ∧ v.defrostActive.frg.defrost.count = min (s.frg.defrost.count + 1) 65535 := by
    unfold State.defrostActive
    rw [hv, hp]
    dsimp only
    rw [State.raise_frg, State.updDefrost, State.updFrg_frg, hv]
    exact ⟨rfl, rfl, rfl⟩
  have both (v : State) (hv : v.frg = s.frg) :
      ([⟨.suspended, act⟩, ⟨.active, .defrost⟩].filter (·.slot.internal)).foldl State.takeReport v = v.defrostActive
        ∨ ([⟨.suspended, act⟩, ⟨.active, .defrost⟩].filter (·.slot.internal)).foldl State.takeReport v
          = (v.takeReport ⟨.suspended, act⟩).defrostActive := by
    cases hi : act.internal with
    | true =>
      rw [List.filter_cons_of_pos (by exact hi), List.filter_cons_of_pos (by rfl)]
      exact .inr rfl
    | false =>
      rw [List.filter_cons_of_neg (by simp [hi]), List.filter_cons_of_pos (by rfl)]
      exact .inl rfl
  have moved (v : State) (hv : v.frg = s.frg) (w : State)
      (hw : w = ([⟨.suspended, act⟩, ⟨.active, .defrost⟩].filter (·.slot.internal)).foldl State.takeReport v) :
      w.frg.defrost.phase = .running ∧ w.frg.defrost.started = true
        ∧ w.frg.defrost.count = min (s.frg.defrost.count + 1) 65535 := by
    rcases both v hv with e | e
    · rw [hw, e]
      exact active v hv
    · rw [hw, e]
      exact active _ (by rw [State.takeReport_frg (fun _ => by rw [hv, hp]; rfl), hv])
  refine moved (if r.1.active = s.arb.active then s.updArb fun _ => r.1
    else (s.updArb fun _ => r.1).raise .demandChanged (slotCode r.1.active) (twoPart r.1.activeLevel (slotCode s.arb.active)))
    ?_ _ ?_
  · split
    · rfl
    · rw [State.raise_frg, State.updArb_frg]
  · rw [← hr]
    rfl

/-- DEFROST's slot after its post (R70). -/
theorem State.defrostApplied_internal (s u : State) (f : Report → Bool) :
    (s.defrostApplied u.defrostArgs f).Internal .defrost 13 (.flows 0 (u.setting 11)) none := by
  have post := Arb.post_record s.arb .defrost u.defrostArgs s.osc.uptime
  obtain ⟨level, origin, carry, run, -⟩ := u.defrostArgs.record_eq (s.arb.table.get .defrost) s.osc.uptime
  rw [← State.applyArb_get (s := s) (by decide) ((s.arb.post .defrost u.defrostArgs s.osc.uptime).1,
    (s.arb.post .defrost u.defrostArgs s.osc.uptime).2.filter f)] at post
  obtain ⟨d, hd, level', origin', carry', run', -⟩ := post.of_some
  exact ⟨d, hd, level'.trans level, origin'.trans origin, carry'.trans carry, run'.trans run⟩

theorem State.applyArb_active {x : Slot} (hx : x ≠ .filterCheck) {r : Arb × List Report} (h : r.1.active = some x) :
    (s.applyArb r).arb.active = some x := by
  have reports (l : List Report) (t : State) (ht : t.arb.active = some x) :
      (l.foldl State.takeReport t).arb.active = some x := by
    induction l generalizing t with
    | nil => exact ht
    | cons q l ih =>
      refine ih _ ?_
      rcases t.takeReport_arb q with e | e
      · rw [e, ht]
      · rw [e, Arb.free_active_other (by rw [ht]; exact fun c => hx (Option.some.inj c)), ht]
  unfold State.applyArb
  refine reports _ _ ?_
  split
  · exact h
  · rw [State.raise_arb]
    exact h

/-- DEFROST's post in the running device, as the propagation finds it. -/
theorem State.defrostApplied_stands {w : State} {f : Report → Bool} (hd : w.osc.device = .running)
    (hp : w.frg.defrost.phase = .posted) {o a : Prop} (ho : o → w.flt.startTestDue = false)
    (ha : o → a → (w.arb.post .defrost s.defrostArgs w.osc.uptime).1.active = some .defrost) :
    (w.defrostApplied s.defrostArgs f).DefrostStands o a (.flows 0 (s.setting 11))
      (w.defrostApplied s.defrostArgs f).frg.defrost where
  device := by
    rw [State.defrostApplied, (State.TableOnly.applyArb _).osc]
    exact hd
  phase := State.applyArb_notPrepare (by rw [hp]; exact nofun) _
  slot := w.defrostApplied_internal s f
  record rest := ⟨rfl, State.applyArb_testFree (fun due => absurd ((ho rest).symm.trans due) nofun)
    fun q hq => Arb.post_reports _ _ _ _ q (List.mem_filter.mp hq).1⟩
  active rest lead := State.applyArb_active (by decide) (ha rest lead)

/-- DEFROST's post above the active demand starts the defrost (R8, R71). -/
theorem State.defrostApplied_starts {w : State} (hp : w.frg.defrost.phase = .posted) (hf : w.arb.table.defrost = none)
    {act : Slot} (ha : w.arb.active = some act) (hl : w.arb.level act < 13) :
    (w.arb.post .defrost s.defrostArgs w.osc.uptime).1.active = some .defrost
      ∧ (w.defrostApplied s.defrostArgs fun _ => true).frg.defrost.phase = .running
      ∧ (w.defrostApplied s.defrostArgs fun _ => true).frg.defrost.started = true
      ∧ (w.defrostApplied s.defrostArgs fun _ => true).frg.defrost.count = min (w.frg.defrost.count + 1) 65535
      ∧ (w.defrostApplied s.defrostArgs fun _ => true).frg.defrost.elapsed = w.frg.defrost.elapsed := by
  have post := Arb.post_preempts (p := s.defrostArgs) (now := w.osc.uptime) (x := .defrost) hf ha hl
  have reports : (w.arb.post .defrost s.defrostArgs w.osc.uptime).2.filter (fun _ => true)
      = [⟨.suspended, act⟩, ⟨.active, .defrost⟩] := by
    rw [List.filter_true, post]
    rfl
  obtain ⟨phase, started, count⟩ := State.applyArb_startsDefrost (s := w) hp
    (r := ((w.arb.post .defrost s.defrostArgs w.osc.uptime).1,
      (w.arb.post .defrost s.defrostArgs w.osc.uptime).2.filter fun _ => true)) reports
  refine ⟨?_, phase, started, count, w.applyArb_elapsed _⟩
  rw [post]
  rfl

/-- The run-on's end with a defrost in PREPARE, as the propagation leaves it (R70, R71). -/
theorem State.runOnEnded_defrost (hd : s.osc.device = .running) (hp : s.frg.defrost.phase = .prepare) (hr : s.frg.runOn = 0)
    (ht : t = s.runOnEnded.propagate) : t.frg.defrost.phase ≠ .prepare ∧ t.Internal .defrost 13 (.flows 0 (s.setting 11)) none
      ∧ (s.atRest → s.standbyNext = true → t.frg.defrost = { s.frg.defrost with phase := .posted })
      ∧ (∀ act, s.atRest → s.standbyNext = false → s.arb.table.defrost = none → s.arb.active = some act →
        s.arb.level act < 13 → t.frg.defrost.phase = .running ∧ t.frg.defrost.started = true
          ∧ t.frg.defrost.count = min (s.frg.defrost.count + 1) 65535) := by
  obtain ⟨w, f, same, frg, eq, before, alone⟩ := State.defrostTimerEnd_posts hp hr (by rw [hd]; rfl)
  have ended : s.runOnEnded = w.defrostApplied s.defrostArgs f := by rw [s.runOnEnded_eq, hd, eq]
  have arb : w.arb = s.arb := same.arb
  have flt : w.flt = s.flt := same.flt
  have posted : w.frg.defrost = { s.frg.defrost with phase := .posted } := by rw [frg]; rfl
  have stands := State.defrostApplied_stands (s := s) (w := w) (f := f) (o := s.atRest) (a := False)
    (by rw [same.osc]; exact hd) (by rw [posted]) (fun rest => by rw [flt]; exact rest.2.2.2) fun _ => False.elim
  have after := stands.propagate
  rw [← ended, ← ht] at after
  refine ⟨after.phase, after.slot, fun rest next => ?_, fun act rest next free active above => ?_⟩
  · rw [(after.record rest).1, ended, State.defrostApplied, State.applyArb_frg fun q hq e => ?_, posted]
    rw [before next] at hq
    have other : (q.slot != .defrost) = true := (List.mem_filter.mp hq).2
    rw [e] at other
    cases other
  · obtain ⟨-, phase, started, count, -⟩ := State.defrostApplied_starts (s := s) (w := w) (by rw [posted])
      (by rw [arb]; exact free) (by rw [arb]; exact active) (by rw [arb]; exact above)
    rw [(after.record rest).1, ended, alone next]
    rw [posted] at count
    exact ⟨phase, started, count⟩

end Posted

/-! ### The applied duty, the cut and the stage -/

section Duty

variable {s : State} {n : Nat}

theorem State.windowMs_le (s : State) : s.windowMs ≤ 9999 := Nat.min_le_left _ _

theorem State.applyDuty_stops (h : 0 < s.frg.applied) : s.applyDuty 0 = s.updFrg fun g =>
    { g with applied := 0, outputOn := false, windowSecs := 0,
             runOn := if s.cutCondition.isNone then s.setting 29 else s.frg.runOn } :=
  (if_neg (Nat.ne_of_lt h)).trans (if_pos rfl)

theorem State.applyDuty_starts (h : s.frg.applied = 0) (hn : 0 < n) : s.applyDuty n = s.updFrg fun g =>
    { g with applied := n, outputOn := true, windowSecs := 0, runOn := 0 } :=
  (if_neg (by omega)).trans ((if_neg (by omega)).trans (if_pos h))

theorem State.applyDuty_changes (h : 0 < s.frg.applied) (hn : 0 < n) (hc : n ≠ s.frg.applied) : s.applyDuty n
    = (s.updFrg fun g => { g with applied := n, outputOn := s.outputAfterChange s.frg.applied n }).useFree :=
  (if_neg hc).trans ((if_neg (by omega)).trans (if_neg (by omega)))

theorem State.applyDuty_unchanged : s.applyDuty s.frg.applied = s := if_pos rfl

/-- A change of the duty reaches FRG alone (R57, R58, R60). -/
theorem State.applyDuty_apart (s : State) (n : Nat) :
    { s.applyDuty n with frg := s.frg, freeCount := s.freeCount } = s ∧ (s.applyDuty n).frg.applied = n := by
  unfold State.applyDuty
  dsimp only
  split
  · next h => exact ⟨rfl, h.symm⟩
  · split
    · next h => exact ⟨rfl, h.symm⟩
    · split <;> exact ⟨rfl, rfl⟩

theorem State.outputAfterChange_holds {old new : Nat} (hn : new ≠ old) :
    (s.frg.outputOn = true → old ≤ new → s.outputAfterChange old new = true)
      ∧ (s.frg.outputOn = false → new ≤ old → s.outputAfterChange old new = false)
      ∧ (old < 1000 → new = 1000 → s.outputAfterChange old new = true) := by
  refine ⟨fun on h => if_pos ⟨on, h⟩, fun off h => ?_, fun h e => ?_⟩
  · exact (if_neg (by simp [off])).trans (if_pos ⟨off, h⟩)
  · unfold State.outputAfterChange
    have ms := s.windowMs_le
    split
    · rfl
    · rw [if_neg (by omega)]
      exact decide_eq_true (by omega)

theorem State.cutCondition_none : s.cutCondition = none ↔ s.osc.device ≠ .doorOpen ∧ s.osc.device ≠ .filterService
    ∧ s.arb.active ≠ some .fire ∧ ∀ i, (s.afc.path i).state ≠ .stalled ∧ (s.afc.path i).state ≠ .failed := by
  have paths : (∀ i, (s.afc.path i).state ≠ .stalled ∧ (s.afc.path i).state ≠ .failed)
      ↔ ¬s.extractLoss = true ∧ ¬(s.afc.supply.state = .stalled ∨ s.afc.supply.state = .failed) := by
    rw [State.extractLoss_iff, not_or, not_or]
    exact ⟨fun h => ⟨h .extract, h .supply⟩, fun h i => by cases i; exacts [h.2, h.1]⟩
  rw [paths]
  unfold State.cutCondition
  split
  · next h => simp [h]
  · next h =>
    split
    · next h => simp [h]
    · next h =>
      split
      · next h => simp [h]
      · next h =>
        split
        · next h => simp [h]
        · next h =>
          split
          · next h => simp [h]
          · next h => simp [*]

theorem State.stageNow_eq (s : State) : s.stageNow
    = if s.frg.defrost.phase ≠ .idle ∧ s.frg.defrost.phase ≠ .lockout then .defrost
      else if 0 < s.frg.imbalance then .imbalance else if 0 < s.frg.applied then .preheat else .none := by
  unfold State.stageNow
  cases s.frg.defrost.phase <;> rfl

/-- A run-on that is cut (R61, R159). -/
theorem State.cutRunOn_cuts {c : CutSubject} (hc : s.cutCondition = some c) (hr : 0 < s.frg.runOn) : s.cutRunOn
    = ((s.updFrg fun g => { g with runOn := 0 }).faultEvent .runOnCut c.code s.frg.runOn).runOnEnded := by
  unfold State.cutRunOn
  rw [hc]
  exact if_pos hr

end Duty

end Sys2Proof.Machine

/-- Settles O39. -/
theorem runOnAndHeaterRows : Obligations.RunOnAndHeaterRows := by
  intro s
  refine ⟨fun n => ⟨(s.applyDuty_apart n).1, (s.applyDuty_apart n).2, fun h e => ?_, fun h hn => ?_, fun h hn => ?_⟩,
    State.cutCondition_none, fun h => ?_, fun c hc hr => ?_, fun g hg => ⟨fun h => ?_, fun h => ?_⟩, fun hr hd => ?_,
    fun hr hd => ?_, fun hr hd hp => ?_, fun h => if_pos h, fun h1 h2 h3 => if_pos ⟨h3, h1, h2⟩,
    fun h => if_neg fun c => absurd c.2.2 (by rw [h]; exact Nat.lt_irrefl _), fun h1 h2 => if_pos ⟨h1, h2⟩⟩
  · subst e
    rw [State.applyDuty_stops h]
    exact ⟨rfl, fun none => if_pos (by rw [none]; rfl), fun cut => if_neg (by simpa using cut)⟩
  · rw [State.applyDuty_starts h hn]
    exact ⟨rfl, rfl, rfl⟩
  · by_cases same : n = s.frg.applied
    · rw [same, State.applyDuty_unchanged]
      exact ⟨rfl, rfl, fun on _ => on, fun off _ => off, fun h e => absurd h (by omega)⟩
    · rw [State.applyDuty_changes h hn same]
      exact ⟨rfl, rfl, State.outputAfterChange_holds same⟩
  · unfold State.cutRunOn
    split
    · rfl
    · next c hc => exact if_neg (by rcases h with h | h; exacts [absurd hc (by rw [h]; exact nofun), by omega])
  · have fault := SettledFrom.fault (s.updFrg fun g => { g with runOn := 0 }) .runOnCut c.code s.frg.runOn
    have taken := (s.updFrg fun g => { g with runOn := 0 }).faultEvent_taken .runOnCut c.code s.frg.runOn
    have frg := State.faultEvent_frg (s.updFrg fun g => { g with runOn := 0 }) .runOnCut c.code s.frg.runOn
    have osc := State.faultEvent_osc (s.updFrg fun g => { g with runOn := 0 }) .runOnCut c.code s.frg.runOn
    rw [State.cutRunOn_cuts hc hr]
    rw [clampI_natCast] at taken
    generalize (s.updFrg fun g => { g with runOn := 0 }).faultEvent .runOnCut c.code s.frg.runOn = t at *
    have none : t.frg.runOn = 0 := by rw [frg]; rfl
    have settled : SettledFrom [] { s with sup := t.sup } t :=
      SettledFrom.next (t := { s with sup := t.sup, frg := { s.frg with runOn := 0 } })
        { SettledFrom.refl [] _ with frost := rfl } fault
    obtain ⟨stops, serves⟩ := t.runOnEnded_device
    rw [osc] at stops serves
    refine ⟨t.sup, taken, ?_, settled.next (.runOnEnded t), stops, serves, ?_⟩
    · rw [t.runOnEnded_frg, (State.TableOnly.defrostTimerEnd (s := t)).frg]
      exact none
    · rw [t.runOnEnded_frg]
      exact State.defrostTimerEnd_notPrepare none
  · rw [← s.stageNow_eq] at hg
    exact if_pos (hg.symm.trans h)
  · rw [← s.stageNow_eq] at hg
    refine (if_neg (hg ▸ h)).trans ?_
    rw [← hg]
    cases g <;> rfl
  · have row : exec .runOnEnd s = .next s.runOnEnded.propagate := if_pos ⟨hr, by simp [State.awaitsRunOn, hd]⟩
    have settled := (SettledFrom.runOnEnded s).next (.propagate _)
    have posting : s.osc.device.posting = false := by rw [hd]; rfl
    have timer : s.defrostTimerEnd.arb = s.arb := by
      by_cases hp : s.frg.defrost.phase = .prepare
      · rw [State.defrostTimerEnd_refused hp hr posting]
        rfl
      · rw [State.defrostTimerEnd_waits fun c => hp c.1]
    have table : s.runOnEnded.arb = s.arb.enterStandby := by
      rw [s.runOnEnded_eq, hd]
      dsimp only
      rw [State.enterStandby_arb, timer]
    obtain ⟨device, arb⟩ := State.propagate_standby (s.runOnEnded_device.1 hd)
      (by rw [s.runOnEnded_frg]; exact State.defrostTimerEnd_notPrepare hr)
    exact ⟨_, row, device, arb.trans table, settled.onDevice device⟩
  · have row : exec .runOnEnd s = .next s.runOnEnded.propagate := if_pos ⟨hr, by simp [State.awaitsRunOn, hd]⟩
    have settled := (SettledFrom.runOnEnded s).next (.propagate _)
    have entered := s.runOnEnded_device.2 hd
    have device := (SettledFrom.propagate s.runOnEnded).inService entered
    have service := State.propagate_service (s := s.runOnEnded) (by rw [entered]; decide)
    have timer : s.runOnEnded.flt.serviceTimer = s.setting 66 := by
      have osc : s.defrostTimerEnd.osc = s.osc := (State.TableOnly.defrostTimerEnd (s := s)).osc
      have same : s.defrostTimerEnd.setting 66 = s.setting 66 := congrArg (fun o : Osc => settingNat o.working 66) osc
      rw [s.runOnEnded_eq, hd, ← same]
      rfl
    rw [Flt.service, Flt.service, Prod.mk.injEq] at service
    exact ⟨_, row, device, service.1.trans timer, settled.onDevice device⟩
  · have row : exec .runOnEnd s = .next s.runOnEnded.propagate := if_pos ⟨hr, by simp [State.awaitsRunOn, hp]⟩
    obtain ⟨phase, slot, before, starts⟩ := State.runOnEnded_defrost hd hp hr rfl
    exact ⟨_, row, phase, (SettledFrom.runOnEnded s).next (.propagate _), slot, before, starts⟩

end

section
/-! The acts of a frost evaluation: the heater request keeps what step 4 makes of it, a triggered defrost goes on, and the imbalance
follows. -/

open Sys2Proof Sys2Proof.Machine

namespace Sys2Proof.Machine

section Request

variable {s t : State}

/-! ### The heater request in the propagation -/

theorem State.requestForced_false : s.requestForced = false ↔ s.osc.device = .running ∧ s.arb.table.get .manual = none
    ∧ s.frg.defrost.phase.rests ∧ s.heaterFitted = true := by
  have phase : s.frg.defrost.phase.inProgress = false ↔ s.frg.defrost.phase.rests := by
    unfold DefrostPhase.rests
    cases s.frg.defrost.phase <;> simp [DefrostPhase.inProgress]
  simp [State.requestForced, Arb.isFree, phase, and_assoc]

theorem State.startTest_tableOnly (s : State) : s.TableOnly s.startTest := by
  unfold State.startTest
  split
  · dsimp only
    split
    · exact State.TableOnly.trans (.updFlt _) (.startCheck _)
    · exact .updFlt _
  · exact .refl s

/-- The heater request and the applied duty after a round (R56, R57). -/
theorem State.round_heater (s : State) : s.round.frg.request = s.forceRequest.frg.request
    ∧ s.round.frg.applied = (if s.forceRequest.serveFans.heaterAllowed then s.forceRequest.frg.request else 0) := by
  have cut (u : State) : u.cutRunOn.frg.request = u.frg.request ∧ u.cutRunOn.frg.applied = u.frg.applied := by
    unfold State.cutRunOn
    split
    · exact ⟨rfl, rfl⟩
    · dsimp only
      split
      · rw [State.runOnEnded_frg, (State.TableOnly.defrostTimerEnd (s := State.faultEvent _ _ _ _)).frg, State.faultEvent_frg]
        exact ⟨rfl, rfl⟩
      · exact ⟨rfl, rfl⟩
  have duty (u : State) : u.deriveDuty.frg.request = u.frg.request
      ∧ u.deriveDuty.frg.applied = (if u.heaterAllowed then u.frg.request else 0) := by
    obtain ⟨applied, request, -⟩ := u.applyDuty_same (if u.heaterAllowed then u.frg.request else 0)
    exact ⟨request, applied⟩
  have frg := s.forceRequest.serveFans_frg
  unfold State.round
  generalize s.forceRequest.serveFans = u at *
  obtain ⟨request, applied⟩ := duty u
  obtain ⟨request', applied'⟩ := cut u.deriveDuty
  rw [(State.startTest_tableOnly u.deriveDuty.cutRunOn).frg]
  dsimp only
  rw [request', request, applied', applied, frg]
  exact ⟨rfl, rfl⟩

theorem State.round_unforced (h : s.requestForced = false) : s.round.requestForced = false := by
  obtain ⟨device, manual, phase, fitted⟩ := State.requestForced_false.mp h
  have settled := SettledFrom.round s
  have osc := congrArg (fun o : Osc => settingNat o.inUse 28) settled.osc
  have record := (State.round_rests phase).1
  generalize s.round = t at *
  refine State.requestForced_false.mpr ⟨settled.running device, settled.slotNone manual (by simp) (by decide) (by decide),
    by rwa [record], ?_⟩
  have same : t.inUse 28 = s.inUse 28 := osc
  unfold State.heaterFitted at fitted ⊢
  rwa [same]

/-- A heater request that is 0 under a forcing condition. -/
def State.requestHolds (s : State) (q : Nat) : Prop := (s.requestForced = true → s.frg.request = 0) ∧ s.frg.request = q

/-- A round leaves a request alone that obeys the forcing conditions: where none holds, none comes to hold. -/
theorem State.requestHolds.round {q : Nat} (h : s.requestHolds q) : s.round.requestHolds q := by
  obtain ⟨forced, request⟩ := h
  obtain ⟨kept, -⟩ := s.round_heater
  have same : s.forceRequest.frg.request = q := by
    cases hf : s.requestForced with
    | true =>
      rw [State.forceRequest, if_pos hf, ← request, forced hf]
      rfl
    | false => rw [State.forceRequest, if_neg (by simp [hf]), request]
  refine ⟨fun late => ?_, kept.trans same⟩
  cases hf : s.requestForced with
  | true => rw [kept, same, ← request, forced hf]
  | false => exact absurd ((State.round_unforced hf).symm.trans late) nofun

theorem State.requestHolds.of_same {q : Nat} (h : s.requestHolds q) (forced : t.requestForced = s.requestForced)
    (request : t.frg.request = s.frg.request) : t.requestHolds q := by
  rwa [State.requestHolds, forced, request]

theorem State.requestHolds.deriveStage {q : Nat} (h : s.requestHolds q) : s.deriveStage.requestHolds q := by
  have rests := State.Rests.deriveStage s
  refine h.of_same ?_ (by rw [rests.frg])
  unfold State.requestForced State.heaterFitted State.inUse
  rw [rests.frg, rests.osc, rests.arb]

theorem State.requestHolds.propagate {q : Nat} (h : s.requestHolds q) : s.propagate.requestHolds q :=
  State.propagate_rounds (P := (State.requestHolds · q)) (fun _ ht => ht.deriveStage) (fun _ ht => ht.round) h

theorem State.requestHolds.settleBlocks {q : Nat} (h : s.requestHolds q) : s.settleBlocks.requestHolds q :=
  State.settleBlocks_rounds (P := (State.requestHolds · q)) (fun _ ht => ht.round) h

/-- Under a request of 0 the propagation leaves no duty. -/
theorem State.propagate_off (h : s.requestHolds 0) : s.propagate.frg.applied = 0 := by
  have staged (t : State) (ht : t.requestHolds 0) : t.stagedRound.requestHolds 0 ∧ t.stagedRound.frg.applied = 0 := by
    refine ⟨ht.round.deriveStage, ?_⟩
    have off : t.round.frg.applied = 0 := by
      rw [t.round_heater.2, ← t.round_heater.1, ht.round.2]
      split <;> rfl
    unfold State.stagedRound
    rw [(State.Rests.deriveStage t.round).frg]
    exact off
  have first := (staged _ h.deriveStage).1
  have third := (staged _ (staged _ first).1).1
  unfold State.propagate
  exact (staged _ third).2

end Request

section Progress

variable {s : State}

/-! ### A defrost in progress -/

theorem State.takeReport_inProgress (h : s.frg.defrost.phase.inProgress = true) (q : Report) :
    (s.takeReport q).frg.defrost.phase.inProgress = true := by
  by_cases deaf : q.slot = .defrost → s.frg.defrost.phase.heeds q.kind = false
  · rwa [State.takeReport_frg deaf]
  · obtain ⟨k, y⟩ := q
    obtain rfl : y = .defrost := by
      by_contra hy
      exact deaf fun e => absurd e hy
    cases k with
    | active =>
      change s.defrostActive.frg.defrost.phase.inProgress = true
      unfold State.defrostActive
      split
      · rw [State.raise_frg]
        rfl
      · rfl
      all_goals exact h
    | suspended =>
      change s.defrostPreempted.frg.defrost.phase.inProgress = true
      unfold State.defrostPreempted
      split
      case h_1 | h_2 => rfl
      all_goals exact h
    | _ => exact h

theorem State.applyArb_inProgress (h : s.frg.defrost.phase.inProgress = true) (r : Arb × List Report) :
    (s.applyArb r).frg.defrost.phase.inProgress = true := by
  have reports (l : List Report) (t : State) (ht : t.frg.defrost.phase.inProgress = true) :
      (l.foldl State.takeReport t).frg.defrost.phase.inProgress = true := by
    induction l generalizing t with
    | nil => exact ht
    | cons q l ih => exact ih _ (State.takeReport_inProgress ht q)
  unfold State.applyArb
  refine reports _ _ ?_
  split
  · exact h
  · rw [State.raise_frg]
    exact h

theorem State.round_inProgress (h : s.frg.defrost.phase.inProgress = true) : s.round.frg.defrost.phase.inProgress = true := by
  refine State.round_induct (P := fun t => t.frg.defrost.phase.inProgress = true) ?_ ?_ ?_ ?_ ?_ ?_ h
  · intro t u hu ht
    rwa [hu.defrost]
  · exact fun t hp ht => rfl
  · intro t w p f hp ht hw
    exact State.applyArb_inProgress (by rw [hw.defrost]; rfl) _
  · intro t _ ht
    rwa [t.enterStandby_frg]
  · intro t _ ht
    rwa [t.enterFilterService_frg]
  · intro t ht
    unfold State.startTest
    split
    · dsimp only
      split
      · rcases (t.updFlt fun f => { f with startTestDue := false }).startCheck_core .scheduled with
          ⟨frg, -⟩ | ⟨v, -, frg, eq⟩
        · rw [frg]
          exact ht
        · rw [eq, (State.trySettle_frg _).1]
          exact State.applyArb_inProgress (by rw [frg]; exact ht) _
      · exact ht
    · exact ht

theorem State.settleBlocks_inProgress (h : s.frg.defrost.phase.inProgress = true) :
    s.settleBlocks.frg.defrost.phase.inProgress = true :=
  State.settleBlocks_rounds (P := fun t => t.frg.defrost.phase.inProgress = true) (fun _ => State.round_inProgress) h

theorem State.propagate_inProgress (h : s.frg.defrost.phase.inProgress = true) :
    s.propagate.frg.defrost.phase.inProgress = true :=
  State.propagate_rounds (P := fun t => t.frg.defrost.phase.inProgress = true)
    (fun t ht => by rw [(State.SameTable.of_rests (.deriveStage t)).defrost]; exact ht) (fun _ => State.round_inProgress) h

theorem State.tryDefrostPost_inProgress (h : s.frg.defrost.phase.inProgress = true) :
    s.tryDefrostPost.frg.defrost.phase.inProgress = true := by
  unfold State.tryDefrostPost
  split
  · rcases (s.updDefrost fun d => { d with phase := .posted }).postDefrost_applied with e | ⟨w, p, f, same, e⟩
    · rw [e]
      rfl
    · rw [e]
      exact State.applyArb_inProgress (by rw [same.defrost]; rfl) _
  · exact h

end Progress

/-! ### The steps of an evaluation -/

section Steps

variable {s t : State}

theorem State.setImbalance_eq (s : State) (n : Nat) : ∃ f : Flt,
    s.setImbalance n = { s with frg := { s.frg with imbalance := n }, flt := f } ∧ f.startTestDue = s.flt.startTestDue := by
  unfold State.setImbalance
  dsimp only
  split
  · exact ⟨_, rfl, rfl⟩
  · split
    · unfold State.checkCapped
      split <;> exact ⟨_, rfl, rfl⟩
    · unfold State.trySettle
      split <;> exact ⟨_, rfl, rfl⟩

/-- Step 5 reaches the imbalance with its count, and a check's record (R62, R63). -/
theorem State.evaluateImbalance_eq (s : State) : ∃ (e i : Nat) (f : Flt), s.evaluateImbalance
    = { s with frg := { s.frg with exhausted := e, imbalance := i }, flt := f } ∧ f.startTestDue = s.flt.startTestDue := by
  have set (e i : Nat) : ∃ (e' i' : Nat) (f : Flt), (s.updFrg fun g => { g with exhausted := e }).setImbalance i
      = { s with frg := { s.frg with exhausted := e', imbalance := i' }, flt := f } ∧ f.startTestDue = s.flt.startTestDue :=
    have ⟨f, eq, due⟩ := (s.updFrg fun g => { g with exhausted := e }).setImbalance_eq i
    ⟨e, i, f, eq, due⟩
  unfold State.evaluateImbalance
  split
  case h_1 | h_2 | h_3 => exact set _ _
  all_goals exact ⟨_, _, _, rfl, rfl⟩

/-- The device states in which step 5 acts (R62). -/
def DevState.balances (d : DevState) : Prop := d = .running ∨ d = .stopping ∨ d = .servicePrepare

theorem State.evaluateImbalance_fixed (hd : s.osc.device.balances) (hr : s.frg.regime = .fixed) :
    s.evaluateImbalance.frg.imbalance = s.setting 30 ∧ s.evaluateImbalance.frg.exhausted = 0 := by
  have acts : s.evaluateImbalance = (s.updFrg fun g => { g with exhausted := 0 }).setImbalance (s.setting 30) := by
    unfold State.evaluateImbalance
    rw [hr]
    rcases hd with hd | hd | hd <;> rw [hd]
  obtain ⟨f, eq, -⟩ := (s.updFrg fun g => { g with exhausted := 0 }).setImbalance_eq (s.setting 30)
  rw [acts, eq]
  exact ⟨rfl, rfl⟩

theorem State.evaluateImbalance_measured (hd : s.osc.device.balances) (hr : s.frg.regime ≠ .fixed) {m : Int}
    (hm : s.frg.margin = some m) : (s.evaluateImbalance.frg.exhausted, s.evaluateImbalance.frg.imbalance)
      = nextImbalance s.frg.exhausted s.frg.imbalance (s.setting 30) m (settingVal s.osc.working 26) s.heaterExhausted := by
  obtain ⟨r, hr'⟩ : ∃ r, r = nextImbalance s.frg.exhausted s.frg.imbalance (s.setting 30) m (settingVal s.osc.working 26)
    s.heaterExhausted := ⟨_, rfl⟩
  have acts : s.evaluateImbalance = (s.updFrg fun g => { g with exhausted := r.1 }).setImbalance r.2 := by
    rw [hr']
    unfold State.evaluateImbalance
    rw [hm]
    cases hg : s.frg.regime with
    | fixed => exact absurd hg hr
    | _ => rcases hd with hd | hd | hd <;> rw [hd]
  obtain ⟨f, eq, -⟩ := (s.updFrg fun g => { g with exhausted := r.1 }).setImbalance_eq r.2
  rw [acts, eq, ← hr']
  rfl

theorem State.evaluateImbalance_rests (hd : s.osc.device = .doorOpen ∨ s.osc.device = .filterService ∨ s.osc.device = .standby) :
    s.evaluateImbalance = s := by
  unfold State.evaluateImbalance
  rcases hd with hd | hd | hd <;> rw [hd]

/-! ### The request -/

/-- Step 4's request stands to the end of the evaluation, and without one the heater is off. -/
theorem State.evaluateFrost_request (s : State) {b : State} (hb : b = s.evaluateMargin.evaluateLoad) {q : Nat}
    (hq : q = if b.requestForced then 0 else b.requestNow) : b.evaluateRequest.frg.request = q
      ∧ s.evaluateFrost.frg.request = q ∧ (q = 0 → s.evaluateFrost.frg.applied = 0) := by
  have set : (b.updFrg fun g => { g with request := if b.requestForced then 0 else b.requestNow }).requestHolds q := by
    refine ⟨fun forced => ?_, hq.symm⟩
    have was : b.requestForced = true := forced
    exact if_pos was
  have settled : b.evaluateRequest.requestHolds q := by
    unfold State.evaluateRequest
    exact set.settleBlocks
  have balanced : b.evaluateRequest.evaluateImbalance.requestHolds q := by
    generalize b.evaluateRequest = c at *
    obtain ⟨e, i, f, eq, -⟩ := c.evaluateImbalance_eq
    rw [eq]
    exact settled
  have shown : s.evaluateFrost = b.evaluateRequest.evaluateImbalance.deriveStage.propagate := by
    rw [hb]
    rfl
  rw [shown]
  refine ⟨settled.2, balanced.deriveStage.propagate.2, fun off => State.propagate_off ?_⟩
  rw [← off]
  exact balanced.deriveStage

/-! ### The defrost -/

theorem State.confirmEntry_inProgress (h : s.frg.defrost.phase.inProgress = true) :
    s.confirmEntry.frg.defrost.phase.inProgress = true := by
  rw [s.confirmEntry_eq]
  split
  · rfl
  · exact h

/-- A defrost in progress, or one that the load triggers, is in progress behind step 3 (R69). -/
theorem State.evaluateLoad_inProgress (h : s.frg.defrost.phase.inProgress = true
    ∨ s.frg.defrost.phase = .idle ∧ s.osc.device = .running ∧ s.setting 32 ≤ s.frg.load) :
    s.defrostTrigger.confirmEntry.frg.defrost.phase.inProgress = true := by
  refine State.confirmEntry_inProgress ?_
  unfold State.defrostTrigger
  dsimp only
  split
  · have prepared : (s.updDefrost fun d =>
        { d with phase := .prepare, started := false, elapsed := 0, confirm := 0 }).frg.defrost.phase.inProgress = true := rfl
    exact State.tryDefrostPost_inProgress (State.settleBlocks_inProgress prepared)
  · next hn => exact h.resolve_right hn

theorem State.evaluateFrost_inProgress (h : s.evaluateMargin.evaluateLoad.frg.defrost.phase.inProgress = true) :
    s.evaluateFrost.frg.defrost.phase.inProgress = true := by
  obtain ⟨b, hb⟩ : ∃ b, b = s.evaluateMargin.evaluateLoad := ⟨_, rfl⟩
  rw [← hb] at h
  have set : (b.updFrg fun g =>
      { g with request := if b.requestForced then 0 else b.requestNow }).frg.defrost.phase.inProgress = true := h
  have settled : b.evaluateRequest.frg.defrost.phase.inProgress = true := by
    unfold State.evaluateRequest
    exact State.settleBlocks_inProgress set
  have balanced : b.evaluateRequest.evaluateImbalance.frg.defrost.phase.inProgress = true := by
    generalize b.evaluateRequest = c at *
    obtain ⟨e, i, f, eq, -⟩ := c.evaluateImbalance_eq
    rw [eq]
    exact settled
  have shown : s.evaluateFrost = b.evaluateRequest.evaluateImbalance.deriveStage.propagate := by
    rw [hb]
    rfl
  rw [shown]
  refine State.propagate_inProgress ?_
  rw [(State.SameTable.of_rests (.deriveStage _)).defrost]
  exact balanced

/-- A defrost that starts within step 3 stands to the end of the evaluation. -/
theorem State.DefrostStands.evaluated {c : Carry} {d : Defrost} {b : State} (h : b.DefrostStands True True c d)
    (hb : b = s.evaluateMargin.evaluateLoad) : s.evaluateFrost.DefrostStands True True c d := by
  have settled : b.evaluateRequest.DefrostStands True True c d := by
    unfold State.evaluateRequest
    exact State.settleBlocks_rounds (P := State.DefrostStands True True c d) (fun _ ht => ht.round) (h.same (.updFrg b rfl))
  have balanced : b.evaluateRequest.evaluateImbalance.DefrostStands True True c d := by
    generalize b.evaluateRequest = v at *
    obtain ⟨e, i, f, eq, due⟩ := v.evaluateImbalance_eq
    rw [eq]
    refine ⟨settled.device, settled.phase, settled.slot, fun o => ⟨(settled.record o).1, fun late => ?_⟩, settled.active⟩
    exact (settled.record o).2 (due.symm.trans late)
  have shown : s.evaluateFrost = b.evaluateRequest.evaluateImbalance.deriveStage.propagate := by
    rw [hb]
    rfl
  rw [shown]
  exact (balanced.same (.of_rests (.deriveStage _))).propagate

/-- The trigger at rest, with DEFROST FREE and a lower active demand: the defrost runs at once (R69 to R71). -/
theorem State.defrostTrigger_starts (hp : s.frg.defrost.phase = .idle) (hd : s.osc.device = .running)
    (hl : s.setting 32 ≤ s.frg.load) (rest : s.atRest) (hf : s.arb.table.defrost = none) {act : Slot}
    (ha : s.arb.active = some act) (hact : s.arb.level act < 13) {t : State} (ht : t = s.defrostTrigger) :
    t.DefrostStands True True (.flows 0 (s.setting 11)) t.frg.defrost ∧ t.frg.defrost.phase = .running
      ∧ t.frg.defrost.started = true ∧ t.frg.defrost.elapsed = 0
      ∧ t.frg.defrost.count = min (s.frg.defrost.count + 1) 65535 := by
  obtain ⟨p, hp'⟩ : ∃ p, p = s.updDefrost fun d => { d with phase := .prepare, started := false, elapsed := 0, confirm := 0 } :=
    ⟨_, rfl⟩
  have resting : p.atRest := by rw [hp']; exact rest
  have rests : p.Rests p.settleBlocks :=
    State.settleBlocks_rounds (P := p.Rests) (fun u hu => hu.trans (by
      rw [State.round_atRest (hu.atRest resting)]
      exact .serveFans u)) (.refl p)
  have shown : t = p.settleBlocks.tryDefrostPost := by
    rw [ht, hp']
    exact if_pos ⟨hp, hd, hl⟩
  generalize p.settleBlocks = q at *
  have arb : q.arb = s.arb := by rw [rests.arb, hp']; rfl
  have osc : q.osc = s.osc := by rw [rests.osc, hp']; rfl
  have defrost : q.frg.defrost = { s.frg.defrost with phase := .prepare, started := false, elapsed := 0, confirm := 0 } := by
    rw [rests.frg, hp']
    rfl
  have run : q.frg.runOn = 0 := (rests.atRest resting).2.2.1
  obtain ⟨w, same, frg, eq⟩ := State.tryDefrostPost_posts (s := q) (by rw [defrost]) run (by rw [osc, hd]; rfl)
  have warb : w.arb = s.arb := same.arb.trans arb
  have posted : w.frg.defrost = { q.frg.defrost with phase := .posted } := by rw [frg]; rfl
  obtain ⟨active, phase, started, count, elapsed⟩ := State.defrostApplied_starts (s := q) (w := w) (by rw [posted])
    (by rw [warb]; exact hf) (by rw [warb]; exact ha) (by rw [warb]; exact hact)
  have stands := State.defrostApplied_stands (s := q) (w := w) (f := fun _ => true) (o := True) (a := True)
    (by rw [same.osc]; exact (congrArg Osc.device osc).trans hd) (by rw [posted])
    (fun _ => by rw [same.flt]; exact (rests.atRest resting).2.2.2) fun _ _ => active
  have setting : q.setting 11 = s.setting 11 := by rw [State.setting, osc]; rfl
  rw [← eq, ← shown] at stands phase started count elapsed
  rw [posted, defrost] at count elapsed
  exact ⟨setting ▸ stands, phase, started, elapsed, count⟩

/-! ### The evaluation as a whole -/

/-- Before step 3's consequences an evaluation has changed measures of FRG alone. -/
theorem State.evaluated_frame (s : State) {a : State} (ha : a = s.evaluateMargin.loaded) : a.osc = s.osc ∧ a.arb = s.arb
    ∧ a.flt = s.flt ∧ { a.frg with
        rhEta := s.frg.rhEta, tier := s.frg.tier, substitute := s.frg.substitute, td := s.frg.td, margin := s.frg.margin
        load := s.frg.load } = s.frg
      ∧ s.evaluateFrost.frg.load = a.frg.load ∧ s.evaluateFrost.frg.margin = a.frg.margin := by
  have load := s.evaluateFrost_load
  have margin := s.evaluateFrost_margin
  rw [s.evaluateMargin_loaded_frame] at ha
  refine ⟨by rw [ha]; rfl, by rw [ha]; rfl, by rw [ha]; rfl, by rw [ha]; rfl, load.trans (by rw [ha]; rfl),
    margin.trans (by rw [ha]; rfl)⟩

/-- A quantity of FRG that the heater, the stage and the defrost leave alone stands over step 4. -/
theorem State.evaluateRequest_get (s : State) {α : Type} (f : Frg → α)
    (hf : ∀ (g : Frg) (q p : Nat) (b : Bool) (w r : Nat) (e : Stage) (d : Defrost),
      f { g with request := q, applied := p, outputOn := b, windowSecs := w, runOn := r, stage := e, defrost := d } = f g) :
    f s.evaluateRequest.frg = f s.frg := by
  have settled := SettledFrom.settleBlocks (s.updFrg fun g => { g with request := if s.requestForced then 0 else s.requestNow })
  have kept := settled.frost_get f hf
  have request : f (s.updFrg fun g => { g with request := if s.requestForced then 0 else s.requestNow }).frg = f s.frg :=
    hf s.frg _ s.frg.applied s.frg.outputOn s.frg.windowSecs s.frg.runOn s.frg.stage s.frg.defrost
  unfold State.evaluateRequest
  exact kept.trans request

/-- Under a forcing condition an evaluation leaves no request and no duty (R56). -/
theorem State.evaluateFrost_forced (h : s.osc.device ≠ .running ∨ s.arb.table.manual ≠ none ∨ s.inUse 28 ≠ 1
    ∨ s.frg.defrost.phase.inProgress = true) : s.evaluateFrost.frg.request = 0 ∧ s.evaluateFrost.frg.applied = 0 := by
  obtain ⟨a, ha⟩ : ∃ a, a = s.evaluateMargin.loaded := ⟨_, rfl⟩
  obtain ⟨b, hb⟩ : ∃ b, b = a.defrostTrigger.confirmEntry := ⟨_, rfl⟩
  obtain ⟨osc, arb, -, frg, -⟩ := s.evaluated_frame ha
  have settled : SettledFrom [] a b := hb ▸ (SettledFrom.defrostTrigger a).next (.confirmEntry _)
  have load : b = s.evaluateMargin.evaluateLoad := by rw [hb, ha]; rfl
  obtain ⟨-, request, applied⟩ := s.evaluateFrost_request load rfl
  have forced : b.requestForced = true := by
    by_contra no
    obtain ⟨device, manual, phase, fitted⟩ := State.requestForced_false.mp (by simpa using no)
    rcases h with h | h | h | h
    · rcases settled.device with e | ⟨-, e⟩ | ⟨-, e⟩
      · exact h (by rw [← osc, ← e, device])
      · exact absurd (e.symm.trans device) nofun
      · exact absurd (e.symm.trans device) nofun
    · have free := (settled.slots .manual (by simp) (by decide) (by decide)).none_iff.mp manual
      rw [arb] at free
      exact h free
    · have same : b.inUse 28 = s.inUse 28 :=
        (congrArg (fun o : Osc => settingNat o.inUse 28) settled.osc).trans (congrArg (fun o : Osc => settingNat o.inUse 28) osc)
      rw [State.heaterFitted, same] at fitted
      exact h (by simpa using fitted)
    · have was : a.frg.defrost.phase.inProgress = true := by
        rw [← frg] at h
        exact h
      have is := State.evaluateLoad_inProgress (.inl was)
      rw [← hb] at is
      rcases phase with e | e <;> rw [e] at is <;> cases is
  rw [forced] at request applied
  exact ⟨request, applied rfl⟩

/-- Without a forcing condition, and no defrost triggered, step 4's request is what it computes (R56). -/
theorem State.evaluateFrost_computed (hd : s.osc.device = .running) (hm : s.arb.table.manual = none) (hh : s.inUse 28 = 1)
    (hp : s.frg.defrost.phase = .lockout ∨ s.frg.defrost.phase = .idle ∧ s.evaluateFrost.frg.load < s.setting 32) :
    (s.frg.regime = .fixed → s.evaluateFrost.frg.request = 500)
      ∧ (∀ m, s.frg.regime ≠ .fixed → s.evaluateFrost.frg.margin = some m → (s.evaluateFrost.frg.request : Int)
        = clampI ((settingVal s.osc.working 26 - m) * settingVal s.osc.working 27) 0 1000) := by
  obtain ⟨a, ha⟩ : ∃ a, a = s.evaluateMargin.loaded := ⟨_, rfl⟩
  obtain ⟨osc, arb, -, frg, load, margin⟩ := s.evaluated_frame ha
  have phase : a.frg.defrost.phase = s.frg.defrost.phase := by
    rw [← frg]
  have regime : a.frg.regime = s.frg.regime := by
    have kept := congrArg Frg.regime frg
    exact kept
  have calm : a.defrostTrigger.confirmEntry = a := by
    have untriggered : a.defrostTrigger = a := by
      refine if_neg fun c => ?_
      rcases hp with hp | ⟨-, low⟩
      · rw [phase, hp] at c
        exact absurd c.1 nofun
      · have high := c.2.2
        rw [State.setting, osc, ← load] at high
        exact Nat.not_le.mpr low high
    rw [untriggered, State.confirmEntry_eq]
    refine if_neg fun c => ?_
    rw [phase] at c
    rcases hp with hp | ⟨hp, -⟩ <;> exact absurd (hp.symm.trans c.1) nofun
  have loaded : a = s.evaluateMargin.evaluateLoad := by
    refine calm.symm.trans ?_
    rw [ha]
    rfl
  obtain ⟨-, request, -⟩ := s.evaluateFrost_request loaded rfl
  have unforced : a.requestForced = false := State.requestForced_false.mpr
    ⟨by rw [osc, hd], by rw [arb]; exact hm, by rw [phase]; exact hp.elim .inr fun h => .inl h.1, by
      rw [State.heaterFitted, State.inUse, osc]
      exact beq_iff_eq.mpr hh⟩
  rw [unforced] at request
  have now : s.evaluateFrost.frg.request = a.requestNow := request
  rw [now, margin]
  unfold State.requestNow
  rw [regime, osc]
  refine ⟨fun hr => by rw [hr], fun m hr hm => ?_⟩
  have low : (0 : Int) ≤ clampI ((settingVal s.osc.working 26 - m) * settingVal s.osc.working 27) 0 1000 := by
    unfold clampI
    split
    · exact le_refl _
    · split <;> omega
  rw [hm]
  cases hg : s.frg.regime with
  | fixed => exact absurd hg hr
  | _ => exact Int.toNat_of_nonneg low

theorem State.balanced_device (h : SettledFrom [] s.evaluateImbalance t) :
    t.osc.device = s.osc.device ∨ (s.osc.device = .stopping ∨ s.osc.device = .servicePrepare) := by
  have acted := s.evaluateImbalance_acts.trans (.ofSettled h)
  exact acted.settled.device.imp_right (Or.imp And.left And.left)

/-- What step 5 finds, and what of it stands at the end of the evaluation (R62, R63). -/
theorem State.evaluateFrost_balance (s : State) : ∃ c : State,
    (s.osc.device = .running ∨ (s.osc.device = .stopping ∨ s.osc.device = .servicePrepare)
      ∧ s.evaluateFrost.osc.device = s.osc.device → c.osc.device = s.osc.device)
    ∧ (s.osc.device = .doorOpen ∨ s.osc.device = .filterService ∨ s.osc.device = .standby → c.osc.device = s.osc.device)
    ∧ c.osc.working = s.osc.working ∧ c.heaterFitted = (s.inUse 28 == 1)
    ∧ c.frg.regime = s.frg.regime ∧ c.frg.cutout = s.frg.cutout ∧ c.frg.margin = s.evaluateFrost.frg.margin
    ∧ c.frg.exhausted = s.frg.exhausted ∧ c.frg.imbalance = s.frg.imbalance
    ∧ c.frg.request = s.evaluateFrost.frg.request
    ∧ s.evaluateFrost.frg.exhausted = c.evaluateImbalance.frg.exhausted
    ∧ s.evaluateFrost.frg.imbalance = c.evaluateImbalance.frg.imbalance := by
  obtain ⟨a, ha⟩ : ∃ a, a = s.evaluateMargin.loaded := ⟨_, rfl⟩
  obtain ⟨b, hb⟩ : ∃ b, b = a.defrostTrigger.confirmEntry := ⟨_, rfl⟩
  obtain ⟨osc, arb, -, frg, -, margin⟩ := s.evaluated_frame ha
  have first : SettledFrom [] a b := hb ▸ (SettledFrom.defrostTrigger a).next (.confirmEntry _)
  have load : b = s.evaluateMargin.evaluateLoad := by rw [hb, ha]; rfl
  have acted : a.ActsFrom b.evaluateRequest := (State.ActsFrom.ofSettled first).trans b.evaluateRequest_acts
  obtain ⟨request, request', -⟩ := s.evaluateFrost_request load rfl
  have last : SettledFrom [] b.evaluateRequest.evaluateImbalance s.evaluateFrost := by
    have shown : s.evaluateFrost = b.evaluateRequest.evaluateImbalance.deriveStage.propagate := by
      rw [load]
      rfl
    rw [shown]
    exact (SettledFrom.deriveStage _).next (.propagate _)
  have moved := State.balanced_device last
  have get {α : Type} (f : Frg → α) (hf : ∀ (g : Frg) (q p : Nat) (b : Bool) (w r : Nat) (e : Stage) (d : Defrost),
      f { g with request := q, applied := p, outputOn := b, windowSecs := w, runOn := r, stage := e, defrost := d } = f g) :
      f b.evaluateRequest.frg = f a.frg := (b.evaluateRequest_get f hf).trans (first.frost_get f hf)
  have start : b.evaluateRequest.osc.device = s.osc.device
      ∨ (s.osc.device = .stopping ∧ b.evaluateRequest.osc.device = .standby)
      ∨ (s.osc.device = .servicePrepare ∧ b.evaluateRequest.osc.device = .filterService) := by
    rw [← osc]
    exact acted.settled.device
  have table := acted.settled.osc
  have same {α : Type} (f : Frg → α) (hf : ∀ (g : Frg) (r : Option Nat) (t : Option Tier) (x d m : Option Int) (l : Nat),
      f { g with rhEta := r, tier := t, substitute := x, td := d, margin := m, load := l } = f g) : f a.frg = f s.frg := by
    have kept := congrArg f frg
    rwa [hf] at kept
  generalize b.evaluateRequest = c at *
  refine ⟨c, fun h => ?_, fun h => ?_, ?_, ?_, ?_, ?_, ?_, ?_, ?_, request.trans request'.symm,
    last.frost_get Frg.exhausted fun _ _ _ _ _ _ _ _ => rfl, last.frost_get Frg.imbalance fun _ _ _ _ _ _ _ _ => rfl⟩
  · rcases start with e | ⟨e, e'⟩ | ⟨e, e'⟩
    · exact e
    · rw [e'] at moved
      rw [e] at h
      rcases h with h | ⟨-, h⟩
      · cases h
      · rw [h] at moved
        simp at moved
    · rw [e'] at moved
      rw [e] at h
      rcases h with h | ⟨-, h⟩
      · cases h
      · rw [h] at moved
        simp at moved
  · rcases start with e | ⟨e, -⟩ | ⟨e, -⟩
    · exact e
    all_goals
      rw [e] at h
      simp at h
  · have kept := congrArg Osc.working table
    exact kept.trans (congrArg Osc.working osc)
  · have kept := congrArg (fun o : Osc => settingNat o.inUse 28 == 1) table
    exact kept.trans (congrArg (fun o : Osc => settingNat o.inUse 28 == 1) osc)
  · exact (get Frg.regime fun _ _ _ _ _ _ _ _ => rfl).trans (same Frg.regime fun _ _ _ _ _ _ _ => rfl)
  · exact (get Frg.cutout fun _ _ _ _ _ _ _ _ => rfl).trans (same Frg.cutout fun _ _ _ _ _ _ _ => rfl)
  · exact (get Frg.margin fun _ _ _ _ _ _ _ _ => rfl).trans margin.symm
  · exact (get Frg.exhausted fun _ _ _ _ _ _ _ _ => rfl).trans (same Frg.exhausted fun _ _ _ _ _ _ _ => rfl)
  · exact (get Frg.imbalance fun _ _ _ _ _ _ _ _ => rfl).trans (same Frg.imbalance fun _ _ _ _ _ _ _ => rfl)

/-- A load that triggers: the defrost is in progress at the end of the evaluation, and at rest above a lower demand it runs. -/
theorem State.evaluateFrost_triggered (hd : s.osc.device = .running) (hp : s.frg.defrost.phase = .idle)
    (hl : s.setting 32 ≤ s.evaluateFrost.frg.load) :
    s.evaluateFrost.frg.request = 0 ∧ s.evaluateFrost.frg.defrost.phase.inProgress = true
      ∧ (∀ act, s.atRest → 0 < s.setting 32 → s.arb.table.defrost = none → s.arb.active = some act →
        s.arb.level act < 13 → ∃ d, s.evaluateFrost.DefrostStands True True (.flows 0 (s.setting 11)) d ∧ d.phase = .running
          ∧ d.started = true ∧ d.elapsed = 0 ∧ d.count = min (s.frg.defrost.count + 1) 65535) := by
  obtain ⟨a, ha⟩ : ∃ a, a = s.evaluateMargin.loaded := ⟨_, rfl⟩
  obtain ⟨osc, arb, flt, frg, load, -⟩ := s.evaluated_frame ha
  have loaded : a.defrostTrigger.confirmEntry = s.evaluateMargin.evaluateLoad := by rw [ha]; rfl
  have defrost : a.frg.defrost = s.frg.defrost := by
    rw [← frg]
  have high : a.setting 32 ≤ a.frg.load := by
    rw [← load, State.setting, osc]
    exact hl
  have device : a.osc.device = .running := by rw [osc, hd]
  have idle : a.frg.defrost.phase = .idle := by rw [defrost, hp]
  have progress := State.evaluateLoad_inProgress (.inr ⟨idle, device, high⟩)
  rw [loaded] at progress
  obtain ⟨-, request, -⟩ := s.evaluateFrost_request rfl rfl
  have forced : s.evaluateMargin.evaluateLoad.requestForced = true := by
    by_contra no
    rcases (State.requestForced_false.mp (by simpa using no)).2.2.1 with e | e <;> rw [e] at progress <;> cases progress
  rw [forced] at request
  refine ⟨request, State.evaluateFrost_inProgress progress, fun act rest pos free active above => ?_⟩
  have resting : a.atRest := by
    unfold State.atRest at rest ⊢
    rw [← frg] at rest
    rwa [flt]
  obtain ⟨stands, phase, started, elapsed, count⟩ := State.defrostTrigger_starts idle device high resting
    (by rw [arb]; exact free) (by rw [arb]; exact active) (by rw [arb]; exact above) rfl
  have kept : a.defrostTrigger.frg.load = a.frg.load :=
    (SettledFrom.defrostTrigger a).frost_get Frg.load fun _ _ _ _ _ _ _ _ => rfl
  have calm : a.defrostTrigger.confirmEntry = a.defrostTrigger := by
    rw [State.confirmEntry_eq]
    refine if_neg fun c => ?_
    have none := c.2.1
    rw [kept, ← load] at none
    omega
  have setting : a.setting 11 = s.setting 11 := by rw [State.setting, osc]; rfl
  rw [setting] at stands
  rw [defrost] at count
  exact ⟨_, stands.evaluated (calm.symm.trans loaded), phase, started, elapsed, count⟩

/-! ### The imbalance -/

theorem nextImbalance_capped {count imbalance limit : Nat} {m mPre : Int} {x : Bool} (h : 0 < imbalance) {r : Nat × Nat}
    (hr : r = nextImbalance count imbalance limit m mPre x) : r.1 = count
      ∧ (m < 0 → r.2 = min (imbalance + 5) limit) ∧ (0 ≤ m → mPre ≤ m → r.2 = imbalance - 5)
      ∧ (0 ≤ m → m < mPre → r.2 = imbalance) := by
  rw [hr, nextImbalance, if_neg (by omega)]
  by_cases neg : m < 0
  · rw [if_pos neg]
    exact ⟨rfl, fun _ => rfl, fun h => absurd h (by omega), fun h => absurd h (by omega)⟩
  · rw [if_neg neg]
    by_cases up : mPre ≤ m
    · rw [if_pos up]
      exact ⟨rfl, fun h => absurd h neg, fun _ _ => rfl, fun _ h => absurd h (by omega)⟩
    · rw [if_neg up]
      exact ⟨rfl, fun h => absurd h neg, fun _ h => absurd h up, fun _ _ => rfl⟩

theorem nextImbalance_free {count limit : Nat} {m mPre : Int} {x : Bool} {r : Nat × Nat}
    (hr : r = nextImbalance count 0 limit m mPre x) : (0 ≤ m ∨ x = false → r = (0, 0))
      ∧ (m < 0 → x = true → (2 ≤ count → r = (0, min 5 limit)) ∧ (count < 2 → r = (count + 1, 0))) := by
  rw [hr, nextImbalance, if_pos rfl]
  refine ⟨fun h => if_neg fun c => ?_, fun neg hx => ⟨fun h => ?_, fun h => ?_⟩⟩
  · rcases h with h | h
    · exact absurd c.1 (by omega)
    · exact absurd (h.symm.trans c.2) nofun
  · rw [if_pos ⟨neg, hx⟩]
    exact if_pos (by omega)
  · rw [if_pos ⟨neg, hx⟩]
    exact if_neg (by omega)

theorem State.heaterExhausted_iff : s.heaterExhausted = true ↔ s.frg.request = 1000 ∨ s.heaterFitted = false
    ∨ s.frg.cutout = .opened ∨ 0 < s.frg.request ∧ s.frg.applied = 0 := by
  simp [State.heaterExhausted, or_assoc]

end Steps

end Sys2Proof.Machine

/-- Settles O38. -/
theorem frostEvaluationActs : Obligations.FrostEvaluationActs := by
  intro s hz ht
  obtain ⟨e, he⟩ : ∃ e, e = s.updFrg fun g => { g with evalTimer := g.evalTimer - 10 } := ⟨_, rfl⟩
  have row : exec .frostEvaluation s = .next e.evaluateFrost := he ▸ exec_frostEvaluation_due hz ht
  have osc : e.osc = s.osc := by rw [he]; rfl
  have arb : e.arb = s.arb := by rw [he]; rfl
  have defrost : e.frg.defrost = s.frg.defrost := by rw [he]; rfl
  have regime : e.frg.regime = s.frg.regime := by rw [he]; rfl
  have cutout : e.frg.cutout = s.frg.cutout := by rw [he]; rfl
  have exhausted : e.frg.exhausted = s.frg.exhausted := by rw [he]; rfl
  have imbalance : e.frg.imbalance = s.frg.imbalance := by rw [he]; rfl
  have rest (h : s.atRest) : e.atRest := by rw [he]; exact h
  have timer : e.frg.evalTimer = s.frg.evalTimer - 10 := by rw [he]; rfl
  have fitted : e.inUse 28 = s.inUse 28 := by rw [State.inUse, osc]; rfl
  have setting (i : Nat) : e.setting i = s.setting i := by rw [State.setting, osc]; rfl
  clear he
  refine ⟨_, row, e.evaluateFrost_evalTimer.trans timer, fun h => ?_, fun hd hm hh hp => ?_, fun hd hp hl => ?_,
    fun hd => ?_, fun hd => ?_⟩
  · refine State.evaluateFrost_forced ?_
    rw [osc, arb, fitted, defrost, DefrostPhase.inProgress_iff]
    exact h
  · have computed := State.evaluateFrost_computed (s := e) (by rw [osc, hd]) (by rw [arb, hm]) (by rw [fitted, hh])
      (by rw [defrost, setting]; exact hp)
    rwa [regime, osc] at computed
  · obtain ⟨request, progress, starts⟩ := State.evaluateFrost_triggered (s := e) (by rw [osc, hd]) (by rw [defrost, hp])
      (by rw [setting]; exact hl)
    obtain ⟨idle, lockout⟩ := DefrostPhase.inProgress_iff.mp progress
    refine ⟨request, idle, lockout, fun act calm pos free active above => ?_⟩
    obtain ⟨d, stands, phase, started, elapsed, count⟩ := starts act (rest calm) (by rw [setting]; exact pos)
      (by rw [arb]; exact free) (by rw [arb]; exact active) (by rw [arb]; exact above)
    obtain ⟨record, -⟩ := stands.record trivial
    have slot := stands.slot
    rw [setting] at slot
    rw [defrost] at count
    exact ⟨by rw [record, phase], by rw [record, started], by rw [record, elapsed], by rw [record, count],
      stands.active trivial trivial, slot⟩
  · obtain ⟨c, device, -, working, heater, regime', cutout', margin, exhausted', imbalance', request, e1, e2⟩ :=
      e.evaluateFrost_balance
    rw [osc] at device
    have acts : c.osc.device.balances := by
      rw [device hd]
      rcases hd with h | ⟨h | h, -⟩
      · exact .inl h
      · exact .inr (.inl h)
      · exact .inr (.inr h)
    have table (i : Nat) : c.setting i = s.setting i := by rw [State.setting, working, osc]; rfl
    rw [osc] at working
    rw [regime] at regime'
    rw [cutout] at cutout'
    rw [exhausted] at exhausted'
    rw [imbalance] at imbalance'
    rw [fitted] at heater
    generalize e.evaluateFrost = t at *
    refine ⟨fun hr => ?_, fun m hr hm => ?_⟩
    · obtain ⟨h1, h2⟩ := State.evaluateImbalance_fixed acts (regime'.trans hr)
      exact ⟨by rw [e2, h1, table], by rw [e1, h2]⟩
    · have next := State.evaluateImbalance_measured acts (by rwa [regime']) (margin.trans hm)
      rw [← e1, ← e2, exhausted', imbalance', table, working] at next
      refine ⟨fun pos => nextImbalance_capped pos next, fun zero => ?_⟩
      rw [zero] at next
      obtain ⟨stays, counts⟩ := nextImbalance_free next
      refine ⟨fun warm => Prod.mk.inj (stays (.inl warm)), fun cold spent => ?_, fun cold fit closed off => ?_⟩
      · have exhausted : c.heaterExhausted = true := by
          rw [State.heaterExhausted_iff, heater, cutout', request]
          rcases spent with h | h | h
          · exact .inr (.inl (by simpa using h))
          · exact .inr (.inr (.inl h))
          · exact .inl h
        obtain ⟨third, earlier⟩ := counts cold exhausted
        exact ⟨fun h => Prod.mk.inj (third h), fun h => Prod.mk.inj (earlier h)⟩
      · have able : c.heaterExhausted = false := by
          by_contra no
          rw [Bool.not_eq_false, State.heaterExhausted_iff, heater, cutout', request, off, fit, closed] at no
          simp at no
        exact Prod.mk.inj (stays (.inr able))
  · obtain ⟨c, -, device, -, -, -, -, -, exhausted', imbalance', -, e1, e2⟩ := e.evaluateFrost_balance
    rw [osc] at device
    rw [State.evaluateImbalance_rests (by rw [device hd]; exact hd)] at e1 e2
    exact ⟨by rw [e2, imbalance', imbalance], by rw [e1, exhausted', exhausted]⟩

end

section
/-! CLEAR_FLAGS: the flags that a list of codes names, the release of FAILED paths and the flags that stand. -/

open Sys2Proof Sys2Proof.Machine

namespace Sys2Proof.Machine

/-! ### The flags that a request names -/

section Named

/-- A list of optional values: none where one of them is missing, else all of them. -/
theorem mapM_option {α β : Type} (f : α → Option β) (l : List α) : (l.mapM f = none ↔ ∃ x ∈ l, f x = none)
    ∧ ∀ r, l.mapM f = some r → ∀ y, y ∈ r ↔ ∃ x ∈ l, f x = some y := by
  induction l with
  | nil =>
    refine ⟨by simp, fun r hr y => ?_⟩
    obtain rfl : [] = r := by simpa using hr
    simp
  | cons x l ih =>
    obtain ⟨missing, held⟩ := ih
    rw [List.mapM_cons]
    cases hx : f x with
    | none => exact ⟨by simp [hx], by simp⟩
    | some v =>
      cases hl : l.mapM f with
      | none =>
        obtain ⟨z, hz, lacks⟩ := missing.mp hl
        exact ⟨⟨fun _ => ⟨z, by simp [hz], lacks⟩, fun _ => rfl⟩, by simp⟩
      | some t =>
        have present : ∀ z ∈ l, f z ≠ none := fun z hz e => by
          have := missing.mpr ⟨z, hz, e⟩
          rw [hl] at this
          cases this
        refine ⟨⟨by simp, fun ⟨z, hz, lacks⟩ => ?_⟩, fun r hr y => ?_⟩
        · rcases List.mem_cons.mp hz with rfl | hz
          · rw [hx] at lacks
            cases lacks
          · exact absurd lacks (present z hz)
        · obtain rfl : v :: t = r := by simpa using hr
          rw [List.mem_cons, held t hl y]
          simp [hx, eq_comm]

theorem flagOfCode_eq (n : Nat) (g : Flag) : flagOfCode n = some g ↔ n = g.code := by
  constructor
  · intro h
    unfold flagOfCode at h
    split at h
    · cases h
    · next h0 =>
      have bound : n - 1 < 19 := by
        have := (List.getElem?_eq_some_iff.mp h).1
        exact this
      obtain ⟨m, rfl⟩ : ∃ m, n = m + 1 := ⟨n - 1, by omega⟩
      have small : m < 19 := bound
      rw [Nat.add_sub_cancel] at h
      interval_cases m <;> (cases h; rfl)
  · rintro rfl
    cases g <;> rfl

theorem flagOfCode_none (n : Nat) : flagOfCode n = none ↔ n = 0 ∨ 19 < n := by
  unfold flagOfCode
  split
  · next h => simp [h]
  · next h =>
    rw [List.getElem?_eq_none_iff]
    have length : allFlags.length = 19 := rfl
    rw [length]
    omega

theorem clearFlags_fits {c : Byte} {codes : List Byte} (fits : RequestKind.clearFlags.lengthFits (c :: codes) = true) :
    c = 255 ∧ codes = [] ∨ c ≠ 255 ∧ codes.length = c.toNat := by
  have fits : (if c = 255 then codes.isEmpty else decide (c.toNat ≤ 19) && codes.length == c.toNat) = true := fits
  split at fits
  · next h => exact .inl ⟨h, List.isEmpty_iff.mp fits⟩
  · next h => exact .inr ⟨h, beq_iff_eq.mp (Bool.and_eq_true _ _ ▸ fits).2⟩

/-- A list with a code that names no flag names none. -/
theorem namedFlags_none {c : Byte} {codes : List Byte} (fits : RequestKind.clearFlags.lengthFits (c :: codes) = true)
    (h : c = 0 ∨ ∃ b ∈ codes, b = 0 ∨ 19 < b.toNat) : namedFlags (c :: codes) = none := by
  unfold namedFlags
  rcases clearFlags_fits fits with ⟨hc, he⟩ | ⟨hc, he⟩
  · subst hc he
    rcases h with h | ⟨b, hb, -⟩
    · exact absurd h (by decide)
    · cases hb
  · dsimp only
    rw [if_neg hc]
    split
    · rfl
    · next hn =>
      refine (mapM_option _ _).1.mpr ?_
      rcases h with h | ⟨b, hb, bad⟩
      · subst h
        exact absurd (List.length_eq_zero_iff.mp he) hn
      · refine ⟨b, hb, (flagOfCode_none _).mpr (bad.imp_left fun e => ?_)⟩
        rw [e]
        rfl

theorem namedFlags_some {c : Byte} {codes : List Byte} (fits : RequestKind.clearFlags.lengthFits (c :: codes) = true)
    (hc : c ≠ 0) (h : ∀ b ∈ codes, b ≠ 0 ∧ b.toNat ≤ 19) : ∃ l, namedFlags (c :: codes) = some l
      ∧ ∀ g : Flag, g ∈ l ↔ c = 255 ∨ ∃ b ∈ codes, b.toNat = g.code := by
  unfold namedFlags
  rcases clearFlags_fits fits with ⟨all, -⟩ | ⟨listed, he⟩
  · exact ⟨allFlags, if_pos all, fun g => ⟨fun _ => .inl all, fun _ => mem_allFlags g⟩⟩
  · have filled : codes ≠ [] := by
      rintro rfl
      exact hc (BitVec.eq_of_toNat_eq he.symm)
    obtain ⟨missing, held⟩ := mapM_option (fun b : Byte => flagOfCode b.toNat) codes
    dsimp only
    rw [if_neg listed, if_neg filled]
    cases hl : codes.mapM fun b => flagOfCode b.toNat with
    | none =>
      obtain ⟨b, hb, lacks⟩ := missing.mp hl
      obtain ⟨pos, low⟩ := h b hb
      rcases (flagOfCode_none _).mp lacks with e | e
      · exact absurd (BitVec.eq_of_toNat_eq e) pos
      · exact absurd e (Nat.not_lt.mpr low)
    | some l =>
      refine ⟨l, rfl, fun g => (held l hl g).trans ?_⟩
      simp only [flagOfCode_eq, listed, false_or]

theorem FlagSet.get_putAll (f : FlagSet) (l : List Flag) (v : Bool) (g : Flag) :
    (f.putAll l v).get g = if g ∈ l then v else f.get g := by
  induction l generalizing f with
  | nil => rfl
  | cons x l ih =>
    refine (ih (f.put x v)).trans ?_
    rw [FlagSet.get_put]
    by_cases hl : g ∈ l
    · simp [hl]
    · by_cases hx : g = x <;> simp [hl, hx]

end Named

/-! ### The release of a path -/

section Released

variable {s t : State} {i j : PathId}

theorem FanPath.serve_failed_iff {p : FanPath} {v : Serve} : (p.serve v).state = .failed ↔ p.state = .failed := by
  refine ⟨fun h => ?_, fun h => (FanPath.serve_failed h).1⟩
  cases hm : v.manual with
  | none =>
    rw [FanPath.serve_target hm, FanPath.lapse_state] at h
    unfold FanPath.serveTarget FanPath.toOff FanPath.toSpinup at h
    cases e : p.state <;> simp only [e] at h <;> grind
  | some d =>
    rw [FanPath.serve_manual hm, FanPath.lapse_state] at h
    unfold FanPath.serveManual FanPath.toOff FanPath.toSpinup at h
    cases e : p.state <;> simp only [e] at h <;> grind

/-- A path that moves reaches AFC and the notices. -/
structure State.Moved (s t : State) : Prop where
  settled : SettledFrom [] { s with afc := t.afc } t
  osc : t.osc = s.osc
  frg : t.frg = s.frg
  hum : t.hum = s.hum
  flt : t.flt = s.flt
  dio : t.dio = s.dio

theorem State.Moved.refl (s : State) : s.Moved s := ⟨.refl _ _, rfl, rfl, rfl, rfl, rfl⟩

theorem State.Moved.trans {u : State} (h : s.Moved t) (g : t.Moved u) : s.Moved u :=
  ⟨(h.settled.onAfc u.afc).next g.settled, g.osc.trans h.osc, g.frg.trans h.frg, g.hum.trans h.hum, g.flt.trans h.flt,
    g.dio.trans h.dio⟩

theorem State.Moved.movePath (s : State) (i : PathId) (p : FanPath) : s.Moved (s.movePath i p) := by
  unfold State.movePath
  dsimp only
  split
  · exact ⟨.refl _ _, rfl, rfl, rfl, rfl, rfl⟩
  · have raised := SettledFrom.raise (s.updAfc (·.setPath i p)) .fanState (pathCode i) p.state.code
    have afc := State.raise_afc (s.updAfc (·.setPath i p)) .fanState (pathCode i) p.state.code
    refine ⟨?_, by simp, by simp, by simp, by simp, by simp⟩
    rw [afc]
    exact raised

/-- The release of a path: a FAILED one is released with its retry count at 0 (R40), and the other stays. -/
theorem State.releaseFor_released (s : State) (was : FlagSet) (named : List Flag) (i : PathId)
    (ht : t = s.releaseFor was named i) : s.Moved t ∧ (∀ j, j ≠ i → t.afc.path j = s.afc.path j)
      ∧ (was.get (stallFlag i) = true → stallFlag i ∈ named → (t.afc.path i).state ≠ .failed
        ∧ ((s.afc.path i).state = .failed → (t.afc.path i).retryCount = 0))
      ∧ (¬(was.get (stallFlag i) = true ∧ stallFlag i ∈ named) → t = s) := by
  have cond : (was.get (stallFlag i) && named.contains (stallFlag i)) = true
      ↔ was.get (stallFlag i) = true ∧ stallFlag i ∈ named := by simp
  by_cases hc : was.get (stallFlag i) = true ∧ stallFlag i ∈ named
  · have shown : t = s.releasePath i := ht.trans (if_pos (cond.mpr hc))
    by_cases failed : (s.afc.path i).state = .failed
    · have moved : t = s.movePath i (if 0 < s.driveRequest i then
          { s.afc.path i with retryCount := 0 }.toSpinup (s.setting 22) else { s.afc.path i with retryCount := 0 }.toOff) :=
        shown.trans (if_pos failed)
      refine ⟨moved ▸ .movePath s i _, fun j hj => ?_, fun _ _ => ?_, fun no => absurd hc no⟩
      · rw [moved, State.movePath_afc, Afc.path_setPath_ne _ hj]
      · rw [moved, State.movePath_afc, Afc.path_setPath]
        split
        · exact ⟨nofun, fun _ => rfl⟩
        · exact ⟨nofun, fun _ => rfl⟩
    · have same : t = s := shown.trans (if_neg failed)
      rw [same]
      exact ⟨.refl s, fun _ _ => rfl, fun _ _ => ⟨failed, fun h => absurd h failed⟩, fun _ => rfl⟩
  · have same : t = s := ht.trans (if_neg fun c => hc (cond.mp c))
    rw [same]
    exact ⟨.refl s, fun _ _ => rfl, fun h1 h2 => absurd ⟨h1, h2⟩ hc, fun _ => rfl⟩

theorem SettledFrom.ownAfcSup {l : List Slot} {b : Afc} {v : Sup} (h : SettledFrom l { s with afc := b, sup := v } t) :
    SettledFrom l { s with afc := t.afc, sup := t.sup } t :=
  { h with
    paths := fun _ => ⟨rfl, rfl, rfl, rfl, rfl, rfl, rfl, rfl⟩
    flags := fun _ _ _ => rfl
    flagsStay := fun _ => id
    capture := fun _ => rfl
    owner := rfl }

theorem State.standing_same (hfrg : t.frg = s.frg) (hhum : t.hum = s.hum) (hflt : t.flt = s.flt) (hdio : t.dio = s.dio)
    {g : Flag} (h1 : g ≠ .stallSupply) (h2 : g ≠ .stallExtract) : t.standing g = s.standing g := by
  unfold State.standing
  cases g with
  | stallSupply => exact absurd rfl h1
  | stallExtract => exact absurd rfl h2
  | _ => simp only [hfrg, hhum, hflt, hdio]

theorem State.standing_stall (s : State) (i : PathId) :
    s.standing (stallFlag i) = true ↔ (s.afc.path i).state = .failed := by
  cases i <;> exact beq_iff_eq

/-- What CLEAR_FLAGS makes of the flags and the paths (R156). -/
structure State.Cleared (s : State) (named : List Flag) (t : State) : Prop where
  settled : SettledFrom [] { s with afc := t.afc, sup := t.sup } t
  capture : t.sup.capture = s.sup.capture ∨ s.sup.capture = none
  owner : t.sup.owner = s.sup.owner
  flags : ∀ g, g ≠ .runOnCut → g ≠ .noticesLost → t.sup.flags.get g = if g ∈ named then t.standing g else s.sup.flags.get g
  standing : ∀ g, g ≠ .stallSupply → g ≠ .stallExtract → t.standing g = s.standing g
  released : ∀ i, s.sup.flags.get (stallFlag i) = true → stallFlag i ∈ named → (t.afc.path i).state ≠ .failed
    ∧ ((s.afc.path i).state = .failed → (t.afc.path i).retryCount = 0)
  stays : ∀ i, ¬(s.sup.flags.get (stallFlag i) = true ∧ stallFlag i ∈ named) → t.afc.path i = s.afc.path i

theorem State.clearFlags_cleared (s : State) (named : List Flag) : s.Cleared named (s.clearFlags named) := by
  obtain ⟨w, hw⟩ : ∃ w, w = s.updSup fun u => { u with flags := u.flags.putAll named false } := ⟨_, rfl⟩
  obtain ⟨v, hv⟩ : ∃ v, v = w.releaseFor s.sup.flags named .supply := ⟨_, rfl⟩
  obtain ⟨x, hx⟩ : ∃ x, x = v.releaseFor s.sup.flags named .extract := ⟨_, rfl⟩
  have shown : s.clearFlags named = x.updSup fun u => { u with flags := u.flags.putAll (named.filter x.standing) true } := by
    rw [hx, hv, hw]
    rfl
  obtain ⟨moved1, other1, free1, same1⟩ := State.releaseFor_released w s.sup.flags named .supply hv
  obtain ⟨moved2, other2, free2, same2⟩ := State.releaseFor_released v s.sup.flags named .extract hx
  have moved := moved1.trans moved2
  have afc : w.afc = s.afc := by rw [hw]; rfl
  have frg : x.frg = s.frg := by rw [moved.frg, hw]; rfl
  have hum : x.hum = s.hum := by rw [moved.hum, hw]; rfl
  have flt : x.flt = s.flt := by rw [moved.flt, hw]; rfl
  have dio : x.dio = s.dio := by rw [moved.dio, hw]; rfl
  have flags := moved.settled.flags
  have capture := moved.settled.capture
  have owner := moved.settled.owner
  have blocks (b : Sup) : SettledFrom [] { s with afc := x.afc, sup := b } { x with sup := b } := by
    have onto := moved.settled.onSup b
    rw [hw] at onto
    exact onto
  rw [shown]
  clear shown moved hx hv
  obtain ⟨c, hc⟩ : ∃ c, c = x.updSup fun u => { u with flags := u.flags.putAll (named.filter x.standing) true } := ⟨_, rfl⟩
  have standing (g : Flag) : c.standing g = x.standing g := by
    rw [hc]
    cases g <;> rfl
  have cafc : c.afc = x.afc := by rw [hc]; rfl
  have path1 : x.afc.path .supply = v.afc.path .supply := other2 .supply (by decide)
  have path2 : v.afc.path .extract = w.afc.path .extract := other1 .extract (by decide)
  rw [← hc]
  refine ⟨?_, ?_, ?_, fun g h1 h2 => ?_, fun g h1 h2 => ?_, fun i h1 h2 => ?_, fun i h => ?_⟩
  · rw [cafc]
    have onto := blocks c.sup
    have same : { x with sup := c.sup } = c := by rw [hc]; rfl
    rwa [same] at onto
  · have kept : c.sup.capture = x.sup.capture := by rw [hc]; rfl
    have was : w.sup.capture = s.sup.capture := by rw [hw]; rfl
    by_cases armed : s.sup.capture = none
    · exact .inr armed
    · exact .inl (kept.trans ((capture (by rwa [← was] at armed)).trans was))
  · have kept : c.sup.owner = x.sup.owner := by rw [hc]; rfl
    refine kept.trans (owner.trans ?_)
    rw [hw]
    rfl
  · have set : c.sup.flags = x.sup.flags.putAll (named.filter x.standing) true := by rw [hc]; rfl
    have was : w.sup.flags = s.sup.flags.putAll named false := by rw [hw]; rfl
    have kept : x.sup.flags.get g = w.sup.flags.get g := flags g h1 h2
    rw [set, FlagSet.get_putAll, kept, was, FlagSet.get_putAll, standing]
    by_cases hn : g ∈ named <;> cases hs : x.standing g <;> simp [hn, hs]
  · rw [standing, State.standing_same frg hum flt dio h1 h2]
  · rw [cafc]
    cases i with
    | supply =>
      rw [path1]
      obtain ⟨state, retry⟩ := free1 h1 h2
      rw [afc] at retry
      exact ⟨state, retry⟩
    | extract =>
      obtain ⟨state, retry⟩ := free2 h1 h2
      rw [path2, afc] at retry
      exact ⟨state, retry⟩
  · rw [cafc]
    cases i with
    | supply => rw [path1, same1 h, afc]
    | extract => rw [same2 h, path2, afc]

/-- The named flags that their standing condition sets again: a stall flag that was set has been released. -/
theorem State.Cleared.stands {named : List Flag} (h : s.Cleared named t) (g : Flag) :
    (named.contains g && t.standing g) = (named.contains g && s.standing g
      && !(s.sup.flags.get g && (g == .stallSupply || g == .stallExtract))) := by
  cases hn : named.contains g with
  | false => rfl
  | true =>
    have mem : g ∈ named := List.contains_iff_mem.mp hn
    have stall (i : PathId) (hi : g = stallFlag i) : t.standing g = (s.standing g && !s.sup.flags.get g) := by
      subst hi
      rw [Bool.eq_iff_iff, Bool.and_eq_true, State.standing_stall, State.standing_stall]
      cases set : s.sup.flags.get (stallFlag i) with
      | true => simp [(h.released i set mem).1]
      | false => rw [h.stays i (by simp [set])]; simp
    by_cases h1 : g = .stallSupply
    · rw [stall .supply h1, h1]
      simp
    · by_cases h2 : g = .stallExtract
      · rw [stall .extract h2, h2]
        simp
      · rw [h.standing g h1 h2]
        simp [h1, h2]

end Released

end Sys2Proof.Machine

/-- Settles O23. -/
theorem clearFlagsClears : Obligations.ClearFlagsClears := by
  intro l s f o c codes h
  refine ⟨fun ho => ?_, fun ho bad => ?_, fun ho hc sound named hnamed => ?_⟩
  · subst ho
    exact congrArg Host.Outcome.next (h.answers (requireOrigin_below (by decide)))
  · have none := namedFlags_none h.fits.1 bad
    refine congrArg Host.Outcome.next (h.answers ((requireOrigin_from (Origin.system_le ho)).trans ?_))
    rw [none]
  · obtain ⟨list, listed, member⟩ := namedFlags_some h.fits.1 hc sound
    have inList (g : Flag) : g ∈ list ↔ named g = true := (member g).trans (hnamed g).symm
    obtain ⟨t, ht⟩ : ∃ t, t = (s.handed l).clearFlags list := ⟨_, rfl⟩
    have cleared : (s.handed l).Cleared list t := ht ▸ State.clearFlags_cleared _ _
    have settled := SettledFrom.propagate t
    have paths (i : PathId) : (t.propagate.afc.path i).state = .failed ↔ (t.afc.path i).state = .failed := by
      refine ⟨fun late => ?_, fun was => ?_⟩
      · by_contra no
        exact State.propagate_path (P := fun p => p.state ≠ .failed) (fun p v hp c => hp (FanPath.serve_failed_iff.mp c)) no late
      · exact State.propagate_path (P := fun p => p.state = .failed) (fun p v hp => FanPath.serve_failed_iff.mpr hp) was
    have taken : actClearFlags (s.handed l) o (c :: codes) = (t.propagate, ⟨.ok,
        listOf (fun g : Flag => u8 g.code) (allFlags.filter t.propagate.sup.flags.get)
          ++ listOf (fun g : Flag => u8 g.code) (allFlags.filter fun g => named g && s.standing g
            && !(s.sup.flags.get g && (g == .stallSupply || g == .stallExtract)))⟩) := by
      refine (requireOrigin_from (Origin.system_le ho)).trans ?_
      rw [listed]
      dsimp only
      rw [← ht]
      refine congrArg (fun x => (t.propagate, Reply.mk .ok (flagListBytes t.propagate.sup.flags.list ++ listOf _ x)))
        (List.filter_congr fun g _ => ?_)
      have contains : list.contains g = named g := by
        rw [Bool.eq_iff_iff, List.contains_iff_mem, inList]
      have stands := cleared.stands g
      rw [contains] at stands
      rw [contains, stands]
      cases g <;> rfl
    have quiet : t.propagate.lnk.restarting = none :=
      settled.restarting.trans (cleared.settled.restarting.trans (State.handed_restarting.trans h.notRestarting))
    have row : exec (.clearFlags l) s = .next ((t.propagate.holding l f).afterReply l f o _) :=
      congrArg Host.Outcome.next (h.leads quiet taken)
    have flags (g : Flag) (h1 : g ≠ .runOnCut) (h2 : g ≠ .noticesLost) : t.propagate.sup.flags.get g
        = if named g = true then t.standing g else s.sup.flags.get g := by
      rw [settled.flags g h1 h2, cleared.flags g h1 h2]
      simp only [inList]
      rfl
    have retry (i : PathId) := (settled.paths i).2.2.2.2.2.2.2
    have capture := settled.capture
    have owner : t.propagate.sup.owner = s.sup.owner := settled.owner.trans cleared.owner
    generalize t.propagate = u at *
    have whole := (cleared.settled.next settled).ownAfcSup
    refine ⟨u.holding l f, row, fun g h1 h2 hn => ?_, fun g hg hn => ?_, fun g h1 h2 h3 h4 stand hn => ?_,
      fun i hn set => ⟨?_, fun failed => ?_⟩, ?_, owner, State.holding_nextFrame (s := { s with afc := u.afc, sup := u.sup }) h.1 whole⟩
    · exact (flags g h1 h2).trans (if_neg (by simp [hn]))
    · have plain : g ≠ .runOnCut ∧ g ≠ .noticesLost ∧ g ≠ .stallSupply ∧ g ≠ .stallExtract := by
        rcases hg with rfl | rfl | rfl | rfl <;> decide
      obtain ⟨h1, h2, h3, h4⟩ := plain
      refine (flags g h1 h2).trans ((if_pos hn).trans ((cleared.standing g h3 h4).trans ?_))
      cases g <;> rfl
    · refine (flags g h1 h2).trans ((if_pos hn).trans ((cleared.standing g h3 h4).trans ?_))
      rw [← stand]
      cases g <;> rfl
    · have h1 : stallFlag i ≠ .runOnCut ∧ stallFlag i ≠ .noticesLost := by cases i <;> decide
      refine (flags _ h1.1 h1.2).trans ((if_pos hn).trans ?_)
      have free := (cleared.released i set ((inList _).mpr hn)).1
      by_contra no
      exact free ((t.standing_stall i).mp (by simpa using no))
    · obtain ⟨free, zero⟩ := cleared.released i set ((inList _).mpr hn)
      exact ⟨fun late => free ((paths i).mp late), (retry i).trans (zero failed)⟩
    · have held : s.sup.capture ≠ none → u.sup.capture.isSome = true := fun hc => by
        have kept : t.sup.capture = s.sup.capture := cleared.capture.resolve_right hc
        rw [capture (by rwa [kept]), kept]
        exact Option.isSome_iff_ne_none.mpr hc
      change u.sup.capture.isSome = (s.sup.capture.isSome || u.sup.capture.isSome)
      by_cases hc : s.sup.capture = none
      · rw [hc]
        rfl
      · rw [held hc]
        simp

end

section
/-! STANDBY accepted: what the freed slots report, and how the device settles in STANDBY or STOPPING. -/

open Sys2Proof Sys2Proof.Machine

namespace Sys2Proof.Machine

section Stopped

variable {s t : State}

/-! ### The propagation in a stopped device -/

/-- A device in STANDBY or STOPPING with BASE alone in its table, no slot on the stack and the defrost record at `d`. -/
structure State.Stopped (a : DemandTable) (d : Defrost) (t : State) : Prop where
  device : t.osc.device = .standby ∨ t.osc.device = .stopping
  table : t.arb.table = a
  stack : t.arb.stack = []
  record : t.frg.defrost = d

theorem State.Stopped.notRunning {a : DemandTable} {d : Defrost} (h : t.Stopped a d) : t.osc.device ≠ .running := by
  rcases h.device with e | e <;> rw [e] <;> decide

theorem State.Stopped.round {a : DemandTable} {d : Defrost} (hd : d.phase ≠ .prepare) (h : t.Stopped a d) :
    t.round.Stopped a d := by
  have waits {u : State} (hu : u.Stopped a d) : u.frg.defrost.phase ≠ .prepare := by rwa [hu.record]
  refine State.round_induct (P := State.Stopped a d) (fun u v same hu => ?_) (fun u hp hu => absurd hp (waits hu))
    (fun u w p f hp hu => absurd hp (waits hu)) (fun u _ hu => ?_) (fun u hp hu => ?_) (fun u hu => ?_) h
  · exact ⟨by rw [same.osc]; exact hu.device, by rw [same.arb, hu.table], by rw [same.arb, hu.stack], by rw [same.defrost, hu.record]⟩
  · refine ⟨.inl ?_, ?_, ?_, by rw [u.enterStandby_frg, hu.record]⟩
    · rw [State.enterStandby, (State.TableOnly.applyArb _).osc]
      simp
    · rw [u.enterStandby_arb]
      exact hu.table
    · rw [u.enterStandby_arb, Arb.enterStandby, hu.stack]
      rfl
  · rcases hu.device with e | e <;> rw [e] at hp <;> cases hp
  · rw [State.startTest_stopped hu.notRunning]
    exact ⟨hu.device, hu.table, hu.stack, hu.record⟩

theorem State.Stopped.propagate {a : DemandTable} {d : Defrost} (hd : d.phase ≠ .prepare) (h : t.Stopped a d) :
    t.propagate.Stopped a d := by
  refine State.propagate_rounds (P := State.Stopped a d) (fun u hu => ?_) (fun _ hu => hu.round hd) h
  have same := State.SameTable.of_rests (.deriveStage u)
  exact ⟨by rw [same.osc]; exact hu.device, by rw [same.arb, hu.table], by rw [same.arb, hu.stack], by rw [same.defrost, hu.record]⟩

/-- Outside RUNNING the propagation forces the heater request to 0 (R56). -/
theorem State.propagate_forced (h : s.osc.device ≠ .running) : s.propagate.frg.request = 0 := by
  have round (t : State) (ht : t.osc.device ≠ .running) : t.stagedRound.osc.device ≠ .running ∧ t.stagedRound.frg.request = 0 := by
    have forced : t.requestForced = true := by simp [State.requestForced, ht]
    have off : t.round.frg.request = 0 := by
      rw [t.round_heater.1, State.forceRequest, if_pos forced]
      rfl
    have settled := SettledFrom.stagedRound t
    have rests := State.Rests.deriveStage t.round
    refine ⟨fun late => ?_, by rw [State.stagedRound, rests.frg]; exact off⟩
    rcases settled.device with e | ⟨-, e⟩ | ⟨-, e⟩
    · exact ht (e.symm.trans late)
    · exact absurd (e.symm.trans late) nofun
    · exact absurd (e.symm.trans late) nofun
  have start : s.deriveStage.osc.device ≠ .running := by rwa [(State.Rests.deriveStage s).osc]
  have third := (round _ (round _ (round _ start).1).1).1
  unfold State.propagate
  exact (round _ third).2

/-- In STOPPING with no path lost and FIRE not active the run-on goes on: the device stays in STOPPING, its table as it is. -/
theorem State.propagate_stopping (hd : s.osc.device = .stopping) (hf : s.arb.active ≠ some .fire)
    (hp : s.frg.defrost.phase ≠ .prepare) (h : ∀ i, (s.afc.path i).state ≠ .stalled ∧ (s.afc.path i).state ≠ .failed) :
    s.propagate.osc.device = .stopping ∧ s.propagate.arb = s.arb := by
  refine (State.propagate_rounds (P := fun t => (t.osc.device = .stopping ∧ t.arb = s.arb)
    ∧ ∀ i, (t.afc.path i).state ≠ .stalled ∧ (t.afc.path i).state ≠ .failed) (fun t ht => ?_) (fun t ht => ?_) ⟨⟨hd, rfl⟩, h⟩).1
  · have rests := State.Rests.deriveStage t
    rwa [rests.osc, rests.arb, State.deriveStage_afc]
  · obtain ⟨⟨device, arb⟩, paths⟩ := ht
    have served (i : PathId) : (t.forceRequest.serveFans.afc.path i).state ≠ .stalled
        ∧ (t.forceRequest.serveFans.afc.path i).state ≠ .failed := by
      obtain ⟨v, eq⟩ := t.forceRequest.serveFans_path i
      rw [eq, State.forceRequest_afc]
      obtain ⟨h1, h2⟩ := paths i
      exact ⟨fun e => (FanPath.serve_lost (.inl e)).elim h1 h2, fun e => (FanPath.serve_lost (.inr e)).elim h1 h2⟩
    have same := ((State.SameTable.forceRequest t).trans (.of_rests (.serveFans _))).trans (.deriveDuty _)
    have afc := State.deriveDuty_afc t.forceRequest.serveFans
    unfold State.round
    generalize t.forceRequest.serveFans.deriveDuty = u at *
    have uncut : u.cutRunOn = u := by
      have calm : u.cutCondition = none := State.cutCondition_none.mpr
        ⟨by rw [same.osc, device]; decide, by rw [same.osc, device]; decide, by rw [same.arb, arb]; exact hf,
          fun i => by rw [afc]; exact served i⟩
      unfold State.cutRunOn
      rw [calm]
    rw [uncut, State.startTest_stopped (by rw [same.osc, device]; decide)]
    refine ⟨⟨by rw [← device, ← same.osc], by rw [← arb, ← same.arb]⟩, fun i => ?_⟩
    have path := served i
    rw [← afc] at path
    exact path

end Stopped

section Accepted

variable {s t : State}

/-! ### The reports of freed slots -/

/-- A check in flight whose slot STANDBY frees ends DEFERRED (R133). -/
theorem State.takeReports_deferred {l : List Report} (hl : ∀ q ∈ l, q.kind = .freedByStandby)
    (h : s.flt.check.phase ≠ .idle ∧ ⟨.freedByStandby, .filterCheck⟩ ∈ l
      ∨ s.flt.check.phase = .idle ∧ s.flt.check.outcome = some .deferred) :
    (l.foldl State.takeReport s).flt.check.phase = .idle
      ∧ (l.foldl State.takeReport s).flt.check.outcome = some .deferred := by
  induction l generalizing s with
  | nil => exact h.elim (fun ⟨_, h⟩ => absurd h (by simp)) id
  | cons q l ih =>
    refine ih (fun x hx => hl x (by simp [hx])) ?_
    obtain ⟨k, x⟩ := q
    obtain rfl : k = .freedByStandby := hl ⟨k, x⟩ (by simp)
    by_cases hx : x = .filterCheck
    · subst hx
      right
      change s.checkFreedByStandby.flt.check.phase = .idle ∧ s.checkFreedByStandby.flt.check.outcome = some .deferred
      unfold State.checkFreedByStandby
      rcases h with ⟨flies, -⟩ | ⟨ended, outcome⟩
      · rw [if_neg flies, State.raiseFilterResult, State.raise_flt]
        exact ⟨rfl, rfl⟩
      · rw [if_pos ended]
        exact ⟨ended, outcome⟩
    · have same : (s.takeReport ⟨.freedByStandby, x⟩).flt = s.flt := by
        cases x with
        | filterCheck => exact absurd rfl hx
        | _ => rfl
      rw [same]
      refine h.imp_left fun ⟨flies, mem⟩ => ⟨flies, ?_⟩
      rcases List.mem_cons.mp mem with e | e
      · exact absurd (congrArg Report.slot e).symm hx
      · exact e

/-- What the acceptance of STANDBY makes of the state, before its consequences (R23, R79, R189). -/
def State.standbyTaken (s : State) : State :=
  (((s.updSup fun u => { u with owner := none }).applyArb (s.arb.clearForStandby s.heaterIdle)).updDefrost
    Defrost.standby).setDevice (if s.heaterIdle then .standby else .stopping)

theorem State.acceptStandby_eq (s : State) : s.acceptStandby = s.standbyTaken.propagate := rfl

theorem State.standbyTaken_table (s : State) : s.standbyTaken.arb = (s.arb.clearForStandby s.heaterIdle).1 := by
  rw [State.standbyTaken, State.setDevice_arb]
  exact State.applyArb_standby (s := s.updSup fun u => { u with owner := none }) _

theorem State.standbyTaken_device (s : State) :
    s.standbyTaken.osc = { s.osc with device := if s.heaterIdle then .standby else .stopping } := by
  rw [State.standbyTaken, State.setDevice_osc]
  have osc := (State.TableOnly.applyArb (s := s.updSup fun u => { u with owner := none })
    (s.arb.clearForStandby s.heaterIdle)).osc
  exact congrArg (fun o : Osc => { o with device := if s.heaterIdle then .standby else .stopping }) osc

theorem Arb.clearForStandby_kind (a : Arb) (b : Bool) : ∀ q ∈ (a.clearForStandby b).2, q.kind = .freedByStandby := by
  intro q hq
  obtain ⟨x, -, rfl⟩ := List.mem_map.mp hq
  rfl

theorem State.standbyTaken_frg (s : State) : s.standbyTaken.frg = { s.frg with defrost := s.frg.defrost.standby } := by
  have frg : ((s.updSup fun u => { u with owner := none }).applyArb (s.arb.clearForStandby s.heaterIdle)).frg = s.frg :=
    State.applyArb_frg fun q hq _ => by 
      rw [s.arb.clearForStandby_kind _ q hq]
      generalize (s.updSup fun u => { u with owner := none }).frg.defrost.phase = p
      cases p <;> rfl
  rw [State.standbyTaken, State.setDevice_frg, State.updDefrost, State.updFrg_frg, frg]

theorem State.standbyTaken_afc (s : State) : s.standbyTaken.afc = s.afc := by
  have afc := (State.TableOnly.applyArb (s := s.updSup fun u => { u with owner := none })
    (s.arb.clearForStandby s.heaterIdle)).afc
  rw [State.standbyTaken, State.setDevice_afc]
  exact afc

theorem State.standbyTaken_owner (s : State) : s.standbyTaken.sup.owner = none := by
  have kept := (State.Reports.applyArb (s.updSup fun u => { u with owner := none })
    (s.arb.clearForStandby s.heaterIdle)).sup
  rw [State.standbyTaken, State.setDevice_sup_owner, State.updDefrost, State.updFrg_sup, kept]
  rfl

theorem State.standbyTaken_restarting (s : State) : s.standbyTaken.lnk.restarting = s.lnk.restarting := by
  have kept := (State.Reports.applyArb (s.updSup fun u => { u with owner := none })
    (s.arb.clearForStandby s.heaterIdle)).restarting
  rw [State.standbyTaken, State.setDevice, State.raise_lnk_restarting]
  exact kept

theorem State.standbyTaken_check (s : State) (h : s.flt.check.phase ≠ .idle) (hs : s.arb.table.filterCheck ≠ none) :
    s.standbyTaken.flt.check.phase = .idle ∧ s.standbyTaken.flt.check.outcome = some .deferred := by
  have held : Report.mk .freedByStandby .filterCheck ∈ (s.arb.clearForStandby s.heaterIdle).2 := by
    refine List.mem_map.mpr ⟨.filterCheck, List.mem_filter.mpr ⟨by decide, ?_⟩, rfl⟩
    have taken : s.arb.table.get .filterCheck ≠ none := hs
    simpa [Arb.isFree, Option.isSome_iff_ne_none] using taken
  have reports (v : State) (hv : v.flt = s.flt) :=
    State.takeReports_deferred (s := v) (l := (s.arb.clearForStandby s.heaterIdle).2.filter (·.slot.internal))
      (fun q hq => s.arb.clearForStandby_kind _ q (List.mem_filter.mp hq).1)
      (.inl ⟨by rwa [hv], List.mem_filter.mpr ⟨held, rfl⟩⟩)
  rw [State.standbyTaken, State.setDevice_flt, State.updDefrost, State.updFrg_flt, State.applyArb]
  refine reports _ ?_
  split
  · rfl
  · rw [State.raise_flt]
    rfl

end Accepted

end Sys2Proof.Machine

/-- Settles O27. -/
theorem standbyAccepted : Obligations.StandbyAccepted := by
  intro l s f o h
  refine ⟨fun hd => congrArg Host.Outcome.next (h.answers (if_pos hd)), fun hd ho => ?_, fun hd ho => ?_⟩
  · subst ho
    exact congrArg Host.Outcome.next (h.answers ((if_neg (not_not.mpr hd)).trans (requireOrigin_below (by decide))))
  · obtain ⟨t, ht⟩ : ∃ t, t = (s.handed l).standbyTaken := ⟨_, rfl⟩
    have taken : actStandby (s.handed l) o [] = (t.propagate, ⟨.ok, u8 (if s.heaterIdle then DevState.standby else .stopping).code⟩) := by
      refine (if_neg (not_not.mpr hd)).trans ((requireOrigin_from (Origin.system_le ho)).trans ?_)
      rw [State.acceptStandby_eq, ← ht]
      rfl
    have arb : t.arb = (s.arb.clearForStandby s.heaterIdle).1 := ht ▸ State.standbyTaken_table _
    have osc : t.osc = { s.osc with device := if s.heaterIdle then .standby else .stopping } := ht ▸ State.standbyTaken_device _
    have frg : t.frg = { s.frg with defrost := s.frg.defrost.standby } := ht ▸ State.standbyTaken_frg _
    have afc : t.afc = s.afc := ht ▸ State.standbyTaken_afc _
    have owner : t.sup.owner = none := ht ▸ State.standbyTaken_owner _
    have restarting : t.lnk.restarting = s.lnk.restarting := ht ▸ (State.standbyTaken_restarting _).trans State.handed_restarting
    have deferred (h1 : s.flt.check.phase ≠ .idle) (h2 : s.arb.table.filterCheck ≠ none) :=
      State.standbyTaken_check (s.handed l) h1 h2
    rw [← ht] at deferred
    clear ht
    have waits : s.frg.defrost.standby.phase ≠ .prepare := s.frg.defrost.standby_cases.1
    have device : t.osc.device = if s.heaterIdle then .standby else .stopping := by rw [osc]
    have stopped : t.Stopped (s.arb.clearForStandby s.heaterIdle).1.table s.frg.defrost.standby := by
      refine ⟨?_, by rw [arb], by rw [arb]; rfl, by rw [frg]⟩
      rw [device]
      split
      · exact .inl rfl
      · exact .inr rfl
    have settled := SettledFrom.propagate t
    have after := stopped.propagate waits
    have request := State.propagate_forced stopped.notRunning
    have straight := State.propagate_standby (s := t)
    have stays := State.propagate_stopping (s := t)
    have ended (hp : t.flt.check.phase = .idle) := (State.CheckEnded.propagate hp (.inr (.inl stopped.notRunning))).check
    have quiet : t.propagate.lnk.restarting = none := settled.restarting.trans (restarting.trans h.notRestarting)
    have row : exec (.standby l) s = .next ((t.propagate.holding l f).afterReply l f o _) :=
      congrArg Host.Outcome.next (h.leads quiet taken)
    generalize t.propagate = u at *
    refine ⟨u.holding l f, _, row, settled.owner.trans owner, fun x hx => ?_, ?_, after.stack, fun ha hr => ?_,
      fun hot free hs hf => ?_, fun h1 h2 => ?_, ?_, request, ?_, ?_, ?_⟩
    · have table : u.arb.table.get x = none := by
        rw [after.table]
        exact s.arb.clearForStandby_held _ hx
      exact table
    · have table : u.arb.table.base = s.arb.table.base := by
        rw [after.table]
        rfl
      change SameDemand _ u.arb.table.base
      rw [table]
      exact .refl _
    · have idle : s.heaterIdle = true := by simp [State.heaterIdle, ha, hr]
      rw [idle] at device arb ⊢
      obtain ⟨standby, kept⟩ := straight device (by rw [frg]; exact waits)
      rw [arb] at kept
      exact ⟨rfl, standby, congrArg Arb.active kept, congrArg Arb.queue kept⟩
    · have cooling : s.heaterIdle = false := by
        rw [State.heaterIdle, Bool.and_eq_false_iff, decide_eq_false_iff_not, decide_eq_false_iff_not]
        omega
      have sound (i : PathId) : (t.afc.path i).state ≠ .stalled ∧ (t.afc.path i).state ≠ .failed := by
        have loss := mt s.extractLoss_iff.mpr (by simp [free])
        rw [afc]
        cases i with
        | supply => exact ⟨hs, hf⟩
        | extract => exact not_or.mp loss
      rw [cooling] at device arb ⊢
      obtain ⟨stopping, kept⟩ := stays device (by rw [arb]; exact nofun) (by rw [frg]; exact waits) sound
      rw [arb] at kept
      exact ⟨rfl, stopping, congrArg Arb.active kept, congrArg Arb.queue kept⟩
    · obtain ⟨phase, outcome⟩ := deferred h1 h2
      have same : u.flt.check = t.flt.check := ended phase
      exact ⟨(congrArg Check.phase same).trans phase, (congrArg Check.outcome same).trans outcome⟩
    · refine (congrArg Defrost.phase after.record).trans ?_
      unfold Defrost.standby
      cases hp : s.frg.defrost.phase
      case idle | suspended | lockout => exact hp
      all_goals rfl
    · exact (settled.frost_get Frg.load fun _ _ _ _ _ _ _ _ => rfl).trans (by rw [frg])
    · exact settled.working.trans (by rw [osc])
    · have kept := congrArg Osc.uptime settled.osc
      exact kept.trans (by rw [osc])

end

section
/-! The entry into RUNNING: the posts of DIO, HUM and FRG, the check start and the door, said once for the entries from STOPPING,
WAKING and STARTING. -/

open Sys2Proof Sys2Proof.Machine

namespace Sys2Proof.Machine

section Entry

variable {s t u : State} {a : List Slot}

/-! ### The steps of the posts -/

/-- What the posts, their marks and the propagation keep, DIO's posts at an entry keep. -/
theorem State.inputPosts_induct {P : State → Prop} (post : ∀ (t : State) (x : Slot) (n : Nat) (c : Carry) (r : Option Nat),
      x = .inputBoost ∨ x = .inputHood ∨ x = .fire → P t → P (t.internalPost x n c r).1)
    (mark : ∀ (t : State) (f : Dio → Dio), P t → P (t.updDio f)) (propagate : ∀ t : State, P t → P t.propagate)
    (h : P s) : P s.inputPosts := by
  have input (t : State) (i : BoostInput) (ht : P t) : P (t.postInput i none).1 := by
    have posted := post t i.slot (t.inputLevel i) (t.inputFlows i) none (by cases i <;> simp [BoostInput.slot]) ht
    unfold State.postInput
    dsimp only
    split
    · exact mark _ _ posted
    · exact posted
  have fire (t : State) (ht : P t) : P t.postFire := by
    have posted := post t .fire 15 t.fireFlows none (by simp) ht
    unfold State.postFire
    dsimp only
    split
    · exact mark _ _ posted
    · exact posted
  have boost : P (if s.dio.asserted .boost && s.dio.level .boost then (s.postInput .boost none).1.propagate else s) := by
    split
    · exact propagate _ (input _ _ h)
    · exact h
  unfold State.inputPosts
  generalize (if s.dio.asserted .boost && s.dio.level .boost then (s.postInput .boost none).1.propagate else s) = v at *
  have hood : P (if v.dio.asserted .hood && v.dio.level .hood then (v.postInput .hood none).1.propagate else v) := by
    split
    · exact propagate _ (input _ _ boost)
    · exact boost
  dsimp only
  generalize (if v.dio.asserted .hood && v.dio.level .hood then (v.postInput .hood none).1.propagate else v) = w at *
  split
  · exact propagate _ (fire _ hood)
  · exact hood

/-- HUM's posts at an entry (R113). -/
def State.humidityPosts (s : State) : State := s.tryHumidity.propagate.tryDryness.propagate

theorem State.humidityPosts_induct {P : State → Prop} (post : ∀ (t : State) (x : Slot) (n : Nat) (c : Carry) (r : Option Nat),
      x = .humidity ∨ x = .dryness → P t → P (t.internalPost x n c r).1)
    (mark : ∀ (t : State) (f : Hum → Hum), P t → P (t.updHum f)) (propagate : ∀ t : State, P t → P t.propagate)
    (h : P s) : P s.humidityPosts := by
  have humidity (t : State) (ht : P t) : P t.tryHumidity := by
    have posted := post t .humidity 7 (.flows (t.setting 6) (t.setting 6)) none (by simp) ht
    unfold State.tryHumidity
    split
    · dsimp only
      split
      · exact mark _ _ posted
      · exact posted
    · exact ht
  have dryness (t : State) (ht : P t) : P t.tryDryness := by
    have posted := post t .dryness 2 (.flows (t.setting 9) (t.setting 9)) none (by simp) ht
    unfold State.tryDryness
    split
    · dsimp only
      split
      · exact mark _ _ posted
      · exact posted
    · exact ht
  exact propagate _ (dryness _ (propagate _ (humidity _ h)))

/-! ### What the steps leave alone -/

/-- What an entry's steps leave alone beside what settles: of HUM and DIO only the marks of their posts change, and a mark that is
set stays set. -/
structure State.Enters (a : List Slot) (s t : State) : Prop where
  settled : ∀ (h : Hum) (d : Dio), SettledFrom a { s with hum := h, dio := d } { t with hum := h, dio := d }
  hum : { t.hum with humidityMark := s.hum.humidityMark, drynessMark := s.hum.drynessMark } = s.hum
  dio : { t.dio with boostMark := s.dio.boostMark, hoodMark := s.dio.hoodMark, fireMark := s.dio.fireMark } = s.dio
  fireMark : s.dio.fireMark = true → t.dio.fireMark = true

theorem State.Enters.refl (a : List Slot) (s : State) : s.Enters a s := ⟨fun _ _ => .refl _ _, rfl, rfl, id⟩

theorem State.Enters.trans (h : s.Enters a t) (g : t.Enters a u) : s.Enters a u where
  settled hum dio := ((h.settled hum dio).trans (g.settled hum dio)).weaken (by simp)
  hum := by
    have later := congrArg (fun k : Hum => { k with humidityMark := s.hum.humidityMark, drynessMark := s.hum.drynessMark }) g.hum
    exact later.trans h.hum
  dio := by
    have later := congrArg (fun k : Dio => { k with
      boostMark := s.dio.boostMark, hoodMark := s.dio.hoodMark, fireMark := s.dio.fireMark }) g.dio
    exact later.trans h.dio
  fireMark := g.fireMark ∘ h.fireMark

theorem State.Enters.of_settled {b : List Slot} (h : SettledFrom b s t) (hb : ∀ x ∈ b, x ∈ a) : s.Enters a t where
  settled hum dio := ((h.weaken hb).onHum hum).onDio dio
  hum := by rw [h.hum]
  dio := by rw [h.dio]
  fireMark e := by rw [h.dio, e]

/-- The table and the blocks of an entry, whatever HUM and DIO hold. -/
theorem State.Enters.apart (h : s.Enters a t) : SettledFrom a { s with hum := t.hum, dio := t.dio } t := h.settled t.hum t.dio

theorem State.Enters.running (h : s.Enters a t) (hd : s.osc.device = .running) : t.osc.device = .running :=
  (h.settled t.hum t.dio).running hd

theorem State.Enters.updHumidity (s : State) (f : Hum → Hum)
    (hf : { f s.hum with humidityMark := s.hum.humidityMark, drynessMark := s.hum.drynessMark } = s.hum) :
    s.Enters a (s.updHum f) := ⟨fun _ _ => .refl _ _, hf, rfl, id⟩

theorem State.postInput_enters (s : State) (i : BoostInput) (r : Option Nat) (ha : i.slot ∈ a) :
    s.Enters a (s.postInput i r).1 := by
  have posted : s.Enters a (s.internalPost i.slot (s.inputLevel i) (s.inputFlows i) r).1 :=
    .of_settled (.internalPost _ _ _ _ _) (by simpa using ha)
  have marked (t : State) : t.Enters a (t.updDio (·.setMark i true)) := by
    refine ⟨fun _ _ => .refl _ _, rfl, ?_, ?_⟩ <;> cases i <;> first | rfl | exact id
  unfold State.postInput
  dsimp only
  split
  · exact posted.trans (marked _)
  · exact posted

theorem State.postFire_enters (s : State) (ha : .fire ∈ a) : s.Enters a s.postFire := by
  have posted : s.Enters a (s.internalPost .fire 15 s.fireFlows none).1 :=
    .of_settled (.internalPost _ _ _ _ _) (by simpa using ha)
  have marked (t : State) : t.Enters a (t.updDio fun d => { d with fireMark := true }) :=
    ⟨fun _ _ => .refl _ _, rfl, rfl, fun _ => rfl⟩
  unfold State.postFire
  dsimp only
  split
  · exact posted.trans (marked _)
  · exact posted

theorem State.propagate_enters (s : State) : s.Enters a s.propagate := .of_settled (.propagate s) (by simp)

/-- The slots of DIO's and of HUM's posts. -/
def inputSlots : List Slot := [.inputBoost, .inputHood, .fire]
def humiditySlots : List Slot := [.humidity, .dryness]

/-- FIRE is posted at level 15 and marked where it is asserted, in every posting state (R150). -/
theorem State.postFire_posts (hd : s.osc.device.posting = true) :
    s.postFire.Internal .fire 15 s.fireFlows none ∧ s.postFire.dio.fireMark = true := by
  have passed : (s.watchTest .fire 15 (internalArgs 15 s.fireFlows none) none).2 = false := State.watchTest_unblocked (.inl rfl)
  cases hw : s.watchTest .fire 15 (internalArgs 15 s.fireFlows none) none with | mk w b =>
  obtain rfl : b = false := by
    rw [hw] at passed
    exact passed
  have posted : s.internalPost .fire 15 s.fireFlows none
      = (w.applyArb (w.arb.post .fire (internalArgs 15 s.fireFlows none) w.osc.uptime), .ok) := State.postCore_passes hd hw
  have held := w.applyPost_internal (x := .fire) (by decide) (by decide) 15 s.fireFlows none
  unfold State.postFire
  rw [posted]
  exact ⟨held, rfl⟩

theorem State.inputPosts_enters (s : State) : s.Enters inputSlots s.inputPosts
    ∧ (s.osc.device.posting = true → s.dio.asserted .fire = true → s.osc.device = .running →
      s.inputPosts.dio.fireMark = true ∧ ∃ c, s.inputPosts.Internal .fire 15 c none) := by
  have boost : s.Enters inputSlots
      (if s.dio.asserted .boost && s.dio.level .boost then (s.postInput .boost none).1.propagate else s) := by
    split
    · exact (State.postInput_enters s .boost none (by simp [inputSlots, BoostInput.slot])).trans (State.propagate_enters _)
    · exact .refl _ s
  unfold State.inputPosts
  dsimp only
  generalize (if s.dio.asserted .boost && s.dio.level .boost then (s.postInput .boost none).1.propagate else s) = v at *
  have hood : v.Enters inputSlots
      (if v.dio.asserted .hood && v.dio.level .hood then (v.postInput .hood none).1.propagate else v) := by
    split
    · exact (State.postInput_enters v .hood none (by simp [inputSlots, BoostInput.slot])).trans (State.propagate_enters _)
    · exact .refl _ v
  generalize (if v.dio.asserted .hood && v.dio.level .hood then (v.postInput .hood none).1.propagate else v) = w at *
  have entered := boost.trans hood
  have channels : w.dio.asserted .fire = s.dio.asserted .fire := by
    have kept := congrArg (fun d : Dio => d.asserted .fire) entered.dio
    exact kept
  refine ⟨?_, fun hd hf hr => ?_⟩
  · split
    · exact entered.trans ((State.postFire_enters w (by simp [inputSlots])).trans (State.propagate_enters _))
    · exact entered
  · rw [channels, if_pos hf]
    obtain ⟨held, mark⟩ := State.postFire_posts (s := w) (by rw [entered.running hr]; rfl)
    have settled := SettledFrom.propagate w.postFire
    exact ⟨by rw [settled.dio, mark], w.fireFlows, held.settled settled (by simp) (by decide) (by decide)⟩

theorem State.tryHumidity_enters (s : State) : s.Enters humiditySlots s.tryHumidity := by
  have posted : s.Enters humiditySlots (s.internalPost .humidity 7 (.flows (s.setting 6) (s.setting 6)) none).1 :=
    .of_settled (.internalPost _ _ _ _ _) (by simp [humiditySlots])
  unfold State.tryHumidity
  split
  · dsimp only
    split
    · exact posted.trans (.updHumidity _ _ rfl)
    · exact posted
  · exact .refl _ s

theorem State.tryDryness_enters (s : State) : s.Enters humiditySlots s.tryDryness := by
  have posted : s.Enters humiditySlots (s.internalPost .dryness 2 (.flows (s.setting 9) (s.setting 9)) none).1 :=
    .of_settled (.internalPost _ _ _ _ _) (by simp [humiditySlots])
  unfold State.tryDryness
  split
  · dsimp only
    split
    · exact posted.trans (.updHumidity _ _ rfl)
    · exact posted
  · exact .refl _ s

theorem State.humidityPosts_enters (s : State) : s.Enters humiditySlots s.humidityPosts :=
  s.tryHumidity_enters.trans ((State.propagate_enters _).trans ((State.tryDryness_enters _).trans (State.propagate_enters _)))

theorem SettledFrom.repostDefrost (s : State) (found : DefrostPhase) : SettledFrom [] s (s.repostDefrost found) := by
  unfold State.repostDefrost
  split
  · split
    · exact .postDefrost s
    · exact (SettledFrom.updDefrost s _).next (.postDefrost _)
  · exact .refl _ s

theorem SettledFrom.dueStartTest (s : State) : SettledFrom [] s s.dueStartTest :=
  { SettledFrom.refl [] s with filters := fun i => by cases i <;> rfl }

/-! ### The door -/

theorem State.faultEvent_stay (s : State) (f : Flag) (x : Nat) (v : Int) {g : Flag} (h : s.sup.flags.get g = true) :
    (s.faultEvent f x v).sup.flags.get g = true := by
  refine (SettledFrom.offerCapture (s.setFlag f) (.fault f x (clampI v (-32768) 32767) s.osc.uptime)).flagsStay g ?_
  rw [State.setFlag, State.updSup_sup]
  dsimp only
  rw [FlagSet.get_put, h]
  split <;> rfl

theorem SettledFrom.onDevices (h : SettledFrom a s t) (d : DevState) :
    SettledFrom a { s with osc := { s.osc with device := d } } { t with osc := { t.osc with device := d } } :=
  { h with
    osc := by
      have osc := congrArg (fun o : Osc => { o with device := d }) h.osc
      exact osc
    device := .inl rfl }

/-- The entry into DOOR_OPEN (R138). -/
theorem State.enterDoorOpen_effect (s : State) (ht : t = s.enterDoorOpen) :
    SettledFrom [] { s with osc := { s.osc with device := .doorOpen }, sup := t.sup } t ∧ t.osc.device = .doorOpen
      ∧ t.sup.flags.get .doorUnplanned = true ∧ t.sup.owner = s.sup.owner
      ∧ (∀ g, s.sup.flags.get g = true → t.sup.flags.get g = true) := by
  obtain ⟨x, hx⟩ : ∃ x, x = s.abandonCheck .door := ⟨_, rfl⟩
  obtain ⟨y, hy⟩ : ∃ y, y = (x.setDevice .doorOpen).propagate := ⟨_, rfl⟩
  obtain ⟨z, hz⟩ : ∃ z, z = y.faultEvent .doorUnplanned 0 0 := ⟨_, rfl⟩
  have shown : t = z.propagate := by rw [ht, hz, hy, hx]; rfl
  have first : SettledFrom [] s x := hx ▸ .abandonCheck s .door
  have moved : SettledFrom [] { x with osc := { x.osc with device := .doorOpen } } y := hy ▸
    (SettledFrom.raise (x.updOsc fun o => { o with device := .doorOpen }) .stateChanged 0 DevState.doorOpen.code).next
      (.propagate _)
  have fault : SettledFrom [] { y with sup := z.sup } z := hz ▸ SettledFrom.fault y _ _ _
  have taken := y.faultEvent_taken .doorUnplanned 0 0
  have stay (g : Flag) := State.faultEvent_stay y .doorUnplanned 0 0 (g := g)
  rw [← hz] at taken stay
  have last : SettledFrom [] z t := shown ▸ .propagate z
  clear hx hy hz shown ht
  have whole := (((first.onDevices .doorOpen).next moved).onSup z.sup).next (fault.next last)
  have stays : ∀ g, s.sup.flags.get g = true → t.sup.flags.get g = true := fun g hg =>
    last.flagsStay g (stay g (moved.flagsStay g (first.flagsStay g hg)))
  refine ⟨whole.ownSup, ?_, last.flagsStay _ ?_, last.owner.trans (taken.owner.trans (moved.owner.trans first.owner)), stays⟩
  · rcases whole.device with e | ⟨e, -⟩ | ⟨e, -⟩
    · exact e
    all_goals cases e
  · rw [taken.flags _ (by decide)]
    rfl

/-! ### The entry -/

def entrySlots : List Slot := inputSlots ++ humiditySlots

/-- What an entry into RUNNING leaves: RUNNING, or DOOR_OPEN where the door is reported open (R22, R138). -/
structure State.Entered (s t : State) : Prop where
  settled : SettledFrom entrySlots
    { s with osc := { s.osc with device := t.osc.device }, hum := t.hum, dio := t.dio, sup := t.sup } t
  device : t.osc.device = if s.flt.door = .opened then .doorOpen else .running
  owner : t.sup.owner = s.sup.owner
  stays : ∀ g, s.sup.flags.get g = true → t.sup.flags.get g = true
  door : s.flt.door = .opened → t.sup.flags.get .doorUnplanned = true
  hum : { t.hum with humidityMark := s.hum.humidityMark, drynessMark := s.hum.drynessMark } = s.hum
  dio : { t.dio with boostMark := s.dio.boostMark, hoodMark := s.dio.hoodMark, fireMark := s.dio.fireMark } = s.dio
  fire : s.dio.asserted .fire = true → t.dio.fireMark = true ∧ ∃ c, t.Internal .fire 15 c none

theorem State.Enters.mono {b : List Slot} (h : s.Enters a t) (hab : ∀ x ∈ a, x ∈ b) : s.Enters b t :=
  { h with settled := fun hum dio => (h.settled hum dio).weaken hab }

theorem SettledFrom.opened (h : SettledFrom [] { s with osc := { s.osc with device := .doorOpen }, sup := t.sup } t) :
    t.osc.device = .doorOpen := by
  rcases h.device with e | ⟨e, -⟩ | ⟨e, -⟩
  · exact e
  all_goals cases e

/-- An entry's posts, and the door behind them. -/
theorem State.Enters.finish (h : s.Enters entrySlots u) (hd : s.osc.device = .running)
    (hf : s.dio.asserted .fire = true → u.dio.fireMark = true ∧ ∃ c, u.Internal .fire 15 c none)
    (ht : t = u.doorTest.propagate) : s.Entered t := by
  have ho : u.sup.owner = s.sup.owner := h.apart.owner
  have hs : ∀ g, s.sup.flags.get g = true → u.sup.flags.get g = true := h.apart.flagsStay
  have device := h.running hd
  have doors : u.flt.door = s.flt.door := h.apart.filterRest.2.2.2.1
  by_cases open' : s.flt.door = .opened
  · obtain ⟨w, hw⟩ : ∃ w, w = u.enterDoorOpen := ⟨_, rfl⟩
    have shown : t = w.propagate := by
      rw [ht, hw]
      exact congrArg State.propagate (if_pos ⟨device, doors.trans open'⟩)
    obtain ⟨settled, -, flag, owner, stays⟩ := State.enterDoorOpen_effect u hw
    have last : SettledFrom [] w t := shown ▸ .propagate w
    have after : SettledFrom [] { u with osc := { u.osc with device := .doorOpen }, sup := t.sup } t :=
      SettledFrom.ownSup (s := { u with osc := { u.osc with device := .doorOpen } }) (settled.next last)
    have doorOpen := after.opened
    have hum : t.hum = u.hum := after.hum
    have dio : t.dio = u.dio := after.dio
    have base := (h.apart.onDevices .doorOpen).onSup t.sup
    refine ⟨?_, by rw [if_pos open', doorOpen], last.owner.trans (owner.trans ho), fun g hg => last.flagsStay g (stays g (hs g hg)),
      fun _ => last.flagsStay _ flag, by rw [hum]; exact h.hum, by rw [dio]; exact h.dio, fun asserted => ?_⟩
    · rw [doorOpen, hum, dio]
      exact (base.trans after).weaken (by simp)
    · obtain ⟨mark, c, held⟩ := hf asserted
      exact ⟨by rw [dio, mark], c, State.Internal.settled (s := { u with osc := _, sup := t.sup }) held after (by simp)
        (by decide) (by decide)⟩
  · have shown : t = u.propagate := by
      rw [ht]
      exact congrArg State.propagate (if_neg fun c => open' (doors.symm.trans c.2))
    have last : SettledFrom [] u t := shown ▸ .propagate u
    have running := last.running device
    have base := (h.trans (.of_settled last (a := entrySlots) (by simp))).apart
    have whole := base.onSup t.sup
    have kept : { s.osc with device := t.osc.device } = s.osc := by rw [running, ← hd]
    refine ⟨by rw [kept]; exact whole.ownSup, by rw [if_neg open', running], last.owner.trans ho,
      fun g hg => last.flagsStay g (hs g hg), fun o => absurd o open', by rw [last.hum]; exact h.hum,
      by rw [last.dio]; exact h.dio, fun asserted => ?_⟩
    obtain ⟨mark, c, held⟩ := hf asserted
    exact ⟨by rw [last.dio, mark], c, held.settled last (by simp) (by decide) (by decide)⟩

/-- The posts of an entry, and what they set off before the door is looked at. -/
def State.entryTested (s : State) (found : DefrostPhase) : State := (s.entryPosts found).dueStartTest.propagate

theorem State.entryTested_enters (s : State) (found : DefrostPhase) : s.Enters entrySlots (s.entryTested found) := by
  have posts : s.Enters entrySlots (s.inputPosts.humidityPosts) :=
    (s.inputPosts_enters.1.mono fun _ => List.mem_append_left _).trans
      ((State.humidityPosts_enters _).mono fun _ => List.mem_append_right _)
  have shown : s.entryTested found = ((s.inputPosts.humidityPosts).repostDefrost found).dueStartTest.propagate := rfl
  rw [shown]
  exact posts.trans (.of_settled (((SettledFrom.repostDefrost _ found).next (.dueStartTest _)).next (.propagate _)) (by simp))

theorem State.finishEntry_entered (hd : s.osc.device = .running) (found : DefrostPhase) : s.Entered (s.finishEntry found) := by
  refine (s.entryTested_enters found).finish hd (fun asserted => ?_) rfl
  obtain ⟨mark, c, held⟩ := s.inputPosts_enters.2 (by rw [hd]; rfl) asserted hd
  have shown : s.entryTested found = ((s.inputPosts.humidityPosts).repostDefrost found).dueStartTest.propagate := rfl
  generalize s.inputPosts = v at *
  have humid := v.humidityPosts_enters
  generalize v.humidityPosts = w at *
  have last := ((SettledFrom.repostDefrost w found).next (.dueStartTest _)).next (.propagate _)
  rw [← shown] at last
  generalize s.entryTested found = u at *
  have fire : w.Internal .fire 15 c none :=
    State.Internal.settled (s := { v with hum := w.hum, dio := w.dio }) held humid.apart (by simp [humiditySlots]) (by decide) (by decide)
  exact ⟨by rw [last.dio]; exact humid.fireMark mark, c, fire.settled last (by simp) (by decide) (by decide)⟩

/-! ### The defrost at an entry -/

/-- Before the post of DEFROST no step of an entry puts the record into PREPARE. -/
theorem State.internalPost_notPrepare (h : s.frg.defrost.phase ≠ .prepare) (x : Slot) (n : Nat) (c : Carry) (r : Option Nat) :
    (s.internalPost x n c r).1.frg.defrost.phase ≠ .prepare := by
  rcases s.postCore_core x n (internalArgs n c r) none with ⟨-, frg, -⟩ | ⟨v, -, frg, eq⟩
  · have kept : (s.internalPost x n c r).1.frg = s.frg := frg
    rwa [kept]
  · have shown : (s.internalPost x n c r).1 = v.applyArb (v.arb.post x (internalArgs n c r) v.osc.uptime) := congrArg Prod.fst eq
    rw [shown]
    exact State.applyArb_notPrepare (by rwa [frg]) _

/-- DEFROST as it stands posted outside the waits for the run-on. -/
structure State.DefrostHeld (c : Carry) (t : State) : Prop where
  stopping : t.osc.device ≠ .stopping
  prepare : t.osc.device ≠ .servicePrepare
  phase : t.frg.defrost.phase ≠ .prepare
  slot : t.Internal .defrost 13 c none

theorem State.DefrostHeld.same {c : Carry} (h : s.DefrostHeld c) (same : s.SameTable t) : t.DefrostHeld c where
  stopping := by rw [same.osc]; exact h.stopping
  prepare := by rw [same.osc]; exact h.prepare
  phase := by rw [same.defrost]; exact h.phase
  slot := h.slot.of_same (by rw [same.arb]; exact .refl _)

theorem State.startTest_defrost (s : State) : SameDemand (s.arb.table.get .defrost) (s.startTest.arb.table.get .defrost) := by
  have checked (u : State) (hu : u.arb = s.arb) :
      SameDemand (s.arb.table.get .defrost) ((u.startCheck .scheduled).1.arb.table.get .defrost) := by
    rcases u.startCheck_core .scheduled with ⟨-, arb⟩ | ⟨v, same, -, eq⟩
    · rw [arb, hu]
      exact .refl _
    · rw [eq, (State.trySettle_frg _).2, State.updCheck, State.updFlt_arb, State.applyArb_get (by decide), ← hu]
      have other := Arb.post_other (a := v.arb) (x := .filterCheck) (y := .defrost) (by decide)
        (internalArgs 6 (.flows (u.setting 10) (u.setting 10)) none) v.osc.uptime
      rw [same.arb] at other ⊢
      exact other
  unfold State.startTest
  split
  · dsimp only
    split
    · exact checked _ rfl
    · exact .refl _
  · exact .refl _

theorem State.DefrostHeld.propagate {c : Carry} (h : s.DefrostHeld c) : s.propagate.DefrostHeld c := by
  refine State.propagate_induct (P := State.DefrostHeld c) (fun _ _ same ht => ht.same same)
    (fun t hp ht => absurd hp ht.phase) (fun t w p f hp ht => absurd hp ht.phase) (fun t hd ht => absurd hd ht.stopping)
    (fun t hd ht => absurd hd ht.prepare) (fun t ht => ?_) h
  have osc := (State.startTest_tableOnly t).osc
  exact ⟨by rw [osc]; exact ht.stopping, by rw [osc]; exact ht.prepare, State.startTest_notPrepare ht.phase,
    ht.slot.of_same t.startTest_defrost⟩

theorem State.abandonCheck_frame (s : State) (o : CheckOutcome) : (s.abandonCheck o).osc = s.osc
    ∧ (s.frg.defrost.phase ≠ .prepare → (s.abandonCheck o).frg.defrost.phase ≠ .prepare)
    ∧ (s.frg.defrost.phase.rests → (s.abandonCheck o).frg = s.frg)
    ∧ (s.abandonCheck o).arb.table.get .defrost = s.arb.table.get .defrost := by
  have osc := (State.TableOnly.abandonCheck (s := s) o).osc
  refine ⟨osc, ?_⟩
  unfold State.abandonCheck
  split
  · exact ⟨id, fun _ => rfl, rfl⟩
  · unfold State.raiseFilterResult
    rw [State.raise_frg, State.raise_arb]
    have frg : ((s.recordCheckEnd o).updCheck Check.discard).frg = s.frg := rfl
    refine ⟨fun h => State.applyArb_notPrepare (by rwa [frg]) _,
      fun h => State.applyArb_frg (fun q _ _ => by rw [frg]; exact h.deaf q.kind), ?_⟩
    exact (State.applyArb_get (by decide) _).trans (Arb.free_get_ne _ (by decide))

theorem State.DefrostHeld.doorTest {c : Carry} (h : s.DefrostHeld c) : s.doorTest.propagate.DefrostHeld c := by
  unfold State.doorTest
  split
  · obtain ⟨osc, phase, -, slot⟩ := s.abandonCheck_frame .door
    unfold State.enterDoorOpen
    have opened : ((s.abandonCheck .door).setDevice .doorOpen).DefrostHeld c := by
      refine ⟨by rw [State.setDevice_osc]; exact nofun, by rw [State.setDevice_osc]; exact nofun,
        by rw [State.setDevice_frg]; exact phase h.phase, h.slot.of_same ?_⟩
      rw [State.setDevice_arb, slot]
      exact .refl _
    generalize (s.abandonCheck .door).setDevice .doorOpen = v at *
    exact (opened.propagate.same (.faultEvent _ _ _ _)).propagate.propagate
  · exact h.propagate

theorem State.DefrostHeld.dueStartTest {c : Carry} (h : s.DefrostHeld c) : s.dueStartTest.DefrostHeld c :=
  ⟨h.stopping, h.prepare, h.phase, h.slot⟩

theorem State.postDefrost_held (hd : s.osc.device = .running) (hp : s.frg.defrost.phase ≠ .prepare) :
    s.postDefrost.DefrostHeld (.flows 0 (s.setting 11)) := by
  have test := State.SameTable.watchTest s .defrost 13 s.defrostArgs none
  have passed : (s.watchTest .defrost 13 s.defrostArgs none).2 = false := State.watchTest_unblocked (.inr (.inl rfl))
  cases hw : s.watchTest .defrost 13 s.defrostArgs none with | mk w b =>
  obtain rfl : b = false := by
    rw [hw] at passed
    exact passed
  rw [hw] at test
  have posted : s.internalPost .defrost 13 (.flows 0 (s.setting 11)) none
      = (w.applyArb (w.arb.post .defrost s.defrostArgs w.osc.uptime), .ok) := State.postCore_passes (by rw [hd]; rfl) hw
  have device : s.postDefrost.osc.device = .running := by
    rw [State.postDefrost, posted, (State.TableOnly.applyArb _).osc, test.osc, hd]
  refine ⟨by rw [device]; exact nofun, by rw [device]; exact nofun, ?_, ?_⟩
  · exact State.internalPost_notPrepare hp _ _ _ _
  · have held := w.defrostApplied_internal s fun _ => true
    rw [State.defrostApplied, List.filter_true] at held
    rw [State.postDefrost, posted]
    exact held

/-- A defrost that was SUSPENDED posts DEFROST again (R80). -/
theorem State.finishEntry_reposts (hd : s.osc.device = .running) (hp : s.frg.defrost.phase ≠ .prepare) :
    (s.finishEntry .suspended).Internal .defrost 13 (.flows 0 (s.setting 11)) none := by
  have posts : s.inputPosts.humidityPosts.frg.defrost.phase ≠ .prepare :=
    State.humidityPosts_induct (P := fun t => t.frg.defrost.phase ≠ .prepare)
      (fun t x n c r _ ht => State.internalPost_notPrepare ht x n c r) (fun t f ht => ht)
      (fun t ht => State.propagate_notPrepare ht)
      (State.inputPosts_induct (P := fun t => t.frg.defrost.phase ≠ .prepare)
        (fun t x n c r _ ht => State.internalPost_notPrepare ht x n c r) (fun t f ht => ht)
        (fun t ht => State.propagate_notPrepare ht) hp)
  have entered : s.Enters entrySlots s.inputPosts.humidityPosts :=
    (s.inputPosts_enters.1.mono fun _ => List.mem_append_left _).trans
      ((State.humidityPosts_enters _).mono fun _ => List.mem_append_right _)
  have shown : s.finishEntry .suspended
      = ((s.inputPosts.humidityPosts.repostDefrost .suspended).dueStartTest.propagate).doorTest.propagate := rfl
  rw [shown]
  generalize s.inputPosts.humidityPosts = w at *
  have running := entered.running hd
  have settings : w.setting 11 = s.setting 11 := by
    have kept := congrArg Osc.working entered.apart.osc
    exact congrArg (settingNat · 11) kept
  have reposted : (w.repostDefrost .suspended).DefrostHeld (.flows 0 (s.setting 11)) := by
    rw [← settings]
    cases e : w.frg.defrost.started with
    | true =>
      have kept : w.repostDefrost .suspended = w.postDefrost := by simp [State.repostDefrost, e]
      rw [kept]
      exact State.postDefrost_held running posts
    | false =>
      have marked : w.repostDefrost .suspended = (w.updDefrost fun d => { d with phase := .posted }).postDefrost := by
        simp [State.repostDefrost, e]
      rw [marked]
      exact State.postDefrost_held (s := w.updDefrost fun d => { d with phase := .posted }) running nofun
  exact State.DefrostHeld.slot (State.DefrostHeld.doorTest (State.DefrostHeld.propagate reposted.dueStartTest))

/-- The record at rest, with DEFROST FREE. -/
def State.DefrostRests (t : State) : Prop := t.frg.defrost.phase.rests ∧ t.arb.table.get .defrost = none

theorem State.DefrostRests.propagate (h : s.DefrostRests) : s.propagate.DefrostRests := by
  obtain ⟨record, slot⟩ := State.propagate_rests h.1
  exact ⟨by rw [record]; exact h.1, slot h.2⟩

theorem State.DefrostRests.doorTest (h : s.DefrostRests) : s.doorTest.propagate.DefrostRests := by
  unfold State.doorTest
  split
  · obtain ⟨-, -, frg, slot⟩ := s.abandonCheck_frame .door
    unfold State.enterDoorOpen
    have opened : ((s.abandonCheck .door).setDevice .doorOpen).DefrostRests := by
      refine ⟨?_, ?_⟩
      · rw [State.setDevice_frg, frg h.1]
        exact h.1
      · rw [State.setDevice_arb, slot]
        exact h.2
    generalize (s.abandonCheck .door).setDevice .doorOpen = v at *
    have fault : (v.propagate.faultEvent .doorUnplanned 0 0).DefrostRests := by
      have same := State.SameTable.faultEvent v.propagate .doorUnplanned 0 0
      have rests := opened.propagate
      exact ⟨by rw [same.defrost]; exact rests.1, by rw [same.arb]; exact rests.2⟩
    exact fault.propagate.propagate
  · exact h.propagate

/-- Without a post of its own DEFROST stays FREE while its record rests. -/
theorem State.finishEntry_defrostFree (hp : s.frg.defrost.phase.rests) {found : DefrostPhase} (hf : found ≠ .suspended)
    (hs : s.arb.table.get .defrost = none) : (s.finishEntry found).arb.table.get .defrost = none := by
  have posted (t : State) (x : Slot) (n : Nat) (c : Carry) (r : Option Nat) (hx : x ≠ .defrost) (ht : t.DefrostRests) :
      (t.internalPost x n c r).1.DefrostRests := by
    have frg : (t.internalPost x n c r).1.frg = t.frg := State.postCore_frg (fun k => ht.1.deaf k) x n _ none
    exact ⟨by rw [frg]; exact ht.1, t.postCore_slotFree (Ne.symm hx) ht.2 n _ none⟩
  have posts : s.inputPosts.humidityPosts.DefrostRests :=
    State.humidityPosts_induct (P := State.DefrostRests)
      (fun t x n c r hx => posted t x n c r (by rintro rfl; simp at hx)) (fun t f ht => ht) (fun t ht => ht.propagate)
      (State.inputPosts_induct (P := State.DefrostRests)
        (fun t x n c r hx => posted t x n c r (by rintro rfl; simp at hx)) (fun t f ht => ht)
        (fun t ht => ht.propagate) ⟨hp, hs⟩)
  have shown : s.finishEntry found
      = ((s.inputPosts.humidityPosts.repostDefrost found).dueStartTest.propagate).doorTest.propagate := rfl
  rw [shown, State.repostDefrost, if_neg hf]
  generalize s.inputPosts.humidityPosts = w at *
  have due : w.dueStartTest.DefrostRests := posts
  exact (State.DefrostRests.doorTest (State.DefrostRests.propagate due)).2

end Entry

end Sys2Proof.Machine

end

section
/-! WAKE from STANDBY and from STOPPING. -/

open Sys2Proof Sys2Proof.Machine

namespace Sys2Proof.Machine

section Wake

variable {s t : State}

/-- STANDBY left for WAKING, before the fans answer (R45, R190). -/
def State.wakingBegun (s : State) : State :=
  ((((s.setDevice .waking).updOsc fun o => { o with stoppedSecs := 0 }).updAfc fun a =>
    { a with supply := a.supply.clearZero, extract := a.extract.clearZero }).updFlt fun t =>
    { t with supply := t.supply.clearZero, extract := t.extract.clearZero })

theorem State.startWaking_eq (s : State) : s.startWaking = s.wakingBegun.propagate := rfl

theorem State.wakingBegun_osc (s : State) : s.wakingBegun.osc = { s.osc with device := .waking, stoppedSecs := 0 } := by
  simp [State.wakingBegun]

theorem State.wakingBegun_arb (s : State) : s.wakingBegun.arb = s.arb := by simp [State.wakingBegun]

theorem State.wakingBegun_rest (s : State) : s.wakingBegun.frg = s.frg ∧ s.wakingBegun.hum = s.hum ∧ s.wakingBegun.dio = s.dio
    ∧ s.wakingBegun.sup.owner = s.sup.owner ∧ s.wakingBegun.lnk.restarting = s.lnk.restarting := by
  simp [State.wakingBegun, State.setDevice]

theorem State.wakingBegun_path (s : State) (i : PathId) :
    s.wakingBegun.afc.path i = (s.afc.path i).clearZero ∧ s.wakingBegun.flt.filter i = (s.flt.filter i).clearZero := by
  cases i <;> simp [State.wakingBegun, Afc.path, Flt.filter]

/-- With the fans stopped a round leaves both targets at 0 (R29). -/
theorem State.stagedRound_stopped (h : s.osc.device.fansStopped = true) (i : PathId) :
    (s.stagedRound.afc.path i).target = some 0 := by
  have stopped (t : State) (ht : t.osc = s.osc) : (t.serveArgs i).target = some 0 := by
    have resolved := (State.resolve_stopped (s := t) (by rw [ht]; exact h)).1
    cases i <;> rw [State.serveArgs, resolved]
  rw [State.stagedRound, State.deriveStage_afc, State.round_afc]
  cases i with
  | extract =>
    rw [Afc.path, State.serveFans_extract, FanPath.serve_targets]
    exact stopped _ (State.SameTable.forceRequest s).osc
  | supply =>
    rw [Afc.path, State.serveFans_supply, FanPath.serve_targets]
    exact stopped _ (by rw [State.servePath, State.movePath_osc, (State.SameTable.forceRequest s).osc])

theorem State.propagate_stopsTargets (h : s.osc.device = .waking) (i : PathId) :
    (s.propagate.afc.path i).target = some 0 := by
  have waking (t : State) (ht : t.osc.device = .waking) : t.stagedRound.osc.device = .waking := by
    rcases (SettledFrom.stagedRound t).device with e | ⟨e, -⟩ | ⟨e, -⟩
    · exact e.trans ht
    all_goals cases ht.symm.trans e
  have begun : s.deriveStage.osc.device = .waking := by rw [(State.Rests.deriveStage s).osc, h]
  exact State.stagedRound_stopped (by rw [waking _ (waking _ (waking _ begun))]; rfl) i

end Wake

end Sys2Proof.Machine

/-- Settles O28. -/
theorem wakeAccepted : Obligations.WakeAccepted := by
  intro l s f o h
  refine ⟨fun h1 h2 => congrArg Host.Outcome.next (h.answers ?_), fun hd ho => ?_, fun hd ho => ?_, fun hd ho => ?_⟩
  · have device : (s.handed l).osc.device = s.osc.device := rfl
    unfold actWake
    rw [device]
    cases e : s.osc.device with
    | standby => exact absurd e h1
    | stopping => exact absurd e h2
    | _ => rfl
  · subst ho
    refine congrArg Host.Outcome.next (h.answers ?_)
    have device : (s.handed l).osc.device = s.osc.device := rfl
    unfold actWake
    rw [device]
    rcases hd with e | e <;> rw [e] <;> exact requireOrigin_below (by decide)
  · obtain ⟨v, hv⟩ : ∃ v, v = (s.handed l).wakingBegun := ⟨_, rfl⟩
    have taken : actWake (s.handed l) o [] = (v.propagate, ⟨.ok, u8 7⟩) := by
      have device : (s.handed l).osc.device = .standby := hd
      unfold actWake
      rw [device]
      refine (requireOrigin_from (Origin.system_le ho)).trans ?_
      rw [State.startWaking_eq, ← hv]
      rfl
    have osc : v.osc = { s.osc with device := .waking, stoppedSecs := 0 } := hv ▸ State.wakingBegun_osc _
    have arb : v.arb = s.arb := hv ▸ State.wakingBegun_arb _
    obtain ⟨frg, hum, dio, owner, restarting⟩ := (s.handed l).wakingBegun_rest
    have paths (i : PathId) := (s.handed l).wakingBegun_path i
    rw [← hv] at frg hum dio owner restarting paths
    clear hv
    have waking : v.osc.device = .waking := by rw [osc]
    have settled := SettledFrom.propagate v
    have target := State.propagate_stopsTargets waking
    have row : exec (.wake l) s = .next ((v.propagate.holding l f).afterReply l f o _) := congrArg Host.Outcome.next
      (h.leads (settled.links.2.2.trans (restarting.trans (State.handed_restarting.trans h.notRestarting))) taken)
    generalize v.propagate = t at *
    have stands : t.osc.device = .waking := by
      rcases settled.device with e | ⟨e, -⟩ | ⟨e, -⟩
      · exact e.trans waking
      all_goals cases waking.symm.trans e
    have same : t.osc = v.osc := by
      have kept := settled.osc
      rw [waking, ← stands] at kept
      exact kept
    refine ⟨t.holding l f, row, stands, ?_, fun i => ?_, ?_, ?_, settled.hum.trans hum, settled.dio.trans dio, ?_,
      settled.owner.trans owner, fun x h1 h2 => ?_⟩
    · exact (congrArg Osc.stoppedSecs (same.trans osc) :)
    · obtain ⟨path, filter⟩ := paths i
      obtain ⟨flow, -, -, -, -, sum, fault, -⟩ := settled.paths i
      have kept := settled.filters i
      have zero := congrArg Filter.zeroSum kept
      have failed := congrArg Filter.zeroFault kept
      refine ⟨sum.trans ?_, fault.trans ?_, zero.trans ?_, failed.trans ?_, target i, flow.trans ?_⟩
      · rw [path]; rfl
      · rw [path]; rfl
      · rw [filter]; rfl
      · rw [filter]; rfl
      · rw [path]; rfl
    · exact (congrArg Osc.uptime (same.trans osc) :)
    · exact (congrArg Osc.working (same.trans osc) :)
    · have load : t.frg.load = v.frg.load := settled.frost_get Frg.load fun _ _ _ _ _ _ _ _ => rfl
      exact load.trans (congrArg Frg.load frg)
    · have kept := settled.slots x (by simp) h1 h2
      rw [arb] at kept
      exact kept
  · obtain ⟨v, hv⟩ : ∃ v, v = (s.handed l).setDevice .running := ⟨_, rfl⟩
    have taken : actWake (s.handed l) o [] = (v.finishEntry s.frg.defrost.phase, ⟨.ok, u8 1⟩) := by
      have device : (s.handed l).osc.device = .stopping := hd
      unfold actWake
      rw [device, hv]
      exact requireOrigin_from (Origin.system_le ho)
    have osc : v.osc = { s.osc with device := .running } := hv ▸ State.setDevice_osc _ _
    have arb : v.arb = s.arb := hv ▸ State.setDevice_arb _ _
    have frg : v.frg = s.frg := hv ▸ State.setDevice_frg _ _
    have flt : v.flt = s.flt := hv ▸ State.setDevice_flt _ _
    have owner : v.sup.owner = s.sup.owner := hv ▸ State.setDevice_sup_owner _ _
    have dio : v.dio = (s.handed l).dio := by rw [hv]; simp [State.setDevice]
    have restarting : v.lnk.restarting = s.lnk.restarting := by rw [hv]; simp [State.setDevice, State.handed_restarting]
    clear hv
    have running : v.osc.device = .running := by rw [osc]
    have settings : v.setting 11 = s.setting 11 := by rw [State.setting, osc, ← State.setting]
    have entered := v.finishEntry_entered running s.frg.defrost.phase
    have reposts (e : s.frg.defrost.phase = .suspended) := State.finishEntry_reposts running (s := v) (by rw [frg, e]; exact nofun)
    have rests (hp : s.frg.defrost.phase.rests) (free : v.arb.table.get .defrost = none) :=
      State.finishEntry_defrostFree (s := v) (found := s.frg.defrost.phase) (by rw [frg]; exact hp)
        (by rcases hp with e | e <;> rw [e] <;> exact nofun) free
    have suspended (e : s.frg.defrost.phase = .suspended) :
        (v.finishEntry s.frg.defrost.phase).Internal .defrost 13 (.flows 0 (s.setting 11)) none := by
      rw [e, ← settings]
      exact reposts e
    have row : exec (.wake l) s = .next (((v.finishEntry s.frg.defrost.phase).holding l f).afterReply l f o _) :=
      congrArg Host.Outcome.next (h.leads (entered.settled.links.2.2.trans (restarting.trans h.notRestarting)) taken)
    generalize v.finishEntry s.frg.defrost.phase = t at *
    have same := entered.settled
    refine ⟨t.holding l f, row, ?_, fun door => entered.door (by rw [flt]; exact door), ?_, ?_, entered.owner.trans owner, ?_, ?_,
      fun e => ?_, fun hp free => rests hp (by rw [arb]; exact free), fun asserted => ?_⟩
    · rw [← flt]
      exact entered.device
    · have kept := congrArg Osc.uptime same.osc
      have was := congrArg Osc.uptime osc
      exact kept.trans was
    · have kept := congrArg Osc.working same.osc
      have was := congrArg Osc.working osc
      exact kept.trans was
    · have kept : t.frg.load = v.frg.load := same.frost_get Frg.load fun _ _ _ _ _ _ _ _ => rfl
      exact kept.trans (congrArg Frg.load frg)
    · have kept : t.frg.imbalance = v.frg.imbalance := same.frost_get Frg.imbalance fun _ _ _ _ _ _ _ _ => rfl
      exact kept.trans (congrArg Frg.imbalance frg)
    · exact suspended e
    · obtain ⟨mark, c, d, held, level, -⟩ := entered.fire (by rw [dio]; exact asserted)
      exact ⟨d, held, level, mark⟩

end

section
/-! The end of the zeroing, and the entries into RUNNING from STARTING and from WAKING. -/

open Sys2Proof Sys2Proof.Machine

namespace Sys2Proof.Machine

section Zeroing

variable {s t u : State} {a : List Slot}

/-! ### The zero offsets -/

/-- What the eight readings of a sensor make of its zero offset (R25, R120). -/
structure ZeroTaken (sum : Int) (fault : Bool) (z : Int) (flags : FlagSet) : Prop where
  faulted : fault = true → z = 0
  mean : fault = false → -20 ≤ sum.tdiv 8 → sum.tdiv 8 ≤ 20 → z = sum.tdiv 8
  far : fault = false → (sum.tdiv 8 < -20 ∨ 20 < sum.tdiv 8) → z = 0 ∧ flags.get .pressureFault = true

theorem ZeroTaken.of_result {sum : Int} {fault : Bool} {flags : FlagSet}
    (h : (zeroResult sum fault).2 ≠ none → flags.get .pressureFault = true) :
    ZeroTaken sum fault (zeroResult sum fault).1 flags := by
  unfold zeroResult at *
  cases fault with
  | true => exact ⟨fun _ => rfl, nofun, nofun⟩
  | false =>
    dsimp only at *
    by_cases near : -20 ≤ sum.tdiv 8 ∧ sum.tdiv 8 ≤ 20
    · rw [if_neg (by simp), if_pos near]
      exact ⟨nofun, fun _ _ _ => rfl, fun _ far => by omega⟩
    · rw [if_neg (by simp), if_neg near] at h ⊢
      exact ⟨nofun, fun _ h1 h2 => absurd ⟨h1, h2⟩ near, fun _ _ => ⟨rfl, h nofun⟩⟩

theorem ZeroTaken.mono {sum z : Int} {fault : Bool} {f g : FlagSet} (h : ZeroTaken sum fault z f)
    (stays : ∀ k, f.get k = true → g.get k = true) : ZeroTaken sum fault z g :=
  { h with far := fun hf far => ⟨(h.far hf far).1, stays _ (h.far hf far).2⟩ }

/-- What the end of the zeroing leaves alone. -/
structure State.ZeroSame (s t : State) : Prop where
  pending : t.pending = s.pending
  osc : t.osc = s.osc
  arb : t.arb = s.arb
  frg : t.frg = s.frg
  hum : t.hum = s.hum
  dio : t.dio = s.dio
  door : t.flt.door = s.flt.door
  flows : ∀ i, (t.afc.path i).flow = (s.afc.path i).flow
  owner : t.sup.owner = s.sup.owner
  stays : ∀ g, s.sup.flags.get g = true → t.sup.flags.get g = true

theorem State.ZeroSame.trans (h : s.ZeroSame t) (g : t.ZeroSame u) : s.ZeroSame u :=
  ⟨g.pending.trans h.pending, g.osc.trans h.osc, g.arb.trans h.arb, g.frg.trans h.frg, g.hum.trans h.hum, g.dio.trans h.dio,
    g.door.trans h.door, fun i => (g.flows i).trans (h.flows i), g.owner.trans h.owner, fun f hf => g.stays f (h.stays f hf)⟩

theorem State.ZeroSame.fault (s : State) (g : Flag) (x : Nat) (v : Int) : s.ZeroSame (s.faultEvent g x v) := by
  have apart := s.faultEvent_apart g x v
  have stay := fun f => State.faultEvent_stay s g x v (g := f)
  have owner := (s.faultEvent_taken g x v).owner
  generalize s.faultEvent g x v = t at *
  rw [← apart]
  exact ⟨rfl, rfl, rfl, rfl, rfl, rfl, rfl, fun _ => rfl, owner, stay⟩

/-- The capture and the flag of a sensor whose mean lies out of range. -/
def State.zeroReport (s : State) (x : Nat) : Option Int → State
  | some mean => s.faultEvent .pressureFault x mean
  | none => s

theorem State.zeroReport_same (s : State) (x : Nat) (m : Option Int) : s.ZeroSame (s.zeroReport x m)
    ∧ (s.zeroReport x m).afc = s.afc ∧ (s.zeroReport x m).flt = s.flt
    ∧ (m ≠ none → (s.zeroReport x m).sup.flags.get .pressureFault = true) := by
  cases m with
  | none => exact ⟨⟨rfl, rfl, rfl, rfl, rfl, rfl, rfl, fun _ => rfl, rfl, fun _ => id⟩, rfl, rfl, fun h => absurd rfl h⟩
  | some v =>
    have apart := s.faultEvent_apart .pressureFault x v
    have afc := congrArg State.afc apart
    have flt := congrArg State.flt apart
    refine ⟨.fault s _ _ _, afc, flt, fun _ => ?_⟩
    rw [State.zeroReport, (s.faultEvent_taken .pressureFault x v).flags _ (by decide)]
    rfl

theorem State.zeroNozzle_eq (s : State) (i : PathId) : s.zeroNozzle i
    = (s.updAfc (·.setPath i { s.afc.path i with
        zeroOffset := (zeroResult (s.afc.path i).zeroSum (s.afc.path i).zeroFault).1 })).zeroReport (pathCode i)
      (zeroResult (s.afc.path i).zeroSum (s.afc.path i).zeroFault).2 := rfl

theorem State.zeroFilter_eq (s : State) (i : PathId) : s.zeroFilter i
    = (s.updFlt (·.setFilter i { s.flt.filter i with
        zeroOffset := (zeroResult (s.flt.filter i).zeroSum (s.flt.filter i).zeroFault).1 })).zeroReport (filterSubject i)
      (zeroResult (s.flt.filter i).zeroSum (s.flt.filter i).zeroFault).2 := rfl

theorem State.zeroNozzle_takes (s : State) (i : PathId) : s.ZeroSame (s.zeroNozzle i) ∧ (s.zeroNozzle i).flt = s.flt
    ∧ (∀ j, j ≠ i → (s.zeroNozzle i).afc.path j = s.afc.path j)
    ∧ ZeroTaken (s.afc.path i).zeroSum (s.afc.path i).zeroFault ((s.zeroNozzle i).afc.path i).zeroOffset
      (s.zeroNozzle i).sup.flags := by
  rw [State.zeroNozzle_eq]
  generalize hw : s.updAfc (·.setPath i { s.afc.path i with
    zeroOffset := (zeroResult (s.afc.path i).zeroSum (s.afc.path i).zeroFault).1 }) = w
  have set : s.ZeroSame w := by
    rw [← hw]
    refine ⟨rfl, rfl, rfl, rfl, rfl, rfl, rfl, fun j => ?_, rfl, fun _ => id⟩
    cases i <;> cases j <;> rfl
  obtain ⟨same, afc, flt, flag⟩ := w.zeroReport_same (pathCode i) (zeroResult (s.afc.path i).zeroSum (s.afc.path i).zeroFault).2
  refine ⟨set.trans same, flt.trans (by rw [← hw]; rfl), fun j hj => ?_, ?_⟩
  · rw [afc, ← hw, State.updAfc_afc, Afc.path_setPath_ne _ hj]
  · rw [afc, ← hw, State.updAfc_afc, Afc.path_setPath, hw]
    exact .of_result flag

theorem State.zeroFilter_takes (s : State) (i : PathId) : s.ZeroSame (s.zeroFilter i) ∧ (s.zeroFilter i).afc = s.afc
    ∧ (∀ j, j ≠ i → (s.zeroFilter i).flt.filter j = s.flt.filter j)
    ∧ ZeroTaken (s.flt.filter i).zeroSum (s.flt.filter i).zeroFault ((s.zeroFilter i).flt.filter i).zeroOffset
      (s.zeroFilter i).sup.flags := by
  rw [State.zeroFilter_eq]
  generalize hw : s.updFlt (·.setFilter i { s.flt.filter i with
    zeroOffset := (zeroResult (s.flt.filter i).zeroSum (s.flt.filter i).zeroFault).1 }) = w
  have set : s.ZeroSame w := by
    rw [← hw]
    refine ⟨rfl, rfl, rfl, rfl, rfl, rfl, ?_, fun j => rfl, rfl, fun _ => id⟩
    cases i <;> rfl
  obtain ⟨same, afc, flt, flag⟩ :=
    w.zeroReport_same (filterSubject i) (zeroResult (s.flt.filter i).zeroSum (s.flt.filter i).zeroFault).2
  refine ⟨set.trans same, afc.trans (by rw [← hw]; rfl), fun j hj => ?_, ?_⟩
  · rw [flt, ← hw, State.updFlt_flt]
    cases i <;> cases j <;> first | rfl | exact absurd rfl hj
  · rw [flt, ← hw, State.updFlt_flt, Flt.filter_setFilter, hw]
    exact .of_result flag

/-- The four zero offsets are those of their own readings (R25, R120). -/
theorem State.zeroAll_takes (s : State) : s.ZeroSame s.zeroAll ∧ ∀ i,
    ZeroTaken (s.afc.path i).zeroSum (s.afc.path i).zeroFault (s.zeroAll.afc.path i).zeroOffset s.zeroAll.sup.flags
    ∧ ZeroTaken (s.flt.filter i).zeroSum (s.flt.filter i).zeroFault (s.zeroAll.flt.filter i).zeroOffset s.zeroAll.sup.flags := by
  have shown : s.zeroAll = (((s.zeroNozzle .supply).zeroNozzle .extract).zeroFilter .supply).zeroFilter .extract := rfl
  rw [shown]
  obtain ⟨same1, flt1, others1, supply⟩ := s.zeroNozzle_takes .supply
  generalize s.zeroNozzle .supply = a at *
  obtain ⟨same2, flt2, others2, extract⟩ := a.zeroNozzle_takes .extract
  generalize a.zeroNozzle .extract = b at *
  obtain ⟨same3, afc3, others3, supplyFilter⟩ := b.zeroFilter_takes .supply
  generalize b.zeroFilter .supply = c at *
  obtain ⟨same4, afc4, others4, extractFilter⟩ := c.zeroFilter_takes .extract
  generalize c.zeroFilter .extract = d at *
  rw [others1 .extract (by decide)] at extract
  rw [flt2, flt1] at supplyFilter
  rw [others3 .extract (by decide), flt2, flt1] at extractFilter
  have late := same3.trans same4
  refine ⟨((same1.trans same2).trans same3).trans same4, fun i => ?_⟩
  cases i with
  | supply =>
    refine ⟨?_, ?_⟩
    · rw [afc4, afc3, others2 .supply (by decide)]
      exact supply.mono fun k hk => late.stays k (same2.stays k hk)
    · rw [others4 .supply (by decide)]
      exact supplyFilter.mono same4.stays
  | extract =>
    refine ⟨?_, extractFilter⟩
    rw [afc4, afc3]
    exact extract.mono late.stays

/-! ### On the way into RUNNING -/

/-- What the steps of an entry before its posts leave alone, in a device that runs. -/
structure State.Enroute (s t : State) : Prop where
  pending : t.pending = s.pending
  osc : t.osc = s.osc
  door : t.flt.door = s.flt.door
  paths : ∀ i, (t.afc.path i).zeroOffset = (s.afc.path i).zeroOffset ∧ (t.afc.path i).flow = (s.afc.path i).flow
  filters : ∀ i, (t.flt.filter i).zeroOffset = (s.flt.filter i).zeroOffset
  channels : t.dio.channels = s.dio.channels
  owner : t.sup.owner = s.sup.owner
  stays : ∀ g, s.sup.flags.get g = true → t.sup.flags.get g = true

theorem State.Enroute.trans (h : s.Enroute t) (g : t.Enroute u) : s.Enroute u :=
  ⟨g.pending.trans h.pending, g.osc.trans h.osc, g.door.trans h.door,
    fun i => ⟨(g.paths i).1.trans (h.paths i).1, (g.paths i).2.trans (h.paths i).2⟩,
    fun i => (g.filters i).trans (h.filters i), g.channels.trans h.channels, g.owner.trans h.owner,
    fun f hf => g.stays f (h.stays f hf)⟩

theorem State.Enroute.of_records {l : List Flag} (h : s.Records l t) (flt : t.flt = s.flt) : s.Enroute t :=
  ⟨h.pending, h.osc, by rw [flt], fun _ => by rw [h.afc]; exact ⟨rfl, rfl⟩, fun _ => by rw [flt], by rw [h.dio], by rw [h.sup],
    h.stay⟩

/-- The state that runs, with BASE selected for the fans (R10, R188, R190). -/
def State.selected (s : State) : State :=
  ((s.setDevice .running).applyArb (s.setDevice .running).arb.reselect).propagate

theorem State.Enroute.of_settled {f : Frg} (h : SettledFrom a { s with frg := f } t) (hd : s.osc.device = .running) :
    s.Enroute t where
  pending := h.pending
  osc := by
    have kept := h.osc
    have running : t.osc.device = s.osc.device := (h.running hd).trans hd.symm
    dsimp only at kept
    rw [← running] at kept
    exact kept
  door := h.filterRest.2.2.2.1
  paths i := by
    obtain ⟨flow, -, -, zero, -⟩ := h.paths i
    exact ⟨zero, flow⟩
  filters i := by
    have kept := congrArg Filter.zeroOffset (h.filters i)
    exact kept
  channels := congrArg Dio.channels h.dio
  owner := h.owner
  stays := h.flagsStay

/-- An entry's way from the end of the zeroing to its evaluation. -/
theorem State.selected_enroute (s : State) :
    (s.updOsc fun o => { o with device := .running }).Enroute s.selected
    ∧ SettledFrom [] (s.updOsc fun o => { o with device := .running }) s.selected := by
  have raised : SettledFrom [] (s.updOsc fun o => { o with device := .running }) (s.setDevice .running) := .raise _ _ _ _
  have chosen := SettledFrom.applyArb (s.setDevice .running) _ (.reselect _) (Arb.reselect_reports _) (touched := [])
  have settled := (raised.next chosen).next (.propagate _)
  exact ⟨.of_settled settled rfl, settled⟩

theorem State.entryEvaluation_enroute (hd : s.osc.device = .running) : s.Enroute s.entryEvaluation
    ∧ s.entryEvaluation.hum = s.hum ∧ s.entryEvaluation.dio = s.dio := by
  have settled := SettledFrom.evaluateFrost (s.updFrg fun g => { g with evalTimer := 0 })
  exact ⟨.of_settled settled hd, settled.hum, settled.dio⟩

/-- Without flow the load stands (R54). -/
theorem nextLoad_still {n : Nat} (h : n ≤ 65535) (r : Regime) (m e : Option Int) : nextLoad n r m e 0 = n := by
  unfold nextLoad
  split
  · rfl
  all_goals
    split
    · split
      · simpa using h
      · split <;> simp
    · rfl

theorem State.entryEvaluation_frost (s : State) : s.entryEvaluation.frg.evalTimer = 0
    ∧ (s.afc.extract.flow = some 0 → s.frg.load ≤ 65535 → s.entryEvaluation.frg.load = s.frg.load) := by
  obtain ⟨w, hw⟩ : ∃ w, w = s.updFrg fun g => { g with evalTimer := 0 } := ⟨_, rfl⟩
  have shown : s.entryEvaluation = w.evaluateFrost := by rw [hw]; rfl
  have load : w.frg.load = s.frg.load := by rw [hw]; rfl
  rw [shown]
  refine ⟨by rw [State.evaluateFrost_evalTimer, hw]; rfl, fun flow low => ?_⟩
  have still : w.qEta = 0 := by
    unfold State.qEta
    rw [hw, State.updFrg_afc, flow]
  rw [State.evaluateFrost_load, State.loadNow, still, load]
  exact nextLoad_still low _ _ _

/-- The way out of STARTING up to the evaluation. -/
def State.begun (s : State) : State := s.selected.startLoad.activateHumidity

theorem State.begun_effect (s : State) (ht : t = s.begun) : (s.updOsc fun o => { o with device := .running }).Enroute t
    ∧ t.hum.active = true ∧ t.hum.ringTimer = 0 ∧ t.dio = s.dio
    ∧ t.frg.load = if s.frg.odaInUse < -100 then s.setting 32 / 2 else s.frg.load := by
  obtain ⟨enroute, settled⟩ := s.selected_enroute
  have shown : t = s.selected.startLoad.activateHumidity := ht
  have settings : s.selected.setting 32 = s.setting 32 := by
    rw [State.setting, enroute.osc]
    rfl
  have dio := settled.dio
  have load : s.selected.frg.load = s.frg.load := settled.frost_get Frg.load fun _ _ _ _ _ _ _ _ => rfl
  have oda : s.selected.frg.odaInUse = s.frg.odaInUse := settled.frost_get Frg.odaInUse fun _ _ _ _ _ _ _ _ => rfl
  generalize s.selected = b at *
  have started : b.Enroute b.startLoad ∧ b.startLoad.dio = b.dio
      ∧ b.startLoad.frg.load = if s.frg.odaInUse < -100 then s.setting 32 / 2 else s.frg.load := by
    unfold State.startLoad
    rw [oda, ← settings, ← load]
    split
    · exact ⟨⟨rfl, rfl, rfl, fun _ => ⟨rfl, rfl⟩, fun _ => rfl, rfl, rfl, fun _ => id⟩, rfl, rfl⟩
    · exact ⟨⟨rfl, rfl, rfl, fun _ => ⟨rfl, rfl⟩, fun _ => rfl, rfl, rfl, fun _ => id⟩, rfl, rfl⟩
  obtain ⟨route, dio', load'⟩ := started
  generalize b.startLoad = c at *
  obtain ⟨w, hw⟩ : ∃ w, w = c.updHum fun h => { h with active := true, ringTimer := 0 } := ⟨_, rfl⟩
  have derived : t = w.deriveHumidity := by rw [shown, hw]; rfl
  obtain ⟨records, hum, flt⟩ := w.deriveHumidity_same
  rw [← derived] at records hum flt
  have active : c.Enroute w := by
    rw [hw]
    exact ⟨rfl, rfl, rfl, fun _ => ⟨rfl, rfl⟩, fun _ => rfl, rfl, rfl, fun _ => id⟩
  refine ⟨((enroute.trans route).trans active).trans (.of_records records flt), ?_, ?_, ?_, ?_⟩
  · rw [hum, hw]
    rfl
  · rw [hum, hw]
    rfl
  · rw [records.dio, hw]
    exact dio'.trans dio
  · rw [records.frg, hw]
    exact load'

/-! ### The table -/

/-- The state without the mark of a last second (log 3), which a selection takes away. -/
def State.unmarked (s : State) : State := s.updArb fun a => { a with expiring := false }

theorem State.selected_unmarked (s : State) : s.unmarked.selected = s.selected := by
  have chosen (b : Arb) : ({ b with expiring := false } : Arb).reselect = b.reselect := by
    unfold Arb.reselect
    have same : ({ b with expiring := false } : Arb).winner = b.winner := rfl
    rw [same]
    cases b.winner <;> rfl
  have device : (s.unmarked).setDevice .running = (s.setDevice .running).unmarked := by
    unfold State.setDevice
    rw [State.raise_eq _ _ _ _ rfl rfl rfl, State.raise_eq _ _ _ _ rfl rfl rfl]
    rfl
  unfold State.selected
  rw [device]
  generalize s.setDevice .running = v
  have arb : v.unmarked.arb.reselect = v.arb.reselect := chosen v.arb
  rw [arb]
  rfl

theorem State.enterFromStarting_eq (s : State) : s.enterFromStarting
    = (((s.begun.entryEvaluation.updDio fun d => { d with released := true }).updHum fun h =>
      { h with pollTimer := some 0 }).pollRound).finishEntry .idle := rfl

theorem State.enterFromWaking_eq (s : State) :
    s.enterFromWaking = s.selected.entryEvaluation.finishEntry s.frg.defrost.phase := rfl

theorem State.entry_demands (h : s.demandsOk) :
    (s.osc.device = .starting → s.enterFromStarting.demandsOk) ∧ (s.osc.device = .waking → s.enterFromWaking.demandsOk) := by
  have ok : s.unmarked.demandsOk := ⟨⟨h.1.placed, h.1.apart, h.1.top, h.1.base⟩, h.2⟩
  have timed : s.unmarked.arb.markTimed := Arb.markHas.ofFalse rfl
  have starting : s.unmarked.enterFromStarting = s.enterFromStarting := by
    rw [State.enterFromStarting_eq, State.enterFromStarting_eq, State.begun, s.selected_unmarked, ← State.begun]
  have waking : s.unmarked.enterFromWaking = s.enterFromWaking := by
    rw [State.enterFromWaking_eq, State.enterFromWaking_eq, s.selected_unmarked]
    rfl
  refine ⟨fun hd => ?_, fun hd => ?_⟩
  · rw [← starting]
    exact (((Keeps.refl true true true s.unmarked).enterFromStarting hd).demands rfl ok timed).1
  · rw [← waking]
    exact (((Keeps.refl true true true s.unmarked).enterFromWaking hd fun hp hr => hr.suspended hp).demands rfl ok timed).1

/-! ### The end of the entry -/

/-- What the end of the zeroing leaves, where the device has come by `w` to its entry (R22, R138). -/
structure State.Landed (s w t : State) : Prop where
  pending : t.pending = s.pending
  osc : t.osc = { s.osc with device := if s.flt.door = .opened then .doorOpen else .running }
  paths : ∀ i, (t.afc.path i).zeroOffset = (s.afc.path i).zeroOffset
  filters : ∀ i, (t.flt.filter i).zeroOffset = (s.flt.filter i).zeroOffset
  channels : t.dio.channels = s.dio.channels
  owner : t.sup.owner = s.sup.owner
  stays : ∀ g, s.sup.flags.get g = true → t.sup.flags.get g = true
  timer : t.frg.evalTimer = w.frg.evalTimer
  load : t.frg.load = w.frg.load

theorem State.Entered.lands {w : State} (h : w.Entered t) (e : (s.updOsc fun o => { o with device := .running }).Enroute w) :
    s.Landed w t where
  pending := h.settled.pending.trans e.pending
  osc := by
    have kept := h.settled.osc
    have same : t.osc = { w.osc with device := t.osc.device } := kept
    have door : w.flt.door = s.flt.door := e.door
    rw [same, e.osc, h.device, door]
    rfl
  paths i := by
    obtain ⟨-, -, -, zero, -⟩ := h.settled.paths i
    exact zero.trans (e.paths i).1
  filters i := by
    have kept := congrArg Filter.zeroOffset (h.settled.filters i)
    exact kept.trans (e.filters i)
  channels := by
    have kept := congrArg Dio.channels h.dio
    exact kept.trans e.channels
  owner := h.owner.trans e.owner
  stays g hg := h.stays g (e.stays g hg)
  timer := h.settled.frost_get Frg.evalTimer fun _ _ _ _ _ _ _ _ => rfl
  load := h.settled.frost_get Frg.load fun _ _ _ _ _ _ _ _ => rfl

/-- What the entry from STARTING leaves beside (R22, R55, R92, R104, R155, R188). -/
theorem State.enterFromStarting_lands (s : State) (ht : t = s.enterFromStarting) : ∃ w, s.Landed w t
    ∧ w.frg.evalTimer = 0 ∧ t.dio.released = true ∧ t.hum.active = true ∧ t.hum.pollTimer = some 0 ∧ t.hum.ringTimer = 0
    ∧ (s.dio.asserted .fire = true → t.dio.fireMark = true ∧ ∃ c, t.Internal .fire 15 c none)
    ∧ (s.afc.extract.flow = some 0 → s.frg.load = 0 → s.setting 32 ≤ 30000 →
      w.frg.load = if s.frg.odaInUse < -100 then s.setting 32 / 2 else 0) := by
  rw [State.enterFromStarting_eq] at ht
  obtain ⟨route, active, ring, dio, load⟩ := State.begun_effect s rfl
  generalize s.begun = b at *
  have running : b.osc.device = .running := by rw [route.osc]; rfl
  obtain ⟨route', hum, dio'⟩ := State.entryEvaluation_enroute running
  obtain ⟨timer, stands⟩ := b.entryEvaluation_frost
  generalize b.entryEvaluation = c at *
  rw [State.pollRound_eq] at ht
  generalize hw : ({ State.updHum _ _ with hum := _ } : State) = w at ht
  have last : c.Enroute w := by
    rw [← hw]
    exact ⟨rfl, rfl, rfl, fun _ => ⟨rfl, rfl⟩, fun _ => rfl, rfl, rfl, fun _ => id⟩
  have whole := (route.trans route').trans last
  have frost : w.frg = c.frg := by rw [← hw]; rfl
  have polled : w.hum.active = c.hum.active ∧ w.hum.ringTimer = c.hum.ringTimer ∧ w.hum.pollTimer = some 0 := by
    rw [← hw]
    exact ⟨rfl, rfl, rfl⟩
  have freed : w.dio.released = true := by rw [← hw]; rfl
  have contacts : w.dio.asserted .fire = s.dio.asserted .fire := by
    rw [← dio, ← dio', ← hw]
    rfl
  clear hw
  have device : w.osc.device = .running := by rw [whole.osc]; rfl
  have entered := State.finishEntry_entered device .idle
  rw [← ht] at entered
  have hum' := entered.hum
  have marks := entered.dio
  refine ⟨w, entered.lands whole, by rw [frost, timer], ?_, ?_, ?_, ?_, fun asserted => entered.fire (by rwa [contacts]),
    fun flow empty low => ?_⟩
  · have kept := congrArg Dio.released marks
    exact kept.trans freed
  · have kept := congrArg Hum.active hum'
    exact kept.trans (polled.1.trans (by rw [hum, active]))
  · have kept := congrArg Hum.pollTimer hum'
    exact kept.trans polled.2.2
  · have kept := congrArg Hum.ringTimer hum'
    exact kept.trans (polled.2.1.trans (by rw [hum, ring]))
  · have still : b.afc.extract.flow = some 0 := (route.paths .extract).2.trans flow
    rw [frost, stands still (by rw [load]; split <;> omega), load, empty]

theorem State.enterFromWaking_lands (s : State) (ht : t = s.enterFromWaking) : ∃ w, s.Landed w t
    ∧ w.frg.evalTimer = 0 ∧ (s.dio.asserted .fire = true → t.dio.fireMark = true ∧ ∃ c, t.Internal .fire 15 c none)
    ∧ (s.osc.device = .waking → s.frg.defrost.phase = .suspended → t.Internal .defrost 13 (.flows 0 (s.setting 11)) none)
    ∧ t.dio.released = s.dio.released ∧ t.hum.active = s.hum.active ∧ t.hum.pollTimer = s.hum.pollTimer
    ∧ t.hum.bus = s.hum.bus
    ∧ (s.afc.extract.flow = some 0 → s.frg.load ≤ 65535 → w.frg.load = s.frg.load) := by
  rw [State.enterFromWaking_eq] at ht
  have waits (hd : s.osc.device = .waking) :=
    ((Keeps.selectFirst (Keeps.refl true true true s) (.inr hd) rfl).propagate.entryEvaluation).waits rfl
  obtain ⟨route, settled⟩ := s.selected_enroute
  have running : s.selected.osc.device = .running := by rw [route.osc]; rfl
  obtain ⟨route', hum, dio'⟩ := State.entryEvaluation_enroute running
  obtain ⟨timer, stands⟩ := s.selected.entryEvaluation_frost
  have load : s.selected.frg.load = s.frg.load := settled.frost_get Frg.load fun _ _ _ _ _ _ _ _ => rfl
  have shown : s.selected.entryEvaluation
      = ((s.setDevice .running).applyArb (s.setDevice .running).arb.reselect).propagate.entryEvaluation := rfl
  rw [← shown] at waits
  clear shown
  generalize s.selected = b at *
  have hum0 : b.hum = s.hum := settled.hum
  have dio0 : b.dio = s.dio := settled.dio
  generalize b.entryEvaluation = w at *
  have whole := route.trans route'
  have device : w.osc.device = .running := by rw [whole.osc]; rfl
  have settings : w.setting 11 = s.setting 11 := by
    rw [State.setting, whole.osc]
    rfl
  have entered := State.finishEntry_entered device s.frg.defrost.phase
  rw [← ht] at entered
  have reposts (hp : w.frg.defrost.phase ≠ .prepare) := State.finishEntry_reposts device hp
  rw [settings] at reposts
  have hum' := entered.hum
  have marks := entered.dio
  refine ⟨w, entered.lands whole, timer, ?_, fun hd hp => ?_, ?_, ?_, ?_, ?_, fun flow low => ?_⟩
  · exact fun asserted => entered.fire (by rwa [dio', dio0])
  · have posts : s.frg.defrost.phase.posts := .inr (.inr (.inr hp))
    rw [ht, hp]
    refine reposts fun prepare => ?_
    have later := (waits hd posts).1
    rw [prepare] at later
    simp [DefrostPhase.posts] at later
  · have kept := congrArg Dio.released marks
    exact kept.trans (by rw [dio', dio0])
  · have kept := congrArg Hum.active hum'
    exact kept.trans (by rw [hum, hum0])
  · have kept := congrArg Hum.pollTimer hum'
    exact kept.trans (by rw [hum, hum0])
  · have kept := congrArg Hum.bus hum'
    exact kept.trans (by rw [hum, hum0])
  · have still : b.afc.extract.flow = some 0 := (route.paths .extract).2.trans flow
    rw [stands still (by rw [load]; exact low), load]

theorem execZeroingComplete_enters (hs : 18 ≤ s.osc.stoppedSecs) :
    (s.osc.device = .starting → execZeroingComplete s = .next s.zeroAll.enterFromStarting)
    ∧ (s.osc.device = .waking → execZeroingComplete s = .next s.zeroAll.enterFromWaking) := by
  have due : Config.zeroingDelay + Config.zeroingReadings ≤ s.osc.stoppedSecs := hs
  unfold execZeroingComplete
  rw [if_pos due]
  generalize s.zeroAll.enterFromStarting = t
  generalize s.zeroAll.enterFromWaking = u
  exact ⟨fun e => by rw [e], fun e => by rw [e]⟩

end Zeroing

end Sys2Proof.Machine

/-- Settles O48. -/
theorem zeroingCompletes : Obligations.ZeroingCompletes := by
  intro s hd hs
  obtain ⟨same, offsets⟩ := s.zeroAll_takes
  obtain ⟨starting, waking⟩ := execZeroingComplete_enters hs
  have demands := State.entry_demands (s := s.zeroAll)
  generalize s.zeroAll = z at *
  have settings (n : Nat) : z.setting n = s.setting n := by rw [State.setting, same.osc, ← State.setting]
  have fire : z.dio.asserted .fire = s.dio.asserted .fire := by rw [same.dio]
  have flow := same.flows .extract
  have landed (t w : State) (h : z.Landed w t) (ht : w.frg.evalTimer = 0) :
      t.osc = { s.osc with device := if s.flt.door = .opened then .doorOpen else .running }
      ∧ (∀ (i : PathId) (sum x : Int) (fault : Bool),
        (sum = (s.afc.path i).zeroSum ∧ fault = (s.afc.path i).zeroFault ∧ x = (t.afc.path i).zeroOffset
          ∨ sum = (s.flt.filter i).zeroSum ∧ fault = (s.flt.filter i).zeroFault ∧ x = (t.flt.filter i).zeroOffset) →
        ZeroTaken sum fault x t.sup.flags)
      ∧ t.frg.evalTimer = 0 ∧ t.dio.channels = s.dio.channels ∧ t.pending = s.pending ∧ t.sup.owner = s.sup.owner := by
    refine ⟨by rw [h.osc, same.osc, same.door], fun i sum x fault hx => ?_, h.timer.trans ht,
      h.channels.trans (by rw [same.dio]), h.pending.trans same.pending, h.owner.trans same.owner⟩
    rcases hx with ⟨rfl, rfl, rfl⟩ | ⟨rfl, rfl, rfl⟩
    · rw [h.paths]
      exact (offsets i).1.mono h.stays
    · rw [h.filters]
      exact (offsets i).2.mono h.stays
  have selects (t : State) (ok : t.demandsOk) (osc : t.osc = { s.osc with device := if s.flt.door = .opened then .doorOpen else .running }) :
      t.arb.active ≠ none ∧ ∃ d, t.arb.table.base = some d := by
    obtain ⟨d, base, -⟩ := ok.1.base
    obtain ⟨-, active⟩ := ok
    refine ⟨?_, d, base⟩
    rw [osc] at active
    dsimp only at active
    by_cases door : s.flt.door = .opened
    · rw [if_pos door] at active
      exact active
    · rw [if_neg door] at active
      exact active
  have enters (ok : s.demandsOk) : z.demandsOk := by
    unfold State.demandsOk
    rw [same.arb, same.osc]
    exact ok
  rcases hd with e | e
  · obtain ⟨t, ht⟩ : ∃ t, t = z.enterFromStarting := ⟨_, rfl⟩
    have shown : exec .zeroingComplete s = .next t := ht ▸ starting e
    obtain ⟨w, h, timer, released, active, poll, ring, fires, load⟩ := State.enterFromStarting_lands z ht
    obtain ⟨osc, zeros, evaluated, channels, pending, owner⟩ := landed t w h timer
    refine ⟨t, shown, osc, fun i sum x fault hx => ?_, evaluated, channels, pending, owner,
      fun ok => selects t (ht ▸ (demands (enters ok)).1 (by rw [same.osc, e])) osc, fun asserted => ?_,
      fun _ => ⟨released, active, poll, ring, fun still empty low => ?_⟩, fun e' => absurd (e.symm.trans e') nofun,
      fun e' => absurd (e.symm.trans e') nofun⟩
    · obtain ⟨faulted, mean, far⟩ := zeros i sum x fault hx
      exact ⟨faulted, mean, far⟩
    · obtain ⟨mark, c, d, held, level, -⟩ := fires (by rw [fire]; exact asserted)
      exact ⟨d, held, level, mark⟩
    · rw [h.load, load (flow.trans still) (by rw [same.frg]; exact empty) (by rw [settings]; exact low), same.frg, settings]
  · obtain ⟨t, ht⟩ : ∃ t, t = z.enterFromWaking := ⟨_, rfl⟩
    have shown : exec .zeroingComplete s = .next t := ht ▸ waking e
    obtain ⟨w, h, timer, fires, reposts, released, active, poll, bus, load⟩ := State.enterFromWaking_lands z ht
    obtain ⟨osc, zeros, evaluated, channels, pending, owner⟩ := landed t w h timer
    refine ⟨t, shown, osc, fun i sum x fault hx => ?_, evaluated, channels, pending, owner,
      fun ok => selects t (ht ▸ (demands (enters ok)).2 (by rw [same.osc, e])) osc, fun asserted => ?_,
      fun e' => absurd (e.symm.trans e') nofun, fun _ hp => ?_, fun _ => ⟨?_, ?_, ?_, ?_, fun still low => ?_⟩⟩
    · obtain ⟨faulted, mean, far⟩ := zeros i sum x fault hx
      exact ⟨faulted, mean, far⟩
    · obtain ⟨mark, c, d, held, level, -⟩ := fires (by rw [fire]; exact asserted)
      exact ⟨d, held, level, mark⟩
    · have posted := reposts (by rw [same.osc, e]) (by rw [same.frg, hp])
      rwa [settings] at posted
    · rw [released, same.dio]
    · rw [active, same.hum]
    · rw [poll, same.hum]
    · rw [bus, same.hum]
    · rw [h.load, load (flow.trans still) (by rw [same.frg]; exact low), same.frg]

end

section
/-! The contacts, their debouncing, and the cutout line. -/

open Sys2Proof Sys2Proof.Machine

namespace Sys2Proof.Machine

section Contacts

variable {s t u : State} {a : List Slot}

/-! ### Channels -/

theorem Dio.updChannel_channel (d : Dio) (n : Nat) (f : Channel → Channel) (k : Nat) :
    (d.updChannel n f).channel k = if k = n then (d.channel n).map f else d.channel k := by
  have zero (b : Dio) : b.channel 0 = none := rfl
  by_cases hn : n = 0
  · have kept : d.updChannel n f = d := if_pos hn
    rw [kept]
    split
    · next hk => rw [hk, hn, zero, Option.map_none]
    · rfl
  · by_cases h0 : k = 0
    · rw [h0, zero, zero, if_neg (Ne.symm hn)]
    · rw [Dio.channel_updChannel hn d f h0]
      split
      · next hk => rw [hk]
      · rfl

/-- What a channel takes as contact leaves the sense of the functions alone (R145). -/
theorem Dio.updChannel_level (d : Dio) (n : Nat) {f : Channel → Channel}
    (hf : ∀ c : Channel, (f c).function = c.function ∧ (f c).sense = c.sense) (g : InputFunction) :
    (d.updChannel n f).level g = d.level g := by
  have modified (l : List Channel) (k : Nat) : (l.modify k f).any (fun c => c.function == g && c.sense == .level)
      = l.any fun c => c.function == g && c.sense == .level := by
    induction l generalizing k with
    | nil => simp
    | cons c l ih =>
      cases k with
      | zero => simp [hf]
      | succ k => simp [ih]
  unfold Dio.updChannel Dio.level
  split
  · rfl
  · exact modified _ _

/-- What a debounced channel leads to (R144, R145). -/
theorem execInputDebounced_eq {n : Nat} {ch : Channel} (h : s.dio.channel n = some ch) (hc : ch.contact ≠ some ch.raw) {d : Dio}
    (hd : d = s.dio.updChannel n Channel.settle) :
    (d.asserted ch.function = s.dio.asserted ch.function → execInputDebounced n s = .next { s with dio := d })
    ∧ (d.asserted ch.function ≠ s.dio.asserted ch.function →
      (ch.contact = none → execInputDebounced n s = .next (({ s with dio := d } : State).functionEstablished ch.function))
      ∧ (ch.contact ≠ none → execInputDebounced n s
        = .next (({ s with dio := d } : State).functionChanged ch.function (d.asserted ch.function)))) := by
  have row : execInputDebounced n s = .next (s.debounced n ch) := by
    unfold execInputDebounced
    rw [h]
    exact if_neg hc
  have shown : s.debounced n ch = if s.dio.asserted ch.function = d.asserted ch.function then { s with dio := d }
      else if ch.contact.isNone then ({ s with dio := d } : State).functionEstablished ch.function
      else ({ s with dio := d } : State).functionChanged ch.function (d.asserted ch.function) := by
    rw [hd]
    rfl
  rw [row, shown]
  refine ⟨fun e => congrArg Host.Outcome.next (if_pos e.symm), fun e => ?_⟩
  rw [if_neg (Ne.symm e)]
  exact ⟨fun hn => congrArg Host.Outcome.next (if_pos (by rw [hn]; rfl)),
    fun hn => congrArg Host.Outcome.next (if_neg (by simpa using hn))⟩

/-! ### The last round of a propagation -/

theorem State.propagate_last (s : State) : ∃ t : State, SettledFrom [] s t ∧ s.propagate = t.stagedRound :=
  ⟨_, (((SettledFrom.deriveStage s).next (.stagedRound _)).next (.stagedRound _)).next (.stagedRound _), rfl⟩

/-- Outside RUNNING, and with the cutout OPEN, no duty is applied (R57). -/
theorem State.propagate_noDuty (h : s.osc.device ≠ .running ∨ s.frg.cutout = .opened) : s.propagate.frg.applied = 0 := by
  obtain ⟨t, settled, shown⟩ := s.propagate_last
  have cutout : t.frg.cutout = s.frg.cutout := settled.frost_get Frg.cutout fun _ _ _ _ _ _ _ _ => rfl
  rw [shown, State.stagedRound, (State.Rests.deriveStage t.round).frg]
  refine t.round_heater.2.trans ?_
  have denied : t.forceRequest.serveFans.heaterAllowed = false := by
    have frg : t.forceRequest.serveFans.frg.cutout = t.frg.cutout := by
      rw [State.serveFans_frg]
      unfold State.forceRequest
      split <;> rfl
    have osc : t.forceRequest.serveFans.osc = t.osc := by rw [State.serveFans_osc, (State.SameTable.forceRequest t).osc]
    unfold State.heaterAllowed
    rw [frg, osc, cutout]
    rcases h with h | h
    · have stopped : t.osc.device ≠ .running := by
        rcases settled.device with e | ⟨-, e⟩ | ⟨-, e⟩ <;> rw [e]
        · exact h
        all_goals exact nofun
      simp [stopped]
    · simp [h]
  rw [denied]
  rfl

/-! ### A change without sequel for the capture record -/

/-- While no cut condition holds and no check start is due, a propagation takes no capture. -/
structure State.Calm (s t : State) : Prop where
  osc : t.osc = s.osc
  arb : t.arb = s.arb
  test : t.flt.startTestDue = false
  sup : t.sup = { s.sup with flags := t.sup.flags }
  paths : ∀ i, (t.afc.path i).state ≠ .stalled ∧ (t.afc.path i).state ≠ .failed

theorem State.Calm.refl (test : s.flt.startTestDue = false)
    (paths : ∀ i, (s.afc.path i).state ≠ .stalled ∧ (s.afc.path i).state ≠ .failed) : s.Calm s :=
  ⟨rfl, rfl, test, rfl, paths⟩

theorem State.Calm.rests (h : s.Calm t) (g : t.Rests u) (afc : ∀ i, (u.afc.path i).state ≠ .stalled ∧ (u.afc.path i).state ≠ .failed) :
    s.Calm u where
  osc := g.osc.trans h.osc
  arb := g.arb.trans h.arb
  test := by rw [g.flt, h.test]
  sup := by
    have later := g.sup
    rw [h.sup] at later
    exact later
  paths := afc

theorem State.Calm.deriveStage (h : s.Calm t) : s.Calm t.deriveStage :=
  h.rests (.deriveStage t) (by rw [State.deriveStage_afc]; exact h.paths)

theorem State.Calm.round (h : s.Calm t) (hc : s.osc.device ≠ .doorOpen ∧ s.osc.device ≠ .filterService ∧ s.arb.active ≠ some .fire) :
    s.Calm t.round := by
  obtain ⟨v, hv⟩ : ∃ v, v = t.forceRequest.serveFans := ⟨_, rfl⟩
  have forced : s.Calm t.forceRequest := by
    unfold State.forceRequest
    split
    · exact ⟨h.osc, h.arb, h.test, h.sup, h.paths⟩
    · exact h
  have served : s.Calm v := hv ▸ forced.rests (.serveFans _) fun i => by
    obtain ⟨r, eq⟩ := t.forceRequest.serveFans_path i
    rw [eq]
    obtain ⟨h1, h2⟩ := forced.paths i
    exact not_or.mp fun lost => (FanPath.serve_lost lost).elim h1 h2
  have duty : v.deriveDuty.osc = v.osc ∧ v.deriveDuty.arb = v.arb ∧ v.deriveDuty.flt = v.flt ∧ v.deriveDuty.sup = v.sup
      ∧ v.deriveDuty.afc = v.afc := by
    unfold State.deriveDuty State.applyDuty
    dsimp only
    generalize (if v.heaterAllowed = true then v.frg.request else 0) = n
    split
    · exact ⟨rfl, rfl, rfl, rfl, rfl⟩
    · split
      · exact ⟨rfl, rfl, rfl, rfl, rfl⟩
      · split <;> exact ⟨rfl, rfl, rfl, rfl, rfl⟩
  obtain ⟨osc, arb, flt, sup, afc⟩ := duty
  have shown : t.round = v.deriveDuty.cutRunOn.startTest := by rw [hv]; rfl
  rw [shown]
  generalize v.deriveDuty = w at *
  have calm : s.Calm w := ⟨osc.trans served.osc, arb.trans served.arb, by rw [flt, served.test], by rw [sup]; exact served.sup,
    by rw [afc]; exact served.paths⟩
  have uncut : w.cutRunOn = w := by
    have none' : w.cutCondition = none :=
      State.cutCondition_none.mpr ⟨by rw [calm.osc]; exact hc.1, by rw [calm.osc]; exact hc.2.1, by rw [calm.arb]; exact hc.2.2, calm.paths⟩
    unfold State.cutRunOn
    rw [none']
  rw [uncut, State.startTest_notDue calm.test]
  exact calm

theorem State.propagate_calm (hc : s.cutCondition = none) (test : s.flt.startTestDue = false) :
    s.propagate.sup = { s.sup with flags := s.propagate.sup.flags } := by
  obtain ⟨h1, h2, h3, paths⟩ := State.cutCondition_none.mp hc
  exact (State.propagate_rounds (P := s.Calm) (fun t ht => ht.deriveStage) (fun t ht => ht.round ⟨h1, h2, h3⟩)
    (.refl test paths)).sup

/-! ### The cutout line -/

/-- The cutout line as FRG takes it, before the fault (R59, R152). -/
theorem State.reportCutout_effect (s : State) (c : Contact) (ht : t = s.reportCutout c) :
    t.frg.cutout = c ∧ t.dio = s.dio
    ∧ SettledFrom [] { s with frg := { s.frg with cutout := c }, sup := t.sup } t
    ∧ (∀ g, g ≠ .heaterCutout → g ≠ .runOnCut → g ≠ .noticesLost → t.sup.flags.get g = s.sup.flags.get g)
    ∧ (c = .opened → t.frg.applied = 0 ∧ t.sup.flags.get .heaterCutout = true ∧ t.sup.capture ≠ none
      ∧ (s.cutCondition = none → s.flt.startTestDue = false → s.sup.capture = none →
        t.sup.capture = some (.fault .heaterCutout 0 (min s.frg.applied 32767 : Nat) s.osc.uptime))
      ∧ (s.atRest → s.sup.capture = none → t.sup.capture = some (.fault .heaterCutout 0 0 s.osc.uptime)))
    ∧ (c = .closed → t.sup.flags.get .heaterCutout = s.sup.flags.get .heaterCutout) := by
  obtain ⟨w, hw⟩ : ∃ w, w = (s.updFrg fun g => { g with cutout := c }).propagate := ⟨_, rfl⟩
  have settled : SettledFrom [] { s with frg := { s.frg with cutout := c } } w := hw ▸ .propagate _
  have cutout : w.frg.cutout = c := settled.frost_get Frg.cutout fun _ _ _ _ _ _ _ _ => rfl
  have off (hc : c = .opened) : w.frg.applied = 0 := by
    rw [hw]
    exact State.propagate_noDuty (.inr hc)
  have calm (h : s.cutCondition = none) (test : s.flt.startTestDue = false) : w.sup.capture = s.sup.capture := by
    have kept := State.propagate_calm (s := s.updFrg fun g => { g with cutout := c }) h test
    rw [← hw] at kept
    rw [kept]
    rfl
  have rests (h : s.atRest) : w.sup.capture = s.sup.capture := by
    have kept := (State.Rests.propagate (s := s.updFrg fun g => { g with cutout := c }) h).sup
    rw [← hw] at kept
    rw [kept]
    rfl
  have uptime : w.osc.uptime = s.osc.uptime := by
    have kept := congrArg Osc.uptime settled.osc
    exact kept
  have closed (hc : c = .closed) : t = w := by
    subst hc
    exact ht.trans hw.symm
  have opened (hc : c = .opened) : t = w.faultEvent .heaterCutout 0 s.frg.applied := by
    subst hc
    rw [ht, hw]
    rfl
  clear ht hw
  cases c with
  | closed =>
    obtain rfl : t = w := closed rfl
    exact ⟨cutout, settled.dio, SettledFrom.ownSup (s := { s with frg := { s.frg with cutout := .closed } }) settled, fun g _ h2 h3 => settled.flags g h2 h3, nofun,
      fun _ => settled.flags _ (by decide) (by decide)⟩
  | opened =>
    have event := opened rfl
    have fault := SettledFrom.fault w .heaterCutout 0 s.frg.applied
    have apart := w.faultEvent_apart .heaterCutout 0 s.frg.applied
    have taken := w.faultEvent_taken .heaterCutout 0 s.frg.applied
    rw [← event] at fault apart taken
    have frg := congrArg State.frg apart
    dsimp only at frg
    have duty : clampI (s.frg.applied : Int) (-32768) 32767 = (min s.frg.applied 32767 : Nat) :=
      clampI_natCast _
    rw [duty, uptime] at taken
    refine ⟨by rw [frg, cutout], fault.dio.trans settled.dio, (settled.onSup t.sup).next fault, fun g h1 h2 h3 => ?_,
      fun _ => ⟨by rw [frg, off rfl], ?_, fun empty => ?_, fun h1 h2 h3 => ?_, fun h1 h2 => ?_⟩, nofun⟩
    · rw [taken.flags g h3, beq_eq_false_iff_ne.mpr h1, Bool.false_or]
      exact settled.flags g h2 h3
    · rw [taken.flags _ (by decide)]
      rfl
    · by_cases armed : w.sup.capture = none
      · exact absurd (empty.symm.trans (taken.armed armed).1) nofun
      · exact armed ((taken.held armed).1.symm.trans empty)
    · exact (taken.armed ((calm h1 h2).trans h3)).1
    · have idle : s.frg.applied = 0 := h1.2.1
      rw [(taken.armed ((rests h1).trans h2)).1, idle, Nat.zero_min]
      norm_num

end Contacts

end Sys2Proof.Machine

end

section
/-! What the functions of the discrete inputs do: BOOST and HOOD, FIRE and the filter door. -/

open Sys2Proof Sys2Proof.Machine

namespace Sys2Proof.Machine

section Functions

variable {s t u : State} {i : BoostInput} {r : Option Nat}

/-! ### BOOST and HOOD -/

theorem BoostInput.slot_spared (i : BoostInput) : i.slot ≠ .filterCheck ∧ i.slot ≠ .defrost ∧ i.slot ≠ .fire := by
  cases i <;> decide

theorem Dio.setMark_yes (d : Dio) (i : BoostInput) :
    d.setMark i true = { d with boostMark := d.boostMark || i.slot == .inputBoost, hoodMark := d.hoodMark || i.slot == .inputHood } := by
  cases i <;> simp [Dio.setMark, BoostInput.slot]

theorem Dio.setMark_no (d : Dio) (i : BoostInput) :
    d.setMark i false = { d with boostMark := d.boostMark && i.slot != .inputBoost, hoodMark := d.hoodMark && i.slot != .inputHood } := by
  cases i <;> simp [Dio.setMark, BoostInput.slot]

theorem Dio.mark_iff (d : Dio) (i : BoostInput) :
    (i.slot = .inputBoost ∧ d.boostMark = true ∨ i.slot = .inputHood ∧ d.hoodMark = true) ↔ d.mark i = true := by
  cases i <;> simp [Dio.mark, BoostInput.slot]

theorem Dio.setMark_marked {d : Dio} (h : d.mark i = true) : d.setMark i true = d := by
  cases i with
  | boost =>
    have mark : d.boostMark = true := h
    rw [Dio.setMark, ← mark]
  | hood =>
    have mark : d.hoodMark = true := h
    rw [Dio.setMark, ← mark]

/-- A post of BOOST or HOOD that no watch sees (R147, R148). -/
theorem State.postInput_missed (hd : s.osc.device.posting = true) (hw : s.arb.watch.enabled = false) :
    (s.postInput i r).2 = .ok ∧ ∀ t, t = (s.postInput i r).1.propagate →
      SettledFrom [i.slot] { s with dio := t.dio } t ∧ t.dio = s.dio.setMark i true
        ∧ t.Internal i.slot (s.inputLevel i) (s.inputFlows i) r := by
  obtain ⟨h1, h2, -⟩ := i.slot_spared
  have posted : s.internalPost i.slot (s.inputLevel i) (s.inputFlows i) r
      = (s.applyArb (s.arb.post i.slot (internalArgs (s.inputLevel i) (s.inputFlows i) r) s.osc.uptime), .ok) :=
    State.internalPost_missed hd (by simp [Watch.hits, hw])
  have held := s.applyPost_internal h1 h2 (s.inputLevel i) (s.inputFlows i) r
  have settled := SettledFrom.internalPost s i.slot (s.inputLevel i) (s.inputFlows i) r
  unfold State.postInput
  rw [posted] at settled ⊢
  generalize s.applyArb _ = w at *
  refine ⟨rfl, fun t ht => ?_⟩
  have follow := SettledFrom.propagate (w.updDio (·.setMark i true))
  have shown : t = (w.updDio (·.setMark i true)).propagate := ht
  rw [← shown] at follow
  have dio : t.dio = s.dio.setMark i true := follow.dio.trans (by rw [State.updDio_dio, settled.dio])
  refine ⟨?_, dio, State.Internal.settled (s := w.updDio (·.setMark i true)) held follow (by simp) h1 h2⟩
  have base := settled.onDio (t.dio)
  rw [follow.dio] at base ⊢
  exact (base.trans follow).weaken (by simp)

/-- What a WATCH capture of BOOST's or HOOD's post holds (R21). -/
def State.inputCapture (s : State) (i : BoostInput) : Capture :=
  .watch i.slot .internal (s.inputLevel i) (s.inputLevel i) (s.inputFlows i).figures.1 (s.inputFlows i).figures.2 none s.osc.uptime

/-- A post of BOOST or HOOD that the watch blocks (R18). -/
theorem State.postInput_blocked (hd : s.osc.device.posting = true)
    (hit : s.arb.watch.hits i.slot (s.arb.isFree i.slot) (s.inputLevel i) = true) (ha : s.arb.watch.action = .block)
    (hk : ∀ k, s.sup.capture = some k → k.isFault = false) :
    s.postInput i r = (s.offerCapture (s.inputCapture i), .blocked) := by
  have watched := State.watchTest_matched (n := s.inputLevel i) (l := none) (x := i.slot)
    (p := internalArgs (s.inputLevel i) (s.inputFlows i) r) hit hk
  obtain ⟨-, h2, h3⟩ := i.slot_spared
  have blocks : (s.arb.watch.action == .block && i.slot != .defrost && i.slot != .fire) = true := by simp [ha, h2, h3]
  rw [blocks] at watched
  have posted : s.internalPost i.slot (s.inputLevel i) (s.inputFlows i) r = (s.offerCapture (s.inputCapture i), .blocked) :=
    State.postCore_blocked hd watched
  unfold State.postInput
  rw [posted]
  rfl

/-- What a blocked post leaves, with what may follow it. -/
theorem State.blockedPost_follows (s : State) (i : BoostInput) {w : State} (hw : w = s.offerCapture (s.inputCapture i)) :
    { w with sup := s.sup, lnk := s.lnk } = s ∧ SettledFrom [] { s with sup := w.sup } w
    ∧ (s.sup.capture = none → w.sup.capture = some (s.inputCapture i))
    ∧ (s.sup.capture ≠ none → w.sup.capture = s.sup.capture)
    ∧ w.sup.missed = if s.sup.capture = none then 0 else min (s.sup.missed + 1) 255 := by
  obtain ⟨same, links, restarting, armed, held⟩ := s.offerCapture_taken (s.inputCapture i)
  rw [← hw] at same links restarting armed held
  refine ⟨same, ?_, fun hn => (armed hn).1, fun hn => by rw [held hn], ?_⟩
  · have shown := congrArg (fun z : State => ({ z with sup := w.sup, lnk := w.lnk } : State)) same
    change w = { s with sup := w.sup, lnk := w.lnk } at shown
    rw [shown]
    exact { SettledFrom.refl [] { s with sup := w.sup, lnk := w.lnk } with
      links := ⟨links .main, links .service, restarting⟩ }
  · split
    · next hn => exact (armed hn).2
    · next hn => rw [held hn]

/-- BOOST or HOOD becomes asserted (R147, R148). -/
theorem State.inputAsserted_effect (s : State) (i : BoostInput) :
    (s.osc.device.posting = false → s.inputAsserted i = s)
    ∧ (s.osc.device.posting = true → s.arb.watch.enabled = false → ∀ t, t = s.inputAsserted i →
      SettledFrom [i.slot] { s with dio := t.dio } t ∧ t.dio = s.dio.setMark i true
        ∧ t.Internal i.slot (s.inputLevel i) (s.inputFlows i) (if s.dio.level i.function then none else some (s.setting 15)))
    ∧ (s.osc.device.posting = true → s.arb.watch.hits i.slot (s.arb.isFree i.slot) (s.inputLevel i) = true →
      s.arb.watch.action = .block → (∀ k, s.sup.capture = some k → k.isFault = false) → ∀ t, t = s.inputAsserted i →
      SettledFrom [] { s with sup := t.sup } t
        ∧ (s.sup.capture = none → t.sup.capture = some (s.inputCapture i))
        ∧ (s.sup.capture ≠ none → t.sup.capture = s.sup.capture)
        ∧ (s.atRest → t.arb = s.arb ∧ t.sup.missed = if s.sup.capture = none then 0 else min (s.sup.missed + 1) 255)) := by
  refine ⟨fun hd => if_neg (by simp [hd]), fun hd hw t ht => ?_, fun hd hit ha hk t ht => ?_⟩
  · have shown : s.inputAsserted i = (s.postInput i (if s.dio.level i.function then none else some (s.setting 15))).1.propagate :=
      if_pos hd
    exact (State.postInput_missed hd hw).2 t (ht.trans shown)
  · obtain ⟨w, hw⟩ : ∃ w, w = s.offerCapture (s.inputCapture i) := ⟨_, rfl⟩
    have shown : t = w.propagate := by
      rw [ht, hw]
      unfold State.inputAsserted
      rw [if_pos hd, State.postInput_blocked hd hit ha hk]
    obtain ⟨same, settled, armed, held, missed⟩ := s.blockedPost_follows i hw
    have follow := SettledFrom.propagate w
    have rests (h : w.atRest) := State.Rests.propagate h
    rw [← shown] at follow rests
    have taken : w.sup.capture ≠ none := by
      by_cases hn : s.sup.capture = none
      · rw [armed hn]
        exact nofun
      · rwa [held hn]
    have capture := follow.capture taken
    refine ⟨SettledFrom.ownSup (settled.next follow), fun hn => capture.trans (armed hn), fun hn => capture.trans (held hn),
      fun hs => ?_⟩
    have quiet : w.atRest := by
      have was := hs
      rw [← same] at was
      exact was
    have arb := congrArg State.arb same
    have kept := rests quiet
    refine ⟨kept.arb.trans arb, ?_⟩
    rw [kept.sup]
    exact missed

/-- BOOST or HOOD becomes deasserted (R147, R148). -/
theorem State.inputDeasserted_effect (s : State) (i : BoostInput) :
    (s.osc.device.posting = false ∨ s.dio.level i.function = false ∨ s.dio.mark i = false → s.inputDeasserted i = s)
    ∧ (s.osc.device.posting = true → s.dio.level i.function = true → s.dio.mark i = true →
      (s.arb.watch.enabled = false → ∀ t, t = s.inputDeasserted i →
        SettledFrom [i.slot] s t ∧ t.Internal i.slot (s.inputLevel i) (s.inputFlows i) (some (s.setting 16)))
      ∧ (s.arb.watch.hits i.slot (s.arb.isFree i.slot) (s.inputLevel i) = true →
        s.arb.watch.action = .block → (∀ k, s.sup.capture = some k → k.isFault = false) → ∀ t, t = s.inputDeasserted i →
        SettledFrom [i.slot] { s with dio := t.dio, sup := t.sup } t ∧ t.arb.table.get i.slot = none
          ∧ t.dio = s.dio.setMark i false
          ∧ (s.sup.capture = none → t.sup.capture = some (s.inputCapture i))
          ∧ (s.sup.capture ≠ none → t.sup.capture = s.sup.capture)
          ∧ (s.atRest → t.arb = (s.arb.free i.slot).1
            ∧ t.sup.missed = if s.sup.capture = none then 0 else min (s.sup.missed + 1) 255))) := by
  refine ⟨fun h => if_neg (by rcases h with h | h | h <;> simp [h]), fun hd hl hm => ⟨fun hw t ht => ?_, fun hit ha hk t ht => ?_⟩⟩
  · obtain ⟨ok, posted⟩ := State.postInput_missed (r := some (s.setting 16)) hd hw
    have shown : t = (s.postInput i (some (s.setting 16))).1.propagate := by
      rw [ht]
      unfold State.inputDeasserted
      rw [if_pos ⟨hd, hl, hm⟩]
      generalize s.postInput i (some (s.setting 16)) = q at ok ⊢
      dsimp only
      rw [if_pos ok]
    obtain ⟨settled, dio, held⟩ := posted t shown
    rw [dio, Dio.setMark_marked hm] at settled
    exact ⟨settled, held⟩
  · obtain ⟨w, hw⟩ : ∃ w, w = s.offerCapture (s.inputCapture i) := ⟨_, rfl⟩
    obtain ⟨v, hv⟩ : ∃ v, v = w.updDio (·.setMark i false) := ⟨_, rfl⟩
    have shown : t = v.cancel i.slot := by
      have blocked := State.postInput_blocked (r := some (s.setting 16)) hd hit ha hk
      rw [← hw] at blocked
      rw [ht, hv, State.cancel_eq]
      unfold State.inputDeasserted
      rw [if_pos ⟨hd, hl, hm⟩, blocked]
      dsimp only
      rw [if_neg nofun]
    obtain ⟨same, settled, armed, held, missed⟩ := s.blockedPost_follows i hw
    have follow := v.cancel_settled i.slot
    obtain ⟨h1, h2, -⟩ := i.slot_spared
    have free := v.cancel_free ⟨h1, h2⟩
    rw [← shown] at follow free
    have taken : w.sup.capture ≠ none := by
      by_cases hn : s.sup.capture = none
      · rw [armed hn]
        exact nofun
      · rwa [held hn]
    have sup : v.sup = w.sup := by rw [hv]; rfl
    have capture : t.sup.capture = w.sup.capture := (follow.capture (by rw [sup]; exact taken)).trans (by rw [sup])
    have dio : t.dio = s.dio.setMark i false := by
      rw [follow.dio, hv, State.updDio_dio, settled.dio]
    have base : SettledFrom [] { s with dio := t.dio, sup := w.sup } v := by
      rw [follow.dio, hv]
      exact settled.onDio _
    have whole := (base.trans follow).weaken (b := [i.slot]) (by simp)
    refine ⟨SettledFrom.ownSup (s := { s with dio := t.dio }) whole, free, dio, fun hn => capture.trans (armed hn),
      fun hn => capture.trans (held hn), fun hs => ?_⟩
    have quiet : v.atRest := by
      have was := hs
      rw [← same] at was
      rw [hv]
      exact was
    have arb : v.arb = s.arb := by
      have kept := congrArg State.arb same
      rw [hv]
      exact kept
    have plain := v.arb.free_interrupts i.slot
    have table := State.applyArb_propagate_arb quiet plain
    have reports := (State.Reports.applyArb v (v.arb.free i.slot)).sup
    have rests := (State.Rests.propagate (State.applyArb_atRest quiet plain)).sup
    have cancelled : t = (v.applyArb (v.arb.free i.slot)).propagate := shown
    rw [← cancelled] at table rests
    refine ⟨by rw [table, arb], ?_⟩
    rw [rests, reports, sup]
    exact missed

theorem State.functionChanged_input (s : State) (i : BoostInput) : s.functionChanged i.function true = s.inputAsserted i
    ∧ s.functionChanged i.function false = s.inputDeasserted i := by
  cases i <;> exact ⟨rfl, rfl⟩

/-! ### FIRE -/

theorem State.postFire_hum (s : State) : s.postFire.hum = s.hum := by
  unfold State.postFire
  dsimp only
  split
  · exact State.internalPost_hum _ _ _ _ _
  · exact State.internalPost_hum _ _ _ _ _

theorem State.postFire_refused (hd : s.osc.device.posting = false) : s.postFire = s := by
  have refused : s.internalPost .fire 15 s.fireFlows none = (s, .refusedState) := if_neg (by simp [hd])
  unfold State.postFire
  rw [refused]
  rfl

/-- FIRE becomes asserted (R150). -/
theorem State.fireAsserted_effect (s : State) (ht : t = s.fireAsserted) : t.sup.flags.get .fireInput = true
    ∧ SettledFrom [.fire] { s with dio := t.dio, sup := { s.sup with flags := s.sup.flags.put .fireInput true } } t
    ∧ (s.osc.device.posting = true → t.dio.fireMark = true ∧ t.Internal .fire 15 s.fireFlows none)
    ∧ (s.osc.device.posting = false → t.dio = s.dio) := by
  obtain ⟨v, hv⟩ : ∃ v, v = s.setFlag .fireInput := ⟨_, rfl⟩
  have shown : t = v.postFire.propagate := by rw [ht, hv]; rfl
  have flags : v.sup.flags.get .fireInput = true := by
    rw [hv, State.setFlag, State.updSup_sup]
    dsimp only
    rw [FlagSet.get_put, if_pos rfl]
  have entered := (State.postFire_enters v (a := [.fire]) (by simp)).trans (State.propagate_enters _)
  rw [← shown] at entered
  have base : SettledFrom [.fire] { v with hum := t.hum, dio := t.dio } t := entered.apart
  have follow := SettledFrom.propagate v.postFire
  rw [← shown] at follow
  have hum : t.hum = s.hum := follow.hum.trans (v.postFire_hum.trans (by rw [hv]; rfl))
  refine ⟨base.flagsStay _ flags, ?_, fun hd => ?_, fun hd => ?_⟩
  · rw [hum, hv] at base
    exact base
  · obtain ⟨held, mark⟩ := State.postFire_posts (s := v) (by rw [hv]; exact hd)
    have flows : v.fireFlows = s.fireFlows := by rw [hv]; rfl
    rw [flows] at held
    exact ⟨by rw [follow.dio, mark], held.settled follow (by simp) (by decide) (by decide)⟩
  · have still := State.postFire_refused (s := v) (by rw [hv]; exact hd)
    rw [follow.dio, still, hv]
    rfl

/-- FIRE becomes deasserted (R150). -/
theorem State.fireDeasserted_effect (s : State) (ht : t = s.fireDeasserted) : t.arb.table.get .fire = none
    ∧ t.dio = { s.dio with fireMark := false } ∧ SettledFrom [.fire] { s with dio := t.dio } t := by
  obtain ⟨v, hv⟩ : ∃ v, v = s.updDio fun d => { d with fireMark := false } := ⟨_, rfl⟩
  have shown : t = v.cancel .fire := by rw [ht, hv]; rfl
  have settled := v.cancel_settled .fire
  have free := v.cancel_free (x := .fire) (by decide)
  rw [← shown] at settled free
  have dio : t.dio = { s.dio with fireMark := false } := settled.dio.trans (by rw [hv]; rfl)
  refine ⟨free, dio, ?_⟩
  rw [dio]
  rw [hv] at settled
  exact settled

/-! ### The filter door -/

/-- What the entry into DOOR_OPEN makes of a check in flight and of the heater (R56, R57, R138). -/
theorem State.enterDoorOpen_ends (s : State) (ht : t = s.enterDoorOpen) : t.flt.check.phase = .idle ∧ t.frg.applied = 0
    ∧ (s.flt.check.phase ≠ .idle → t.flt.check.outcome = some .door ∧ t.arb.table.filterCheck = none) := by
  obtain ⟨x, hx⟩ : ∃ x, x = s.abandonCheck .door := ⟨_, rfl⟩
  obtain ⟨v, hv⟩ : ∃ v, v = x.setDevice .doorOpen := ⟨_, rfl⟩
  obtain ⟨w, hw⟩ : ∃ w, w = v.propagate.faultEvent .doorUnplanned 0 0 := ⟨_, rfl⟩
  have shown : t = w.propagate := by rw [ht, hw, hv, hx]; rfl
  have idle : x.flt.check.phase = .idle := hx ▸ s.abandonCheck_idle .door
  have left (h : s.flt.check.phase ≠ .idle) : x.flt.check.outcome = some .door ∧ x.arb.table.get .filterCheck = none := by
    obtain ⟨flt, arb⟩ := State.abandonCheck_flies h .door
    rw [hx, flt, arb]
    exact ⟨rfl, s.arb.free_get_self .filterCheck⟩
  have flt : v.flt = x.flt := hv ▸ State.setDevice_flt _ _
  have arb : v.arb = x.arb := hv ▸ State.setDevice_arb _ _
  have device : v.osc.device = .doorOpen := by rw [hv, State.setDevice_osc]
  have first := State.CheckEnded.propagate (s := v) (by rw [flt, idle]) (.inr (.inl (by rw [device]; exact nofun)))
  have same := State.SameTable.faultEvent v.propagate .doorUnplanned 0 0
  rw [← hw] at same
  have settled := SettledFrom.propagate v
  have stands : w.osc.device = .doorOpen := by
    rw [same.osc]
    rcases settled.device with e | ⟨e, -⟩ | ⟨e, -⟩
    · exact e.trans device
    all_goals cases device.symm.trans e
  generalize v.propagate = y at *
  have check : w.flt.check = x.flt.check := by rw [same.flt, first.check, flt]
  have last := State.CheckEnded.propagate (s := w) (by rw [check, idle]) (.inr (.inl (by rw [stands]; exact nofun)))
  have duty := State.propagate_noDuty (s := w) (.inl (by rw [stands]; exact nofun))
  rw [← shown] at last duty
  refine ⟨by rw [last.check, check, idle], duty, fun h => ?_⟩
  obtain ⟨outcome, free⟩ := left h
  refine ⟨by rw [last.check, check, outcome], last.slot ?_⟩
  rw [same.arb]
  exact first.slot (by rw [arb]; exact free)

theorem State.doorNoted_keeps (s : State) (c : Contact) : (s.doorNoted c).osc = s.osc ∧ (s.doorNoted c).arb = s.arb
    ∧ (s.doorNoted c).dio = s.dio ∧ (s.doorNoted c).flt = { s.flt with door := c } := by
  unfold State.doorNoted
  simp

/-- The door is reported open (R135, R138). -/
theorem State.doorReport_opened (s : State) (ht : t = s.doorReport .opened) : t.flt.door = .opened ∧ t.dio = s.dio
    ∧ (s.osc.device = .running → t.osc.device = .doorOpen ∧ t.sup.flags.get .doorUnplanned = true
      ∧ t.flt.check.phase = .idle ∧ t.frg.applied = 0
      ∧ (s.flt.check.phase ≠ .idle → t.flt.check.outcome = some .door ∧ t.arb.table.filterCheck = none))
    ∧ (s.osc.device = .servicePrepare → t.osc.device = .filterService)
    ∧ (s.osc.device ≠ .running → s.osc.device ≠ .servicePrepare → t.osc = s.osc ∧ t.arb = s.arb) := by
  obtain ⟨entering, serving, -, noted⟩ := s.doorReport_eq .opened
  obtain ⟨osc, arb, dio, flt⟩ := s.doorNoted_keeps .opened
  generalize s.doorNoted .opened = v at *
  have door : v.flt.door = .opened := by rw [flt]
  have check : v.flt.check = s.flt.check := by rw [flt]
  by_cases running : s.osc.device = .running
  · have shown := ht.trans (entering running rfl)
    obtain ⟨settled, device, flag, -⟩ := State.enterDoorOpen_effect v shown
    obtain ⟨idle, duty, ended⟩ := State.enterDoorOpen_ends v shown
    rw [check] at ended
    exact ⟨settled.filterRest.2.2.2.1.trans door, settled.dio.trans dio, fun _ => ⟨device, flag, idle, duty, ended⟩,
      fun e => absurd (running.symm.trans e) nofun, fun h => absurd running h⟩
  · by_cases prepare : s.osc.device = .servicePrepare
    · have shown := ht.trans (serving prepare rfl)
      have entered := SettledFrom.enterFilterService v (by rw [osc]; exact prepare)
      have device : v.enterFilterService.osc.device = .filterService := by
        rw [State.enterFilterService, State.updFlt_osc, State.setDevice_osc]
      have follow := SettledFrom.propagate v.enterFilterService
      rw [← shown] at follow
      have stands : t.osc.device = .filterService := by
        rcases follow.device with e | ⟨e, -⟩ | ⟨e, -⟩
        · exact e.trans device
        all_goals cases device.symm.trans e
      have whole := entered.next follow
      exact ⟨whole.filterRest.2.2.2.1.trans door, whole.dio.trans dio, fun e => absurd e running, fun _ => stands,
        fun _ h => absurd prepare h⟩
    · have shown := ht.trans (noted (fun _ => ⟨running, prepare⟩) nofun)
      rw [shown]
      exact ⟨door, dio, fun e => absurd e running, fun e => absurd e prepare, fun _ _ => ⟨osc, arb⟩⟩

/-- The door is reported closed (R136, R138). -/
theorem State.doorReport_closed (s : State) (ht : t = s.doorReport .closed) : t.flt.door = .closed ∧ t.dio = s.dio
    ∧ ((s.osc.device = .doorOpen ∨ s.osc.device = .filterService ∧ s.flt.serviceTimer = 0) → t.osc.device = .running)
    ∧ (s.osc.device ≠ .doorOpen → (s.osc.device ≠ .filterService ∨ 0 < s.flt.serviceTimer) →
      t.osc = s.osc ∧ t.arb = s.arb) := by
  obtain ⟨-, -, returning, noted⟩ := s.doorReport_eq .closed
  obtain ⟨osc, arb, dio, flt⟩ := s.doorNoted_keeps .closed
  generalize s.doorNoted .closed = v at *
  have door : v.flt.door = .closed := by rw [flt]
  by_cases back : s.osc.device = .doorOpen ∨ s.osc.device = .filterService ∧ s.flt.serviceTimer = 0
  · have shown := ht.trans (returning back rfl)
    obtain ⟨device, -, -, settled⟩ := State.returnToRunning_settled v shown
    refine ⟨settled.filterRest.2.2.2.1.trans door, settled.dio.trans dio, fun _ => device, fun h1 h2 => ?_⟩
    rcases back with e | ⟨e, z⟩
    · exact absurd e h1
    · rcases h2 with h2 | h2
      · exact absurd e h2
      · omega
  · obtain ⟨h1, h2⟩ := not_or.mp back
    have shown := ht.trans (noted nofun fun _ => ⟨h1, fun e => Nat.pos_of_ne_zero fun z => h2 ⟨e, z⟩⟩)
    rw [shown]
    exact ⟨door, dio, fun e => absurd e back, fun _ _ => ⟨osc, arb⟩⟩

end Functions

end Sys2Proof.Machine

/-- Settles O49. -/
theorem inputsDebounced : Obligations.InputsDebounced := by
  intro s
  refine ⟨fun c => rfl, fun n c => ?_, fun c raw changed => ?_, fun n ch d hch hc hd => ?_⟩
  · refine ⟨s.updDio fun d => d.updChannel n (·.setRaw c), rfl, rfl, ?_, fun ch hch => ?_, fun k hk => ?_⟩
    · unfold Dio.updChannel
      dsimp only [State.updDio_dio]
      split <;> rfl
    · rw [State.updDio_dio, Dio.updChannel_channel, if_pos rfl, hch]
      rfl
    · rw [State.updDio_dio, Dio.updChannel_channel, if_neg hk]
  · have row : exec .cutoutDebounced s
        = .next ((s.updDio fun d => { d with cutContact := some d.cutRaw }).reportCutout s.dio.cutRaw) :=
      if_neg (by rw [raw]; exact changed)
    rw [raw] at row
    obtain ⟨v, hv⟩ : ∃ v, v = s.updDio fun d => { d with cutContact := some d.cutRaw } := ⟨_, rfl⟩
    rw [← hv] at row
    obtain ⟨cutout, dio, settled, flags, opened, closed⟩ := State.reportCutout_effect v c rfl
    generalize v.reportCutout c = t at *
    rw [hv] at dio settled flags opened closed
    have contact : t.dio = { s.dio with cutContact := some c } := by
      rw [dio, State.updDio_dio, ← raw]
    refine ⟨t, row, cutout, contact, ?_, flags, fun e => ?_, closed⟩
    · rw [dio]
      exact settled
    · obtain ⟨duty, flag, taken, calm, rests⟩ := opened e
      exact ⟨duty, flag, taken, rests, calm⟩
  · have settles : d = s.dio.updChannel n Channel.settle := hd
    have level (g : InputFunction) : d.level g = s.dio.level g := by
      rw [settles]
      exact Dio.updChannel_level s.dio n (f := Channel.settle) (fun _ => ⟨rfl, rfl⟩) g
    obtain ⟨same, differs⟩ := execInputDebounced_eq hch hc settles
    have marks : d.boostMark = s.dio.boostMark ∧ d.hoodMark = s.dio.hoodMark := by
      rw [settles]
      unfold Dio.updChannel
      split <;> exact ⟨rfl, rfl⟩
    obtain ⟨v, hv⟩ : ∃ v, v = ({ s with dio := d } : State) := ⟨_, rfl⟩
    rw [← hv] at differs
    have changes (f : InputFunction) (on : Bool) (hf : ch.function = f) (hn : ch.contact ≠ none) (h1 : s.dio.asserted f = !on)
        (h2 : d.asserted f = on) : exec (.inputDebounced n) s = .next (v.functionChanged f on) := by
      subst hf
      have row := (differs (by rw [h1, h2]; cases on <;> decide)).2 hn
      rw [h2] at row
      exact row
    refine ⟨same, fun first on off => ?_, fun x lev carry hn hx => ?_, fun hf hn => ⟨fun off on => ?_, fun on off => ?_⟩,
      fun hf => ⟨fun off on => ?_, fun hn on off => ?_⟩⟩
    · have row := (differs (by rw [on, off]; decide)).1 first
      rw [hv] at row
      refine ⟨fun hf => ?_, fun hf => ?_⟩
      · rcases hf with hf | hf <;> rw [hf] at row <;> exact row
      · rw [hf] at row
        exact row
    · obtain ⟨i, hf, rfl, hlev, hcarry⟩ : ∃ i : BoostInput, ch.function = i.function ∧ x = i.slot ∧ lev = v.inputLevel i
          ∧ carry = v.inputFlows i := by
        rw [hv]
        rcases hx with ⟨h1, h2, h3, h4⟩ | ⟨h1, h2, h3, h4⟩
        · exact ⟨.boost, h1, h2, h3, h4⟩
        · exact ⟨.hood, h1, h2, h3, h4⟩
      obtain ⟨idle, posts, blocked⟩ := v.inputAsserted_effect i
      obtain ⟨ignored, renewed⟩ := v.inputDeasserted_effect i
      have mark : v.dio.mark i = s.dio.mark i := by
        rw [hv]
        obtain ⟨h1, h2⟩ := marks
        cases i
        · exact h1
        · exact h2
      have sense : v.dio.level i.function = s.dio.level i.function := by
        rw [hv]
        exact level _
      have capture : v.inputCapture i
          = .watch i.slot .internal lev lev carry.figures.1 carry.figures.2 none s.osc.uptime := by
        rw [hlev, hcarry, hv]
        rfl
      rw [capture, ← hlev] at blocked
      rw [← hlev, ← hcarry, sense] at posts
      rw [sense, mark, ← Dio.mark_iff] at renewed
      rw [sense, mark] at ignored
      rw [← hlev, ← hcarry, capture] at renewed
      rw [hf]
      generalize v.inputLevel i = k at *
      subst hv
      refine ⟨fun off on => ?_, fun on off => ?_⟩
      · have row := (changes i.function true hf hn (by rw [off]; rfl) on).trans
          (congrArg Host.Outcome.next (State.functionChanged_input _ i).1)
        refine ⟨fun hd => by rw [row, idle hd], fun hd hw _ => ?_, fun hd hit ha hk => ?_⟩
        · obtain ⟨settled, dio, held⟩ := posts hd hw _ rfl
          exact ⟨_, row, settled, dio.trans (Dio.setMark_yes _ i), held⟩
        · exact ⟨_, row, blocked hd hit ha hk _ rfl⟩
      · have row := (changes i.function false hf hn (by rw [on]; rfl) off).trans
          (congrArg Host.Outcome.next (State.functionChanged_input _ i).2)
        refine ⟨fun h => ?_, fun hd hl hw hm _ => ?_, fun hd hl hm hit ha hk => ?_⟩
        · rw [row, ignored (h.imp id fun h => h.imp id fun h => ?_)]
          cases i with
          | boost =>
            rcases h with ⟨-, h⟩ | ⟨e, -⟩
            · exact h
            · cases e
          | hood =>
            rcases h with ⟨e, -⟩ | ⟨-, h⟩
            · cases e
            · exact h
        · obtain ⟨settled, held⟩ := (renewed hd hl hm).1 hw _ rfl
          exact ⟨_, row, settled, held⟩
        · obtain ⟨settled, free, dio, rest⟩ := (renewed hd hl hm).2 hit ha hk _ rfl
          exact ⟨_, row, free, dio.trans (Dio.setMark_no _ i), settled, rest⟩
    · obtain ⟨t, ht⟩ : ∃ t, t = v.fireAsserted := ⟨_, rfl⟩
      have row : exec (.inputDebounced n) s = .next t := by
        rw [ht]
        exact changes .fire true hf hn (by rw [off]; rfl) on
      obtain ⟨flag, settled, posts, still⟩ := State.fireAsserted_effect v ht
      refine ⟨_, row, flag, ?_, fun hd => ?_, fun hd => ?_⟩
      · rw [hv] at settled
        exact settled
      · obtain ⟨mark, e, held, fields, origin, flows, run⟩ := posts (by rw [hv]; exact hd)
        refine ⟨mark, e, held, fields, origin, run, flows.trans ?_⟩
        rw [hv]
        rfl
      · refine (still (by rw [hv]; exact hd)).trans ?_
        rw [hv]
    · obtain ⟨t, ht⟩ : ∃ t, t = v.fireDeasserted := ⟨_, rfl⟩
      have row : exec (.inputDebounced n) s = .next t := by
        rw [ht]
        exact changes .fire false hf hn (by rw [on]; rfl) off
      obtain ⟨free, dio, settled⟩ := State.fireDeasserted_effect v ht
      rw [hv] at dio settled
      exact ⟨_, row, free, dio, settled⟩
    · obtain ⟨t, ht⟩ : ∃ t, t = v.doorReport .opened := ⟨_, rfl⟩
      have row : exec (.inputDebounced n) s = .next t := by
        rw [ht]
        by_cases hn : ch.contact = none
        · have established := (differs (by rw [hf, off, on]; decide)).1 hn
          rw [hf] at established
          exact established
        · exact changes .filterDoor true hf hn (by rw [off]; rfl) on
      obtain ⟨door, dio, effect⟩ := State.doorReport_opened v ht
      rw [hv] at dio effect
      exact ⟨_, row, door, dio, effect⟩
    · obtain ⟨t, ht⟩ : ∃ t, t = v.doorReport .closed := ⟨_, rfl⟩
      have row : exec (.inputDebounced n) s = .next t := by
        rw [ht]
        exact changes .filterDoor false hf hn (by rw [on]; rfl) off
      obtain ⟨door, dio, effect⟩ := State.doorReport_closed v ht
      rw [hv] at dio effect
      exact ⟨_, row, door, dio, effect⟩

end

section
/-! The second: its stages, what each leaves alone, and the extract humidity that it derives anew. -/

open Sys2Proof Sys2Proof.Machine

namespace Sys2Proof.Machine

section Second

variable {s t u : State}

/-! ### What the stages of a second leave alone -/

/-- What FLT stores, or keeps over a second. -/
structure Flt.StoredSame (f g : Flt) : Prop where
  runHours : g.runHours = f.runHours
  door : g.door = f.door
  copy1 : g.copy1 = f.copy1
  copy2 : g.copy2 = f.copy2
  writing : g.writing = f.writing
  again : g.again = f.again

theorem Flt.StoredSame.refl (f : Flt) : f.StoredSame f := ⟨rfl, rfl, rfl, rfl, rfl, rfl⟩

theorem Flt.StoredSame.trans {f g h : Flt} (a : f.StoredSame g) (b : g.StoredSame h) : f.StoredSame h :=
  ⟨b.runHours.trans a.runHours, b.door.trans a.door, b.copy1.trans a.copy1, b.copy2.trans a.copy2, b.writing.trans a.writing,
    b.again.trans a.again⟩

theorem Flt.StoredSame.setFilter (f : Flt) (i : PathId) (x : Filter) : f.StoredSame (f.setFilter i x) := by
  cases i <;> exact ⟨rfl, rfl, rfl, rfl, rfl, rfl⟩

/-- What the readings, the updates and the records of a second leave alone: all but the paths, the frost record, the filters and
what SUP records. -/
structure State.Passes (s t : State) : Prop where
  settled : SettledFrom [] { s with afc := t.afc, frg := t.frg, flt := t.flt, sup := t.sup } t
  stored : s.flt.StoredSame t.flt
  owner : t.sup.owner = s.sup.owner
  stays : ∀ g, s.sup.flags.get g = true → t.sup.flags.get g = true
  capture : s.sup.capture ≠ none → t.sup.capture = s.sup.capture

theorem State.Passes.refl (s : State) : s.Passes s := ⟨.refl _ s, .refl _, rfl, fun _ => id, fun _ => rfl⟩

theorem State.Passes.trans (h : s.Passes t) (g : t.Passes u) : s.Passes u where
  settled := ((((h.settled.onAfc u.afc).onFrg u.frg).onFlt u.flt).onSup u.sup).next g.settled
  stored := h.stored.trans g.stored
  owner := g.owner.trans h.owner
  stays f hf := g.stays f (h.stays f hf)
  capture hc := (g.capture (by rw [h.capture hc]; exact hc)).trans (h.capture hc)

theorem State.Passes.of_settled (h : SettledFrom [] s t) : s.Passes t where
  settled := (((h.onAfc t.afc).onFrg t.frg).onFlt t.flt).onSup t.sup
  stored := by
    obtain ⟨runHours, -, -, door, copy1, copy2, writing, again⟩ := h.filterRest
    exact ⟨runHours, door, copy1, copy2, writing, again⟩
  owner := h.owner
  stays := h.flagsStay
  capture := h.capture

theorem State.Passes.updAfc (s : State) (f : Afc → Afc) : s.Passes (s.updAfc f) := ⟨.refl _ _, .refl _, rfl, fun _ => id, fun _ => rfl⟩
theorem State.Passes.updFrg (s : State) (f : Frg → Frg) : s.Passes (s.updFrg f) := ⟨.refl _ _, .refl _, rfl, fun _ => id, fun _ => rfl⟩
theorem State.Passes.updFlt (s : State) (f : Flt → Flt) (h : s.flt.StoredSame (f s.flt)) : s.Passes (s.updFlt f) :=
  ⟨.refl _ _, h, rfl, fun _ => id, fun _ => rfl⟩
theorem State.Passes.propagate (s : State) : s.Passes s.propagate := .of_settled (.propagate s)
theorem State.Passes.raise (s : State) (n : NoticeKind) (x : Nat) (v : Int) : s.Passes (s.raise n x v) := .of_settled (.raise s n x v)

theorem State.Passes.movePath (s : State) (i : PathId) (p : FanPath) : s.Passes (s.movePath i p) := by
  unfold State.movePath
  dsimp only
  split
  · exact .updAfc s _
  · exact (State.Passes.updAfc s _).trans (.raise _ _ _ _)

theorem State.Passes.faultEvent (s : State) (f : Flag) (x : Nat) (v : Int) : s.Passes (s.faultEvent f x v) := by
  have settled := SettledFrom.fault s f x v
  have owner := (s.faultEvent_taken f x v).owner
  have stay (g : Flag) := State.faultEvent_stay s f x v (g := g)
  have held (hc : s.sup.capture ≠ none) := ((s.faultEvent_taken f x v).held hc).1
  generalize s.faultEvent f x v = t at *
  refine ⟨((settled.onAfc t.afc).onFrg t.frg).onFlt t.flt, ?_, owner, stay, held⟩
  obtain ⟨runHours, -, -, door, copy1, copy2, writing, again⟩ := settled.filterRest
  exact ⟨runHours, door, copy1, copy2, writing, again⟩

theorem State.Passes.setFrg {g : Frg} (h : t = { s with frg := g }) : s.Passes t := by
  subst h
  exact .updFrg s fun _ => g

theorem State.Passes.readNozzle (s : State) (i : PathId) (r : Reading) : s.Passes (s.readNozzle i r) := by
  unfold State.readNozzle
  extract_lets p q w
  split
  · exact .movePath _ _ _
  · split
    · exact .movePath _ _ _
    · exact (State.Passes.faultEvent s _ _ _).trans (.movePath _ _ _)

theorem State.Passes.sensePath (s : State) (i : PathId) (r : Reading) (n : Nat) : s.Passes (s.sensePath i r n) :=
  (State.Passes.readNozzle s i r).trans (.movePath _ _ _)

theorem State.Passes.airSecond (s : State) (r : SecondReadings) : s.Passes (s.airSecond r) :=
  ((((State.Passes.sensePath s _ _ _).trans (.sensePath _ _ _ _)).trans (.movePath _ _ _)).trans (.movePath _ _ _)).trans
    (.propagate _)

theorem State.Passes.updCheck (s : State) (f : Check → Check) : s.Passes (s.updCheck f) :=
  .updFlt s _ ⟨rfl, rfl, rfl, rfl, rfl, rfl⟩

theorem State.Passes.updDefrost (s : State) (f : Defrost → Defrost) : s.Passes (s.updDefrost f) := .updFrg s _

theorem State.Passes.confirmExit (s : State) : s.Passes s.confirmExit := by
  rw [State.confirmExit_eq]
  split
  · exact .updDefrost s _
  · exact .refl s

theorem State.Passes.confirmEntry (s : State) : s.Passes s.confirmEntry := by
  rw [State.confirmEntry_eq]
  split
  · exact .updDefrost s _
  · exact .refl s

theorem State.Passes.readTemp (s : State) (i : TempId) (r : TempReading) : s.Passes (s.readTemp i r) := by
  have regime (u : State) (b : Regime) : u.Passes (u.afterRegime b) := by
    obtain ⟨d, eq⟩ := u.afterRegime_eq b
    exact .setFrg eq
  have read : s.Passes (if ((s.frg.channel i).take r).2 then
      (s.updFrg (·.setChannel i ((s.frg.channel i).take r).1)).faultEvent .tempFault (tempCode i) (tempRaw r)
      else s.updFrg (·.setChannel i ((s.frg.channel i).take r).1)) := by
    split
    · exact (State.Passes.updFrg s _).trans (.faultEvent _ _ _ _)
    · exact .updFrg s _
  unfold State.readTemp
  dsimp only
  generalize (if ((s.frg.channel i).take r).2 = true then _ else _ : State) = u at *
  have followed := read.trans (regime u s.frg.regime)
  split
  · exact followed.trans (.confirmExit _)
  · exact followed

theorem State.Passes.deriveFilter (s : State) (i : PathId) : s.Passes (s.deriveFilter i) := by
  have due (u : State) (a b : FilterState) : u.Passes (u.flagDue a b) := by
    unfold State.flagDue
    split
    · refine ⟨.refl _ _, .refl _, rfl, fun g hg => ?_, fun _ => rfl⟩
      rw [State.setFlag, State.updSup_sup]
      dsimp only
      rw [FlagSet.get_put, hg]
      split <;> rfl
    · exact .refl u
  unfold State.deriveFilter
  dsimp only
  split
  · exact .updFlt s _ (.setFilter _ _ _)
  · exact ((State.Passes.updFlt s _ (.setFilter _ _ _)).trans (.raise _ _ _ _)).trans (due _ _ _)

theorem State.Passes.readFilter (s : State) (i : PathId) (r : Reading) : s.Passes (s.readFilter i r) := by
  have set (u : State) (f : Filter) : u.Passes (u.updFlt (·.setFilter i f)) := .updFlt u _ (.setFilter _ _ _)
  have due (u : State) : u.Passes u.dueCheck := ⟨.refl _ _, ⟨rfl, rfl, rfl, rfl, rfl, rfl⟩, rfl, fun _ => id, fun _ => rfl⟩
  have test (u : State) : u.Passes u.startTest := .of_settled (.startTest u)
  have undue (u : State) : u.Passes (u.updCheck fun c => { c with scheduledDue := false }) := .updCheck u _
  have ended (u : State) : u.Passes (u.abandonCheck .sensorFault) := .of_settled (.abandonCheck u _)
  unfold State.readFilter
  extract_lets p q w v x
  split
  · split
    · exact (((set s _).trans (.deriveFilter _ _)).trans (due _)).trans (test _)
    · exact set s _
  · split
    · exact set s _
    · exact ((((set s _).trans (.faultEvent _ _ _ _)).trans (ended _)).trans (undue _)).trans (.deriveFilter _ _)

theorem State.Passes.readSecond (s : State) (r : SecondReadings) : s.Passes (s.readSecond r) :=
  (((((((State.Passes.readTemp s _ _).trans (.readTemp _ _ _)).trans (.readTemp _ _ _)).trans (.readTemp _ _ _)).trans
    (.readFilter _ _ _)).trans (.propagate _)).trans (.readFilter _ _ _)).trans (.propagate _)

/-- FRG, FLT's check and the run hours at a second (R72, R121, R128 to R130). -/
def State.countRecords (s : State) : State := s.defrostSecond.checkSecond.accumulate

theorem State.Passes.defrostSecond (s : State) : s.Passes s.defrostSecond := by
  unfold State.defrostSecond
  extract_lets d counting counts elapsed confirm
  split
  case h_1 | h_2 =>
    split
    · exact .refl s
    · split
      · exact .updDefrost s _
      · split
        · exact .updDefrost s _
        · exact (State.Passes.updDefrost s _).trans (.confirmEntry _)
  case h_3 => exact .updDefrost s _
  all_goals exact .refl s

theorem State.Passes.countRecords (s : State) : s.Passes s.countRecords := by
  have check (u : State) : u.Passes u.checkSecond := ⟨.refl _ _, ⟨rfl, rfl, rfl, rfl, rfl, rfl⟩, rfl, fun _ => id, fun _ => rfl⟩
  have hours (u : State) : u.Passes u.accumulate := by
    unfold State.accumulate
    split
    · refine .updFlt u _ ?_
      unfold Flt.runSecond
      split <;> exact ⟨rfl, rfl, rfl, rfl, rfl, rfl⟩
    · exact .refl u
  exact ((State.Passes.defrostSecond s).trans (check _)).trans (hours _)

/-- A second after its countdowns and before the boosts. -/
def State.secondRead (s : State) (r : SecondReadings) : State := ((s.countSecond.airSecond r).readSecond r).countRecords

theorem State.secondRead_passes (s : State) (r : SecondReadings) : s.countSecond.Passes (s.secondRead r) :=
  ((State.Passes.airSecond _ r).trans (.readSecond _ r)).trans (.countRecords _)

theorem execUptimeTick_eq (r : SecondReadings) (h : s.osc.uptime < 4294967295) :
    exec (.uptimeTick r) s = .next (s.secondRead r).boostSecond.deriveHumidity.propagate := if_pos h

end Second

end Sys2Proof.Machine

end

section
/-! The extract humidity value and its tier. -/

open Sys2Proof Sys2Proof.Machine

namespace Sys2Proof.Machine

section Humidity

variable {s t u : State}

theorem Sensor.fresh_iff (e : Sensor) (now : Nat) : e.fresh now = true ↔ e.state = .online ∧ e.lastStatus = some .ok
    ∧ ∃ u, e.lastGood = some u ∧ now - u ≤ 30 := by
  unfold Sensor.fresh Sensor.age
  cases e.lastGood with
  | none => simp
  | some u => simp [Config.freshSeconds, and_assoc]

/-- The response, once active, takes the value and the tier of the moment (R114, R115). -/
theorem State.deriveHumidity_active (h : s.hum.active = true) {v : Nat × Tier} (hv : v = s.hum.extractNow s.osc.uptime (s.setting 45)) :
    s.deriveHumidity = { s with
      hum := { s.hum with extract := some v }
      sup := { s.sup with flags := if v.2 = .fallback ∧ (∀ w, s.hum.extract = some w → w.2 ≠ .fallback)
        then s.sup.flags.put .frostDegraded true else s.sup.flags } } := by
  have before : s.hum.extract.map Prod.snd ≠ some .fallback ↔ ∀ w, s.hum.extract = some w → w.2 ≠ .fallback := by
    cases s.hum.extract <;> simp
  unfold State.deriveHumidity
  rw [if_pos h, ← hv]
  dsimp only
  by_cases arrives : v.2 = .fallback ∧ ∀ w, s.hum.extract = some w → w.2 ≠ .fallback
  · rw [if_pos arrives, if_pos ⟨arrives.1, before.mpr arrives.2⟩]
    rfl
  · rw [if_neg arrives, if_neg fun c => arrives ⟨c.1, before.mp c.2⟩]
    rfl

/-! ### The choice of the value -/

theorem greatest_of {l : List Nat} {h : Nat} (hm : h ∈ l) (top : ∀ k ∈ l, k ≤ h) : greatest l = some h := by
  have folded (l : List Nat) (a : Nat) : (∀ k ∈ l, k ≤ h) → a ≤ h → (h = a ∨ h ∈ l) → l.foldl max a = h := by
    induction l generalizing a with
    | nil =>
      intro _ _ hm
      simpa [eq_comm] using hm
    | cons k l ih =>
      intro top low hm
      have hk := top k (by simp)
      refine ih (max a k) (fun j hj => top j (by simp [hj])) (by omega) ?_
      rcases hm with rfl | hm
      · left
        omega
      · rcases List.mem_cons.mp hm with rfl | hm
        · left
          omega
        · exact .inr hm
  cases l with
  | nil => simp at hm
  | cons a l =>
    refine congrArg some (folded l a (fun k hk => top k (by simp [hk])) (top a (by simp)) ?_)
    simpa using hm

theorem Hum.sensor_mem {h : Hum} {e : Sensor} : e ∈ h.sensors ↔ ∃ n, h.sensor n = some e := by
  rw [List.mem_iff_getElem?]
  refine ⟨fun ⟨k, hk⟩ => ⟨k + 1, hk⟩, fun ⟨n, hn⟩ => ?_⟩
  unfold Hum.sensor at hn
  split at hn
  · cases hn
  · exact ⟨_, hn⟩

/-- The reading of the one EXTRACT_DUCT entry comes first (R114). -/
theorem Hum.extractNow_duct {h : Hum} {n now fallback x : Nat} {e : Sensor} (he : h.sensor n = some e) (hr : e.role = .extractDuct)
    (hx : e.freshHum now = some x) (others : ∀ m g, m ≠ n → h.sensor m = some g → g.role ≠ .extractDuct) :
    h.extractNow now fallback = (x, .duct) := by
  have only : ∀ g ∈ h.sensors.filter fun e => e.role == .extractDuct, g.freshHum now = some x := by
    intro g hg
    obtain ⟨mem, role⟩ := List.mem_filter.mp hg
    obtain ⟨m, hm⟩ := Hum.sensor_mem.mp mem
    by_cases hn : m = n
    · rw [hn, he] at hm
      obtain rfl := Option.some.inj hm
      exact hx
    · exact absurd (by simpa using role) (others m g hn hm)
  have held : e ∈ h.sensors.filter fun e => e.role == .extractDuct :=
    List.mem_filter.mpr ⟨Hum.sensor_mem.mpr ⟨n, he⟩, by simp [hr]⟩
  have found : (h.sensors.filter fun e => e.role == .extractDuct).findSome? (·.freshHum now) = some x := by
    generalize (h.sensors.filter fun e => e.role == .extractDuct) = l at only held
    cases l with
    | nil => simp at held
    | cons g l => rw [List.findSome?_cons, only g (by simp)]
  unfold Hum.extractNow
  rw [found]

/-- Without a fresh EXTRACT_DUCT reading the rooms decide. -/
theorem Hum.extractNow_rooms {h : Hum} {now : Nat} (duct : ∀ n e, h.sensor n = some e → e.role = .extractDuct → e.freshHum now = none)
    (fallback : Nat) : h.extractNow now fallback
      = (greatest ((h.sensors.filter fun e => e.role.room).filterMap (·.freshHum now))).elim (fallback, .fallback)
        fun v => (v, .rooms) := by
  have absent : (h.sensors.filter fun e => e.role == .extractDuct).findSome? (·.freshHum now) = none := by
    rw [List.findSome?_eq_none_iff]
    intro g hg
    obtain ⟨mem, role⟩ := List.mem_filter.mp hg
    obtain ⟨m, hm⟩ := Hum.sensor_mem.mp mem
    exact duct m g hm (by simpa using role)
  unfold Hum.extractNow
  rw [absent]
  dsimp only
  cases greatest ((h.sensors.filter fun e => e.role.room).filterMap (·.freshHum now)) <;> rfl

theorem Role.room_iff {r : Role} : r.room = true ↔ r = .wetRoom ∨ r = .dryRoom := by cases r <;> decide

theorem Hum.room_mem {h : Hum} {now k : Nat} : k ∈ (h.sensors.filter fun e => e.role.room).filterMap (·.freshHum now)
    ↔ ∃ n e, h.sensor n = some e ∧ (e.role = .wetRoom ∨ e.role = .dryRoom) ∧ e.freshHum now = some k := by
  simp only [List.mem_filterMap, List.mem_filter, Hum.sensor_mem, Role.room_iff]
  exact ⟨fun ⟨e, ⟨⟨n, hn⟩, hr⟩, hk⟩ => ⟨n, e, hn, hr, hk⟩, fun ⟨n, e, hn, hr, hk⟩ => ⟨e, ⟨⟨n, hn⟩, hr⟩, hk⟩⟩

/-! ### Every second -/

theorem Hum.extractNow_extract (h : Hum) (w : Option (Nat × Tier)) (now fallback : Nat) :
    ({ h with extract := w } : Hum).extractNow now fallback = h.extractNow now fallback := rfl

theorem State.countSecond_frame (s : State) : s.countSecond.pending = s.pending ∧ s.countSecond.osc = s.osc.second
    ∧ s.countSecond.afc = s.afc ∧ s.countSecond.frg = s.frg.second s.osc.device
    ∧ s.countSecond.flt = s.flt.serviceSecond ∧ s.countSecond.dio = s.dio ∧ s.countSecond.sup = s.sup
    ∧ s.countSecond.lnk = s.lnk ∧ s.countSecond.arb = (if s.osc.device.countsRun then s.arb.countRun else s.arb) := by
  unfold State.countSecond State.busSecond
  dsimp only
  split
  · next h => exact ⟨rfl, rfl, rfl, rfl, rfl, rfl, rfl, rfl, (if_pos h).symm⟩
  · next h => exact ⟨rfl, rfl, rfl, rfl, rfl, rfl, rfl, rfl, (if_neg h).symm⟩

theorem State.countSecond_hum (s : State) : s.countSecond.hum = { s.hum with
    bus := s.hum.bus.second (Config.freeMs s.freeCount)
    sensors := s.hum.sensors.map (·.second)
    pollTimer := s.hum.pollTimer.map (· + 1)
    ringTimer := if s.hum.active then s.hum.ringTimer + 1 else s.hum.ringTimer } := by
  unfold State.countSecond State.busSecond
  dsimp only
  split <;> rfl

end Humidity

end Sys2Proof.Machine

/-- Settles O51. -/
theorem extractHumidityDerived : Obligations.ExtractHumidityDerived := by
  intro s
  refine ⟨Sensor.fresh_iff, fun off => if_neg (by simp [off]), fun on => ⟨_, State.deriveHumidity_active on rfl, ?_, fun duct => ⟨?_, ?_⟩⟩,
    fun r on early => ?_⟩
  · exact fun n e h he hr hx others => Hum.extractNow_duct he hr hx others
  · intro n e h he hr hx top
    have value := greatest_of (Hum.room_mem.mpr ⟨n, e, he, hr, hx⟩) fun k hk => by
      obtain ⟨m, g, hm, role, fresh⟩ := Hum.room_mem.mp hk
      exact top m g k hm role fresh
    rw [Hum.extractNow_rooms duct, value]
    rfl
  · intro rooms
    have none' : (s.hum.sensors.filter fun e => e.role.room).filterMap (·.freshHum s.osc.uptime) = [] := by
      refine List.eq_nil_iff_forall_not_mem.mpr fun k hk => ?_
      obtain ⟨m, g, hm, role, fresh⟩ := Hum.room_mem.mp hk
      exact absurd ((rooms m g hm role).symm.trans fresh) nofun
    rw [Hum.extractNow_rooms duct, none']
    rfl
  · have passes := s.secondRead_passes r
    obtain ⟨-, osc, -, -, -, -, sup, -⟩ := s.countSecond_frame
    have hum := s.countSecond_hum
    have row := execUptimeTick_eq r early
    generalize s.secondRead r = d at *
    have uptime : d.osc.uptime = s.osc.uptime + 1 := by
      have kept := congrArg Osc.uptime passes.settled.osc
      exact kept.trans (by rw [osc]; rfl)
    have settings : d.setting 45 = s.setting 45 := by
      have kept := congrArg Osc.working passes.settled.osc
      refine congrArg (settingNat · 45) (kept.trans (by rw [osc]; rfl))
    have before : d.hum.extract = s.hum.extract := by
      rw [passes.settled.hum, hum]
    have active : d.boostSecond.hum.active = true := by
      have kept : d.boostSecond.hum.active = d.hum.active := rfl
      rw [kept, passes.settled.hum, hum]
      exact on
    have derived := State.deriveHumidity_active active rfl
    have first : d.boostSecond.hum.extract = s.hum.extract := before
    have now : d.boostSecond.osc.uptime = s.osc.uptime + 1 := uptime
    have fallback : d.boostSecond.setting 45 = s.setting 45 := settings
    generalize d.boostSecond = b at *
    have follow := SettledFrom.propagate b.deriveHumidity
    rw [derived] at row follow
    refine ⟨_, row, ?_, fun arrived fresh => ?_⟩
    · rw [follow.hum, now, fallback]
      rfl
    · refine follow.flagsStay _ ?_
      rw [follow.hum, Hum.extractNow_extract] at arrived
      rw [now, fallback, first, if_pos ⟨arrived, fresh⟩]
      dsimp only
      rw [FlagSet.get_put, if_pos rfl]

end

section
/-! The temperature and filter readings of a second. -/

open Sys2Proof Sys2Proof.Machine

namespace Sys2Proof.Machine

section Readings

variable {s t u : State} {r : SecondReadings}

/-! ### What the stages make of the inputs -/

/-- The figures of a filter that its readings and its checks write. -/
structure Filter.SameReading (f g : Filter) : Prop where
  raw : g.raw = f.raw
  zeroOffset : g.zeroOffset = f.zeroOffset
  sensor : g.sensor = f.sensor
  zeroSum : g.zeroSum = f.zeroSum
  zeroFault : g.zeroFault = f.zeroFault
  history : g.data.history = f.data.history

theorem Filter.SameReading.refl (f : Filter) : f.SameReading f := ⟨rfl, rfl, rfl, rfl, rfl, rfl⟩

theorem Filter.SameReading.trans {f g h : Filter} (a : f.SameReading g) (b : g.SameReading h) : f.SameReading h :=
  ⟨b.raw.trans a.raw, b.zeroOffset.trans a.zeroOffset, b.sensor.trans a.sensor, b.zeroSum.trans a.zeroSum,
    b.zeroFault.trans a.zeroFault, b.history.trans a.history⟩

/-- What leaves the readings of the temperature channels and the filters alone. -/
structure State.Unread (s t : State) : Prop where
  channels : ∀ i, t.frg.channel i = s.frg.channel i
  filters : ∀ i, (s.flt.filter i).SameReading (t.flt.filter i)

theorem State.Unread.refl (s : State) : s.Unread s := ⟨fun _ => rfl, fun _ => .refl _⟩

theorem State.Unread.trans (h : s.Unread t) (g : t.Unread u) : s.Unread u :=
  ⟨fun i => (g.channels i).trans (h.channels i), fun i => (h.filters i).trans (g.filters i)⟩

theorem State.Unread.of_settled (h : SettledFrom [] s t) : s.Unread t where
  channels i := h.frost_get (Frg.channel · i) fun _ _ _ _ _ _ _ _ => by cases i <;> rfl
  filters i := by
    have kept := h.filters i
    generalize t.flt.filter i = g at *
    rw [← kept]
    exact ⟨rfl, rfl, rfl, rfl, rfl, rfl⟩

theorem State.Unread.of_eq (hf : t.frg = s.frg) (hl : t.flt = s.flt) : s.Unread t :=
  ⟨fun _ => by rw [hf], fun _ => by rw [hl]; exact .refl _⟩

theorem State.Unread.movePath (s : State) (i : PathId) (p : FanPath) : s.Unread (s.movePath i p) :=
  have rests := State.Rests.movePath s i p
  .of_eq (State.movePath_frg s i p) rests.flt

theorem State.Unread.faultEvent (s : State) (f : Flag) (x : Nat) (v : Int) : s.Unread (s.faultEvent f x v) :=
  .of_eq (congrArg State.frg (s.faultEvent_apart f x v) :) (congrArg State.flt (s.faultEvent_apart f x v) :)

theorem State.Unread.sensePath (s : State) (i : PathId) (n : Reading) (p : Nat) : s.Unread (s.sensePath i n p) := by
  have read : s.Unread (s.readNozzle i n) := by
    unfold State.readNozzle
    extract_lets q v w
    split
    · exact .movePath _ _ _
    · split
      · exact .movePath _ _ _
      · exact (State.Unread.faultEvent s _ _ _).trans (.movePath _ _ _)
  exact read.trans (.movePath _ _ _)

theorem State.Unread.airSecond (s : State) (r : SecondReadings) : s.Unread (s.airSecond r) :=
  ((((State.Unread.sensePath s _ _ _).trans (.sensePath _ _ _ _)).trans (.movePath _ _ _)).trans (.movePath _ _ _)).trans
    (.of_settled (.propagate _))

theorem State.Unread.updCheck (s : State) (f : Check → Check) : s.Unread (s.updCheck f) :=
  ⟨fun _ => rfl, fun i => by cases i <;> exact .refl _⟩

theorem State.Unread.updDefrost (s : State) (f : Defrost → Defrost) : s.Unread (s.updDefrost f) :=
  ⟨fun i => by cases i <;> rfl, fun _ => .refl _⟩

theorem State.Unread.countRecords (s : State) : s.Unread s.countRecords := by
  have defrost (u : State) : u.Unread u.defrostSecond := by
    unfold State.defrostSecond
    extract_lets d counting counts elapsed confirm
    split
    case h_1 | h_2 =>
      split
      · exact .refl u
      · split
        · exact .updDefrost u _
        · split
          · exact .updDefrost u _
          · rw [State.confirmEntry_eq]
            split
            · exact (State.Unread.updDefrost u _).trans (.updDefrost _ _)
            · exact .updDefrost u _
    case h_3 => exact .updDefrost u _
    all_goals exact .refl u
  have check (u : State) : u.Unread u.checkSecond := ⟨fun _ => rfl, fun i => by cases i <;> exact .refl _⟩
  have hours (u : State) : u.Unread u.accumulate := by
    unfold State.accumulate Flt.runSecond
    split
    · refine ⟨fun _ => rfl, fun i => ?_⟩
      rw [State.updFlt_flt]
      split <;> cases i <;> exact .refl _
    · exact .refl u
  exact ((defrost s).trans (check _)).trans (hours _)

/-- The boosts and the extract humidity touch HUM and the flags alone. -/
theorem State.boosted_frame (s : State) : s.boostSecond.deriveHumidity.frg = s.frg ∧ s.boostSecond.deriveHumidity.flt = s.flt
    ∧ s.boostSecond.deriveHumidity.afc = s.afc ∧ s.boostSecond.deriveHumidity.arb = s.arb
    ∧ s.boostSecond.deriveHumidity.osc = s.osc ∧ s.boostSecond.deriveHumidity.dio = s.dio
    ∧ s.boostSecond.deriveHumidity.pending = s.pending
    ∧ s.boostSecond.deriveHumidity.sup = { s.sup with flags := s.boostSecond.deriveHumidity.sup.flags }
    ∧ (∀ g, s.sup.flags.get g = true → s.boostSecond.deriveHumidity.sup.flags.get g = true) := by
  obtain ⟨records, -, flt⟩ := s.boostSecond.deriveHumidity_same
  exact ⟨records.frg, flt, records.afc, records.arb, records.osc, records.dio, records.pending, records.sup, records.stay⟩

/-! ### The zeroing -/

theorem State.Passes.zeroReading (h : s.Passes t) : t.osc.zeroReading = s.osc.zeroReading := by
  have secs := congrArg Osc.stoppedSecs h.settled.osc
  have same : t.osc.stoppedSecs = s.osc.stoppedSecs := secs
  have zeroing : t.osc.device.zeroing = s.osc.device.zeroing := by
    rcases h.settled.device with e | ⟨e, e'⟩ | ⟨e, e'⟩
    · exact congrArg DevState.zeroing e
    · have e0 : s.osc.device = .stopping := e
      rw [e0, e']
      rfl
    · have e0 : s.osc.device = .servicePrepare := e
      rw [e0, e']
      rfl
  unfold Osc.zeroReading
  rw [same, zeroing]

theorem State.countSecond_zeroReading (s : State) : s.countSecond.osc.zeroReading
    = decide (s.osc.device.zeroing = true ∧ 10 ≤ s.osc.stoppedSecs ∧ s.osc.stoppedSecs < 18) := by
  obtain ⟨-, osc, -⟩ := s.countSecond_frame
  rw [osc]
  have device : s.osc.second.device = s.osc.device := rfl
  unfold Osc.zeroReading
  rw [device]
  cases e : s.osc.device.zeroing with
  | false => simp
  | true =>
    have secs : s.osc.second.stoppedSecs = min (s.osc.stoppedSecs + 1) 19 := if_pos e
    rw [secs, Bool.true_and, ← Bool.decide_and, decide_eq_decide, Config.zeroingDelay, Config.zeroingReadings]
    exact ⟨fun ⟨a, b⟩ => ⟨rfl, by omega, by omega⟩, fun ⟨_, a, b⟩ => ⟨by omega, by omega⟩⟩

/-! ### The temperatures -/

theorem Frg.channel_setChannel_ne (g : Frg) {i j : TempId} (h : j ≠ i) (c : TempChannel) : (g.setChannel i c).channel j = g.channel j := by
  cases i <;> cases j <;> first | rfl | exact absurd rfl h

theorem State.afterRegime_channels (s : State) (b : Regime) : (s.afterRegime b).flt = s.flt
    ∧ (∀ j, (s.afterRegime b).frg.channel j = s.frg.channel j) ∧ (s.afterRegime b).sup = s.sup := by
  obtain ⟨d, eq⟩ := s.afterRegime_eq b
  rw [eq]
  exact ⟨rfl, fun j => by cases j <;> rfl, rfl⟩

theorem State.confirmExit_channels (s : State) : s.confirmExit.flt = s.flt ∧ (∀ j, s.confirmExit.frg.channel j = s.frg.channel j)
    ∧ s.confirmExit.sup = s.sup := by
  rw [State.confirmExit_eq]
  split
  · exact ⟨rfl, fun j => by cases j <;> rfl, rfl⟩
  · exact ⟨rfl, fun _ => rfl, rfl⟩

theorem State.readTemp_takes (s : State) (i : TempId) (n : TempReading) : (s.readTemp i n).flt = s.flt
    ∧ (∀ j, (s.readTemp i n).frg.channel j = if j = i then ((s.frg.channel i).take n).1 else s.frg.channel j)
    ∧ (((s.frg.channel i).take n).2 = true → (s.readTemp i n).sup.flags.get .tempFault = true) := by
  obtain ⟨v, hv⟩ : ∃ v, v = s.updFrg (·.setChannel i ((s.frg.channel i).take n).1) := ⟨_, rfl⟩
  obtain ⟨w, hw⟩ : ∃ w, w = if ((s.frg.channel i).take n).2 then v.faultEvent .tempFault (tempCode i) (tempRaw n) else v := ⟨_, rfl⟩
  have taken : w.flt = s.flt ∧ w.frg = s.frg.setChannel i ((s.frg.channel i).take n).1
      ∧ (((s.frg.channel i).take n).2 = true → w.sup.flags.get .tempFault = true) := by
    rw [hw]
    split
    · have apart := v.faultEvent_apart .tempFault (tempCode i) (tempRaw n)
      have flt := congrArg State.flt apart
      have frg := congrArg State.frg apart
      dsimp only at flt frg
      refine ⟨by rw [flt, hv]; rfl, by rw [frg, hv]; rfl, fun _ => ?_⟩
      rw [(v.faultEvent_taken .tempFault (tempCode i) (tempRaw n)).flags _ (by decide)]
      rfl
    · next quiet => exact ⟨by rw [hv]; rfl, by rw [hv]; rfl, fun set => absurd set quiet⟩
  obtain ⟨flt, frg, flag⟩ := taken
  have shown : s.readTemp i n = if i = .eha then (w.afterRegime s.frg.regime).confirmExit else w.afterRegime s.frg.regime := by
    rw [hw, hv]
    rfl
  obtain ⟨flt', channels, sup⟩ := w.afterRegime_channels s.frg.regime
  obtain ⟨flt'', channels', sup'⟩ := (w.afterRegime s.frg.regime).confirmExit_channels
  have set (j : TempId) : w.frg.channel j = if j = i then ((s.frg.channel i).take n).1 else s.frg.channel j := by
    rw [frg]
    split
    · next e => rw [e, Frg.channel_setChannel]
    · next e => exact Frg.channel_setChannel_ne _ e _
  rw [shown]
  split
  · exact ⟨by rw [flt'', flt', flt], fun j => by rw [channels', channels, set], fun h => by rw [sup', sup]; exact flag h⟩
  · exact ⟨by rw [flt', flt], fun j => by rw [channels, set], fun h => by rw [sup]; exact flag h⟩

/-! ### The filters -/

/-- What a filter's reading makes of its entry (R119, R120). -/
def Filter.readTo (f : Filter) (zeroes : Bool) (n : Reading) : Filter :=
  let g := if zeroes then f.addZero n else f
  { g with
    raw := n
    sensor := if readingValid (-50) 1050 n then (if f.sensor = .faulted then .unverified else f.sensor) else .faulted }

theorem Filter.readTo_spec (f : Filter) (zeroes : Bool) (n : Reading) : (f.readTo zeroes n).raw = n
    ∧ (f.readTo zeroes n).zeroOffset = f.zeroOffset ∧ (f.readTo zeroes n).data.history = f.data.history
    ∧ (∀ v, n = .value v → -50 ≤ v → v ≤ 1050 →
      (f.readTo zeroes n).sensor = (if f.sensor = .faulted then .unverified else f.sensor)
        ∧ (f.readTo zeroes n).zeroFault = f.zeroFault ∧ (f.readTo zeroes n).zeroSum = f.zeroSum + if zeroes then v else 0)
    ∧ ((n = .incomplete ∨ ∃ v, n = .value v ∧ (v < -50 ∨ 1050 < v)) →
      (f.readTo zeroes n).sensor = .faulted ∧ (f.readTo zeroes n).zeroSum = f.zeroSum
        ∧ (f.readTo zeroes n).zeroFault = (f.zeroFault || zeroes) ∧ readingValid (-50) 1050 n = false) := by
  unfold Filter.readTo Filter.addZero
  refine ⟨rfl, by dsimp only; split <;> [split; skip] <;> rfl, by dsimp only; split <;> [split; skip] <;> rfl,
    fun v hn h1 h2 => ?_, fun far => ?_⟩
  · have valid : readingValid (-50) 1050 n = true := by rw [hn]; simp [readingValid, h1, h2]
    rw [valid, if_pos rfl, if_pos rfl, hn]
    cases zeroes
    · exact ⟨rfl, rfl, (Int.add_zero _).symm⟩
    · exact ⟨rfl, rfl, rfl⟩
  · have invalid : readingValid (-50) 1050 n = false := by
      rcases far with rfl | ⟨v, rfl, far⟩
      · rfl
      · simp only [readingValid, Bool.and_eq_false_iff, decide_eq_false_iff_not]
        omega
    rw [invalid]
    cases zeroes
    · exact ⟨rfl, rfl, (Bool.or_false f.zeroFault).symm, rfl⟩
    · exact ⟨rfl, rfl, (Bool.or_true f.zeroFault).symm, rfl⟩

/-- A reading of filter `i` that leaves `f` there. -/
structure State.ReadsFilter (i : PathId) (f : Filter) (s t : State) : Prop where
  channels : ∀ j, t.frg.channel j = s.frg.channel j
  others : ∀ j, j ≠ i → (s.flt.filter j).SameReading (t.flt.filter j)
  entry : f.SameReading (t.flt.filter i)

theorem State.ReadsFilter.then {i : PathId} {f : Filter} (h : State.ReadsFilter i f s t) (g : t.Unread u) : State.ReadsFilter i f s u :=
  ⟨fun j => (g.channels j).trans (h.channels j), fun j hj => (h.others j hj).trans (g.filters j), h.entry.trans (g.filters i)⟩

theorem State.ReadsFilter.set (s : State) (i : PathId) {f g : Filter} (h : f.SameReading g) :
    State.ReadsFilter i f s (s.updFlt (·.setFilter i g)) := by
  refine ⟨fun _ => rfl, fun j hj => ?_, ?_⟩
  · rw [State.updFlt_flt]
    cases i <;> cases j <;> first | exact .refl _ | exact absurd rfl hj
  · rw [State.updFlt_flt, Flt.filter_setFilter]
    exact h

theorem State.Unread.deriveFilter (s : State) (i : PathId) : s.Unread (s.deriveFilter i) := by
  have records := s.deriveFilter_records i
  refine ⟨fun j => by rw [records.frg], fun j => ?_⟩
  rw [s.deriveFilter_flt]
  by_cases hj : j = i
  · rw [hj, Flt.filter_setFilter]
    refine ⟨rfl, rfl, rfl, rfl, rfl, ?_⟩
    unfold Filter.derive
    dsimp only
    split <;> rfl
  · cases i <;> cases j <;> first | exact .refl _ | exact absurd rfl hj

theorem Filter.zeroed_sensor (f : Filter) (z : Bool) (n : Reading) : (if z then f.addZero n else f).sensor = f.sensor := by
  unfold Filter.addZero
  split
  · split <;> rfl
  · rfl

theorem State.readFilter_takes (s : State) (i : PathId) (n : Reading) :
    State.ReadsFilter i ((s.flt.filter i).readTo s.osc.zeroReading n) s (s.readFilter i n) := by
  have due (u : State) : u.Unread u.dueCheck := ⟨fun _ => rfl, fun i => by cases i <;> exact .refl _⟩
  have test (u : State) : u.Unread u.startTest := .of_settled (.startTest u)
  have undue (u : State) : u.Unread (u.updCheck fun c => { c with scheduledDue := false }) := .updCheck u _
  have ended (u : State) : u.Unread (u.abandonCheck .sensorFault) := .of_settled (.abandonCheck u _)
  have sensor := (s.flt.filter i).zeroed_sensor s.osc.zeroReading n
  unfold State.readFilter Filter.readTo
  dsimp only
  generalize (if s.osc.zeroReading = true then (s.flt.filter i).addZero n else s.flt.filter i) = f at *
  rw [sensor]
  split
  · split
    · exact (((State.ReadsFilter.set s i ⟨rfl, rfl, rfl, rfl, rfl, rfl⟩).then (.deriveFilter _ _)).then (due _)).then (test _)
    · next h => exact .set s i ⟨rfl, rfl, rfl, rfl, rfl, rfl⟩
  · split
    · next h => exact .set s i ⟨rfl, rfl, h, rfl, rfl, rfl⟩
    · exact ((((State.ReadsFilter.set s i ⟨rfl, rfl, rfl, rfl, rfl, rfl⟩).then (.faultEvent _ _ _ _)).then (ended _)).then
        (undue _)).then (.deriveFilter _ _)

/-! ### A faulted filter sensor keeps checks from starting -/

/-- A filter sensor is FAULTED and no check is in flight. -/
def State.Unchecked (t : State) : Prop := t.filterSensorFaulted = true ∧ t.flt.check.phase = .idle

theorem State.Unchecked.of_flt (h : s.Unchecked) (e : t.flt = s.flt) : t.Unchecked := by
  unfold State.Unchecked State.filterSensorFaulted
  rw [e]
  exact h

theorem State.filterSensorFaulted_of {i : PathId} (h : (t.flt.filter i).sensor = .faulted) : t.filterSensorFaulted = true := by
  unfold State.filterSensorFaulted
  cases i
  · exact Bool.or_eq_true_iff.mpr (.inl (beq_iff_eq.mpr h))
  · exact Bool.or_eq_true_iff.mpr (.inr (beq_iff_eq.mpr h))

theorem State.deriveFilter_phase (s : State) (i : PathId) : (s.deriveFilter i).flt.check.phase = s.flt.check.phase := by
  rw [s.deriveFilter_flt]
  cases i <;> rfl

theorem State.Unchecked.startTest (h : s.Unchecked) : s.startTest.Unchecked := by
  have started (u : State) (hu : u.Unchecked) : (u.startCheck .scheduled).1.Unchecked := by
    rw [State.startCheck_faulted hu.1]
    have faulted := hu.1
    unfold State.Unchecked State.filterSensorFaulted State.raiseFilterResult at *
    rw [State.raise_flt]
    exact ⟨faulted, rfl⟩
  unfold State.startTest
  split
  · dsimp only
    have undue : (s.updFlt fun f => { f with startTestDue := false }).Unchecked := h
    split
    · exact started _ undue
    · exact undue
  · exact h

theorem State.Unchecked.propagate (h : s.Unchecked) : s.propagate.Unchecked := by
  refine State.propagate_induct (P := State.Unchecked) (fun t u same ht => ht.of_flt same.flt) (fun t _ ht => ht)
    (fun t w p f _ ht same => ?_) (fun t _ ht => ?_) (fun t _ ht => ?_) (fun t ht => ht.startTest) h
  · have here : w.Unchecked := State.Unchecked.of_flt (s := t.updDefrost fun d => { d with phase := .posted }) ht same.flt
    exact here.of_flt (State.applyArb_idle here.2 _).1
  · have stood : (t.setDevice .standby).Unchecked := ht.of_flt (State.setDevice_flt _ _)
    exact stood.of_flt (State.applyArb_idle stood.2 _).1
  · have entered : (t.setDevice .filterService).Unchecked := ht.of_flt (State.setDevice_flt _ _)
    exact entered

/-- What a filter's reading does when it turns into a fault (R119, R133). -/
def State.sensorFails (s : State) (i : PathId) (n : Reading) : State :=
  (((s.faultEvent .pressureFault (filterSubject i) (readingCode n)).abandonCheck .sensorFault).updCheck
    fun c => { c with scheduledDue := false }).deriveFilter i

theorem State.sensorFails_effect (s : State) (i : PathId) (n : Reading) : s.Unread (s.sensorFails i n)
    ∧ (s.sensorFails i n).flt.check.phase = .idle ∧ (s.sensorFails i n).sup.flags.get .pressureFault = true := by
  have flag : (s.faultEvent .pressureFault (filterSubject i) (readingCode n)).sup.flags.get .pressureFault = true := by
    rw [(s.faultEvent_taken _ _ _).flags _ (by decide)]
    rfl
  have fault := State.Unread.faultEvent s .pressureFault (filterSubject i) (readingCode n)
  unfold State.sensorFails
  generalize s.faultEvent .pressureFault (filterSubject i) (readingCode n) = t at *
  have ended : SettledFrom [] t (t.abandonCheck .sensorFault) := .abandonCheck t _
  have idle := t.abandonCheck_idle .sensorFault
  generalize t.abandonCheck .sensorFault = u at *
  have undue : u.Passes (u.updCheck fun c => { c with scheduledDue := false }) := .updCheck u _
  refine ⟨((fault.trans (.of_settled ended)).trans (.updCheck u _)).trans (.deriveFilter _ i), ?_, ?_⟩
  · rw [State.deriveFilter_phase]
    exact idle
  · exact (undue.trans (.deriveFilter _ i)).stays _ (ended.flagsStay _ flag)

theorem State.readFilter_failing (s : State) (i : PathId) {n : Reading} (hn : readingValid (-50) 1050 n = false)
    (hs : (s.flt.filter i).sensor ≠ .faulted) :
    ∃ f : Filter, f.sensor = .faulted ∧ s.readFilter i n = (s.updFlt (·.setFilter i f)).sensorFails i n := by
  have sensor := (s.flt.filter i).zeroed_sensor s.osc.zeroReading n
  unfold State.readFilter State.sensorFails
  dsimp only
  generalize (if s.osc.zeroReading = true then (s.flt.filter i).addZero n else s.flt.filter i) = f at *
  rw [sensor, if_neg (by rw [hn]; exact Bool.false_ne_true), if_neg hs]
  exact ⟨{ f with raw := n, sensor := .faulted }, rfl, rfl⟩

/-- A filter sensor that reads a fault at last (R119, R133). -/
theorem State.readFilter_faults (s : State) (i : PathId) {n : Reading} (hn : readingValid (-50) 1050 n = false)
    (hs : (s.flt.filter i).sensor ≠ .faulted) : (s.readFilter i n).sup.flags.get .pressureFault = true
      ∧ (s.readFilter i n).Unchecked := by
  obtain ⟨f, faulted, eq⟩ := s.readFilter_failing i hn hs
  rw [eq]
  obtain ⟨unread, idle, flag⟩ := (s.updFlt (·.setFilter i f)).sensorFails_effect i n
  refine ⟨flag, State.filterSensorFaulted_of (i := i) ?_, idle⟩
  rw [(unread.filters i).sensor, State.updFlt_flt, Flt.filter_setFilter]
  exact faulted

theorem State.Unchecked.readFilter (h : s.Unchecked) {j : PathId} (hj : (s.flt.filter j).sensor = .faulted) {i : PathId} (hi : j ≠ i)
    (n : Reading) : (s.readFilter i n).Unchecked := by
  have stays := ((s.readFilter_takes i n).others j hi).sensor.trans hj
  refine ⟨State.filterSensorFaulted_of stays, ?_⟩
  have set (f : Filter) : (s.updFlt (·.setFilter i f)).Unchecked := by
    refine ⟨State.filterSensorFaulted_of (i := j) ?_, ?_⟩
    · rw [State.updFlt_flt]
      cases i <;> cases j <;> first | exact hj | exact absurd rfl hi
    · rw [State.updFlt_flt]
      cases i <;> exact h.2
  unfold State.readFilter
  extract_lets p q f w x
  split
  · split
    · have derived := (State.Unread.deriveFilter (s.updFlt (·.setFilter i { f with sensor := .unverified })) i).filters j
      have due : ((s.updFlt (·.setFilter i { f with sensor := .unverified })).deriveFilter i).dueCheck.Unchecked := by
        refine ⟨State.filterSensorFaulted_of (i := j) ?_, ?_⟩
        · have kept : ∀ u : State, u.dueCheck.flt.filter j = u.flt.filter j := fun u => by cases j <;> rfl
          rw [kept, derived.sensor, State.updFlt_flt]
          cases i <;> cases j <;> first | exact hj | exact absurd rfl hi
        · change (State.deriveFilter _ i).flt.check.phase = .idle
          rw [State.deriveFilter_phase]
          exact (set _).2
      exact due.startTest.2
    · exact (set _).2
  · split
    · exact (set _).2
    · exact (State.sensorFails_effect _ i n).2.1

theorem State.defrostSecond_flt (s : State) : s.defrostSecond.flt = s.flt := by
  unfold State.defrostSecond
  extract_lets d counting counts elapsed confirm
  split
  case h_1 | h_2 =>
    split
    · rfl
    · split
      · rfl
      · split
        · rfl
        · rw [State.confirmEntry_eq]
          split <;> rfl
  all_goals rfl

theorem State.Unchecked.countRecords (h : s.Unchecked) : s.countRecords.Unchecked := by
  have defrost : s.defrostSecond.Unchecked := h.of_flt s.defrostSecond_flt
  have checked : s.defrostSecond.checkSecond.Unchecked := by
    refine ⟨defrost.1, ?_⟩
    unfold State.checkSecond
    rw [State.updCheck_flt]
    dsimp only
    rw [defrost.2]
    exact defrost.2
  refine ⟨?_, ?_⟩
  · have unread : s.Unread s.countRecords := .countRecords s
    have supply := (unread.filters .supply).sensor
    have extract := (unread.filters .extract).sensor
    have faulted := h.1
    unfold State.filterSensorFaulted at faulted ⊢
    exact (congrArg₂ (· || ·) (congrArg (· == FilterSensorStatus.faulted) supply) (congrArg (· == FilterSensorStatus.faulted) extract)).trans
      faulted
  · unfold State.countRecords State.accumulate
    split
    · rw [State.updFlt_flt]
      unfold Flt.runSecond
      split <;> exact checked.2
    · exact checked.2

/-! ### The readings of a second -/

/-- The reading of temperature channel `i`. -/
def tempReading (r : SecondReadings) : TempId → TempReading
  | .oda => r.oda
  | .sup => r.sup
  | .eta => r.eta
  | .eha => r.eha

/-- The reading of filter `i`. -/
def filterReading (r : SecondReadings) : PathId → Reading
  | .supply => r.supplyFilter
  | .extract => r.extractFilter

/-- The four temperature readings of a second. -/
def State.readTemps (s : State) (r : SecondReadings) : State :=
  (((s.readTemp .oda r.oda).readTemp .sup r.sup).readTemp .eta r.eta).readTemp .eha r.eha

/-- The two filter readings of a second. -/
def State.readFilters (s : State) (r : SecondReadings) : State :=
  ((s.readFilter .supply r.supplyFilter).propagate.readFilter .extract r.extractFilter).propagate

theorem State.readTemps_takes (s : State) (r : SecondReadings) : s.Passes (s.readTemps r) ∧ (s.readTemps r).flt = s.flt
    ∧ ∀ i, (s.readTemps r).frg.channel i = ((s.frg.channel i).take (tempReading r i)).1
      ∧ (((s.frg.channel i).take (tempReading r i)).2 = true → (s.readTemps r).sup.flags.get .tempFault = true) := by
  obtain ⟨flt1, at1, flag1⟩ := s.readTemp_takes .oda r.oda
  have pass1 := State.Passes.readTemp s .oda r.oda
  unfold State.readTemps
  generalize s.readTemp .oda r.oda = a at *
  obtain ⟨flt2, at2, flag2⟩ := a.readTemp_takes .sup r.sup
  have pass2 := State.Passes.readTemp a .sup r.sup
  generalize a.readTemp .sup r.sup = b at *
  obtain ⟨flt3, at3, flag3⟩ := b.readTemp_takes .eta r.eta
  have pass3 := State.Passes.readTemp b .eta r.eta
  generalize b.readTemp .eta r.eta = c at *
  obtain ⟨flt4, at4, flag4⟩ := c.readTemp_takes .eha r.eha
  have pass4 := State.Passes.readTemp c .eha r.eha
  generalize c.readTemp .eha r.eha = d at *
  refine ⟨((pass1.trans pass2).trans pass3).trans pass4, by rw [flt4, flt3, flt2, flt1], fun i => ⟨?_, fun set => ?_⟩⟩
  · cases i <;> simp [at4, at3, at2, at1, tempReading]
  · cases i
    case oda => exact pass4.stays _ (pass3.stays _ (pass2.stays _ (flag1 set)))
    case sup => exact pass4.stays _ (pass3.stays _ (flag2 (by simpa [at1, tempReading] using set)))
    case eta => exact pass4.stays _ (flag3 (by simpa [at2, at1, tempReading] using set))
    case eha => exact flag4 (by simpa [at3, at2, at1, tempReading] using set)

theorem Filter.SameReading.readTo {f g : Filter} (h : f.SameReading g) (z : Bool) (n : Reading) :
    (f.readTo z n).SameReading (g.readTo z n) := by
  obtain ⟨raw, offset, sensor, sum, fault, history⟩ := h
  unfold Filter.readTo Filter.addZero
  dsimp only
  rw [sensor]
  cases z
  · exact ⟨rfl, offset, rfl, sum, fault, history⟩
  · cases readingValid (-50) 1050 n
    · exact ⟨rfl, offset, rfl, sum, rfl, history⟩
    · exact ⟨rfl, offset, rfl, congrArg (· + readingCode n) sum, fault, history⟩

theorem State.readFilters_take (s : State) (r : SecondReadings) : (∀ j, (s.readFilters r).frg.channel j = s.frg.channel j)
    ∧ ∀ i, ((s.flt.filter i).readTo s.osc.zeroReading (filterReading r i)).SameReading ((s.readFilters r).flt.filter i)
      ∧ (readingValid (-50) 1050 (filterReading r i) = false → (s.flt.filter i).sensor ≠ .faulted →
        (s.readFilters r).sup.flags.get .pressureFault = true ∧ (s.readFilters r).Unchecked) := by
  have takes1 := s.readFilter_takes .supply r.supplyFilter
  have pass1 := State.Passes.readFilter s .supply r.supplyFilter
  have faults1 := s.readFilter_faults .supply (n := r.supplyFilter)
  unfold State.readFilters
  generalize s.readFilter .supply r.supplyFilter = a at *
  have takes2 := takes1.then (State.Unread.of_settled (.propagate a))
  have pass2 := pass1.trans (.propagate a)
  have faults2 : readingValid (-50) 1050 r.supplyFilter = false → (s.flt.filter .supply).sensor ≠ .faulted →
      a.propagate.sup.flags.get .pressureFault = true ∧ a.propagate.Unchecked := fun hn hs =>
    ⟨(State.Passes.propagate a).stays _ (faults1 hn hs).1, (faults1 hn hs).2.propagate⟩
  clear takes1 pass1 faults1
  generalize a.propagate = b at *
  have takes3 := b.readFilter_takes .extract r.extractFilter
  have pass3 := State.Passes.readFilter b .extract r.extractFilter
  have faults3 := b.readFilter_faults .extract (n := r.extractFilter)
  have holds3 (h : b.Unchecked) (hb : (b.flt.filter .supply).sensor = .faulted) :=
    h.readFilter hb (i := .extract) (by decide) r.extractFilter
  rw [pass2.zeroReading] at takes3
  generalize b.readFilter .extract r.extractFilter = c at *
  have takes4 := takes3.then (State.Unread.of_settled (.propagate c))
  have pass4 := pass3.trans (.propagate c)
  have last := State.Passes.propagate c
  have unchecked (h : c.Unchecked) := h.propagate
  generalize c.propagate = d at *
  refine ⟨fun j => (takes4.channels j).trans (takes2.channels j), fun i => ?_⟩
  cases i with
  | supply =>
    refine ⟨takes2.entry.trans (takes4.others .supply (by decide)), fun hn hs => ?_⟩
    obtain ⟨flag, idle⟩ := faults2 hn hs
    refine ⟨pass4.stays _ flag, unchecked (holds3 idle ?_)⟩
    rw [takes2.entry.sensor]
    exact if_neg (by rw [show readingValid (-50) 1050 r.supplyFilter = false from hn]; exact Bool.false_ne_true)
  | extract =>
    have before := takes2.others .extract (by decide)
    refine ⟨(before.readTo _ _).trans takes4.entry, fun hn hs => ?_⟩
    obtain ⟨flag, idle⟩ := faults3 hn (by rw [before.sensor]; exact hs)
    exact ⟨last.stays _ flag, unchecked idle⟩

/-! ### The second -/

theorem State.countSecond_unread (s : State) : s.Unread s.countSecond := by
  obtain ⟨-, -, -, frg, flt, -⟩ := s.countSecond_frame
  refine ⟨fun i => ?_, fun i => ?_⟩
  · rw [frg]
    unfold Frg.second
    cases i <;> rfl
  · rw [flt]
    unfold Flt.serviceSecond
    split <;> cases i <;> exact .refl _

/-- What a second's readings make of the channels and the filters. -/
theorem State.second_reads (s : State) (r : SecondReadings) {t : State}
    (ht : t = (s.secondRead r).boostSecond.deriveHumidity.propagate) :
    (∀ i, t.frg.channel i = ((s.frg.channel i).take (tempReading r i)).1
      ∧ (((s.frg.channel i).take (tempReading r i)).2 = true → t.sup.flags.get .tempFault = true))
    ∧ ∀ i, ((s.flt.filter i).readTo s.countSecond.osc.zeroReading (filterReading r i)).SameReading (t.flt.filter i)
      ∧ (readingValid (-50) 1050 (filterReading r i) = false → (s.flt.filter i).sensor ≠ .faulted →
        t.sup.flags.get .pressureFault = true ∧ t.flt.check.phase = .idle) := by
  have shown : s.secondRead r = (((s.countSecond.airSecond r).readTemps r).readFilters r).countRecords := rfl
  rw [shown] at ht
  have counted := s.countSecond_unread.trans (.airSecond s.countSecond r)
  have zeroing := (State.Passes.airSecond s.countSecond r).zeroReading
  generalize s.countSecond.airSecond r = a at *
  obtain ⟨pass, flt, temps⟩ := a.readTemps_takes r
  rw [← zeroing, ← pass.zeroReading]
  generalize a.readTemps r = b at *
  obtain ⟨channels, filters⟩ := b.readFilters_take r
  have passed : b.Passes (b.readFilters r) :=
    (((State.Passes.readFilter b _ _).trans (.propagate _)).trans (.readFilter _ _ _)).trans (.propagate _)
  generalize b.readFilters r = c at *
  have records := State.Unread.countRecords c
  have passes := State.Passes.countRecords c
  have unchecked (h : c.Unchecked) := h.countRecords
  generalize c.countRecords = d at *
  obtain ⟨frg, flt', -, -, -, -, -, -, stay⟩ := d.boosted_frame
  generalize d.boostSecond.deriveHumidity = e at *
  have last : SettledFrom [] e t := ht ▸ .propagate e
  have idle (h : e.Unchecked) : t.flt.check.phase = .idle := ht ▸ h.propagate.2
  have unread : c.Unread t := (records.trans (.of_eq frg flt')).trans (.of_settled last)
  have stays (g : Flag) (h : c.sup.flags.get g = true) : t.sup.flags.get g = true :=
    last.flagsStay g (stay g (passes.stays g h))
  refine ⟨fun i => ⟨?_, fun set => ?_⟩, fun i => ⟨?_, fun hn hs => ?_⟩⟩
  · rw [unread.channels, channels, (temps i).1, counted.channels]
  · rw [← counted.channels] at set
    exact stays _ (passed.stays _ ((temps i).2 set))
  · have same : (s.flt.filter i).SameReading (b.flt.filter i) := by
      rw [flt]
      exact counted.filters i
    exact ((same.readTo _ _).trans (filters i).1).trans (unread.filters i)
  · have sensor : (b.flt.filter i).sensor ≠ .faulted := by
      rw [flt, (counted.filters i).sensor]
      exact hs
    obtain ⟨flag, none⟩ := (filters i).2 hn sensor
    exact ⟨stays _ flag, idle ((unchecked none).of_flt flt')⟩

theorem TempChannel.take_spec (c : TempChannel) (n : TempReading) :
    (∀ v, n = .value v → -400 ≤ v → v ≤ 800 →
      (c.take n).1 = { status := .good, holdTime := 0, raw := v, lastGood := some v, everRead := true })
    ∧ (∀ raw, (n = .openCircuit ∧ raw = -9998 ∨ n = .shortCircuit ∧ raw = -9999
        ∨ n = .value raw ∧ (raw < -400 ∨ 800 < raw)) →
      (c.take n).1.raw = raw ∧ (c.take n).1.lastGood = c.lastGood
        ∧ (c.status = .good → (c.take n).1.status = .holding ∧ (c.take n).1.holdTime = 0 ∧ (c.take n).2 = true)
        ∧ (c.status = .holding → (c.take n).1.status = .holding ∧ (c.take n).1.holdTime = min (c.holdTime + 1) 60)
        ∧ (c.status = .invalid → (c.take n).1.status = .invalid ∧ (c.everRead = false → (c.take n).2 = true))) := by
  refine ⟨fun v hn h1 h2 => ?_, fun raw hn => ?_⟩
  · have valid : tempValid n = true := by rw [hn]; simp [tempValid, h1, h2]
    unfold TempChannel.take
    rw [if_pos valid, hn]
    rfl
  · obtain ⟨invalid, code⟩ : tempValid n = false ∧ tempRaw n = raw := by
      rcases hn with ⟨rfl, rfl⟩ | ⟨rfl, rfl⟩ | ⟨rfl, far⟩
      · exact ⟨rfl, rfl⟩
      · exact ⟨rfl, rfl⟩
      · refine ⟨?_, rfl⟩
        simp only [tempValid, Bool.and_eq_false_iff, decide_eq_false_iff_not]
        omega
    unfold TempChannel.take
    rw [if_neg (by rw [invalid]; exact Bool.false_ne_true), code]
    cases e : c.status with
    | good => exact ⟨rfl, rfl, fun _ => ⟨rfl, rfl, rfl⟩, nofun, nofun⟩
    | holding => exact ⟨rfl, rfl, nofun, fun _ => ⟨rfl, rfl⟩, nofun⟩
    | invalid => exact ⟨rfl, rfl, nofun, nofun, fun _ => ⟨rfl, fun never => by rw [never]; rfl⟩⟩

end Readings

end Sys2Proof.Machine

/-- Settles O31. -/
theorem tickReadsInputs : Obligations.TickReadsInputs := by
  unfold Obligations.TickReadsInputs
  intro s r hup
  obtain ⟨t, ht⟩ : ∃ t, t = (s.secondRead r).boostSecond.deriveHumidity.propagate := ⟨_, rfl⟩
  obtain ⟨temps, filters⟩ := s.second_reads r ht
  refine ⟨t, (execUptimeTick_eq r hup).trans (congrArg Host.Outcome.next ht.symm), fun i n hn => ?_, fun i n hn => ?_⟩
  · have read : n = tempReading r i := by cases i <;> exact hn
    obtain ⟨channel, fault⟩ := temps i
    obtain ⟨valid, invalid⟩ := (s.frg.channel i).take_spec n
    rw [← read] at channel fault
    rw [channel]
    refine ⟨valid, fun raw hraw => ?_⟩
    obtain ⟨hr, last, good, holding, never⟩ := invalid raw hraw
    exact ⟨hr, last, fun h => ⟨(good h).1, (good h).2.1, fault (good h).2.2⟩, holding,
      fun h => ⟨(never h).1, fun e => fault ((never h).2 e)⟩⟩
  · have read : n = filterReading r i := by cases i <;> exact hn
    obtain ⟨entry, fault⟩ := filters i
    rw [← read, s.countSecond_zeroReading] at entry
    rw [← read] at fault
    obtain ⟨raw, offset, history, valid, invalid⟩ := (s.flt.filter i).readTo_spec
      (decide (s.osc.device.zeroing = true ∧ 10 ≤ s.osc.stoppedSecs ∧ s.osc.stoppedSecs < 18)) n
    refine ⟨entry.raw.trans raw, entry.zeroOffset.trans offset, entry.history.trans history, fun v hv h1 h2 => ?_, fun far => ?_⟩
    · obtain ⟨sensor, zeroFault, sum⟩ := valid v hv h1 h2
      refine ⟨entry.sensor.trans sensor, entry.zeroFault.trans zeroFault, entry.zeroSum.trans (sum.trans ?_)⟩
      simp only [decide_eq_true_eq]
    · obtain ⟨sensor, sum, zeroFault, notValid⟩ := invalid far
      exact ⟨entry.sensor.trans sensor, entry.zeroSum.trans sum, entry.zeroFault.trans zeroFault, fault notValid⟩

end

section
/-! What a second counts: a state in which a run-on is cut within the second. -/

open Sys2Proof Sys2Proof.Machine

namespace Sys2Proof.Machine

section Outranked

/-- FILTER_CHECK is the active demand over a FIRE that waits at level 2, and a defrost in PREPARE waits for the run-on. Every
post of FIRE takes level 15, so no run reaches such a table, but the statement of the second speaks of every state. -/
def outranked : State :=
  { State.reset with
    osc := { Osc.reset with device := .running }
    arb := { Arb.reset with
      active := some .filterCheck
      queue := [.fire, .base]
      table := { Arb.reset.table with
        fire := some ⟨2, .internal, .flows 150 150, none, 0, 0⟩
        filterCheck := some ⟨6, .internal, .flows 150 150, none, 0, 0⟩ } }
    flt := { State.reset.flt with check := { State.reset.flt.check with phase := .waiting } }
    frg := { State.reset.frg with runOn := 20, defrost := { State.reset.frg.defrost with phase := .prepare } } }

/-- A second in which the supply filter's sensor fails, and with it the check. -/
def filterLost : SecondReadings :=
  { supplyNozzle := .value 0, extractNozzle := .value 0, supplyPulses := 0, extractPulses := 0, oda := .value 0, sup := .value 0,
    eta := .value 0, eha := .value 0, supplyFilter := .incomplete, extractFilter := .value 0 }

/-- The check withdrawn, FIRE is active and cuts the run-on; DEFROST, which the cut lets post, preempts it in the same second. -/
theorem outranked_second : exec (.uptimeTick filterLost) outranked
      = .next (outranked.secondRead filterLost).boostSecond.deriveHumidity.propagate
    ∧ (outranked.secondRead filterLost).boostSecond.deriveHumidity.propagate.cutCondition = none
    ∧ (outranked.secondRead filterLost).boostSecond.deriveHumidity.propagate.frg.applied = 0
    ∧ (outranked.secondRead filterLost).boostSecond.deriveHumidity.propagate.frg.runOn = 0 :=
  ⟨execUptimeTick_eq filterLost (by decide), by decide +kernel⟩

end Outranked

end Sys2Proof.Machine

/-- Refutes O32: the run-on of `outranked` stands at 20 with no cut condition before or after the second and with the heater off
through it, so it should count to 19; a cut condition that arises and passes within the second has cut it to 0. -/
theorem not_tickCounts : ¬ Obligations.TickCounts := by
  intro h
  obtain ⟨row, noCut, off, cut⟩ := outranked_second
  obtain ⟨t, row', -, -, -, -, -, -, -, -, counts, -⟩ := h outranked filterLost (by decide)
  obtain rfl := Host.Outcome.next.inj (row.symm.trans row')
  obtain ⟨-, -, -, stays⟩ := counts (by decide) noCut
  have counted := stays (by decide) off (.inl (by decide))
  rw [cut] at counted
  exact absurd counted (by decide)

end

section
/-! The fan paths in a second. -/

open Sys2Proof Sys2Proof.Machine

namespace Sys2Proof.Machine

section Airflow

variable {s t u : State} {r : SecondReadings} {i : PathId} {p : FanPath}

/-! ### The square root -/

/-- One bit of the square root. -/
def rootStep (n r k : Nat) : Nat := if (r + 2 ^ k) * (r + 2 ^ k) ≤ n then r + 2 ^ k else r

theorem isqrt_eq (n : Nat) : isqrt n = (List.range 16).reverse.foldl (rootStep n) 0 := rfl

/-- Each bit halves the interval that holds the root. -/
theorem rootStep_bounds (n : Nat) : ∀ k r, r * r ≤ n → n < (r + 2 ^ k) * (r + 2 ^ k) →
    (List.range k).reverse.foldl (rootStep n) r * (List.range k).reverse.foldl (rootStep n) r ≤ n
      ∧ n < ((List.range k).reverse.foldl (rootStep n) r + 1) * ((List.range k).reverse.foldl (rootStep n) r + 1)
  | 0, _, low, high => ⟨low, high⟩
  | k + 1, r, low, high => by
    rw [List.range_succ, List.reverse_append, List.reverse_singleton, List.singleton_append, List.foldl_cons]
    refine rootStep_bounds n k _ ?_ ?_
    · unfold rootStep
      split <;> assumption
    · unfold rootStep
      split
      · rw [Nat.add_assoc, ← Nat.two_mul, ← Nat.pow_succ']
        exact high
      · next h => exact Nat.lt_of_not_le h

theorem isqrt_of {n root : Nat} (hn : n < 2 ^ 32) (low : root * root ≤ n) (high : n < (root + 1) * (root + 1)) : isqrt n = root := by
  obtain ⟨h1, h2⟩ := rootStep_bounds n 16 0 (Nat.zero_le n) (by simpa using hn)
  rw [isqrt_eq]
  generalize (List.range 16).reverse.foldl (rootStep n) 0 = q at *
  have a := Nat.mul_self_lt_mul_self_iff.mp (h1.trans_lt high)
  have b := Nat.mul_self_lt_mul_self_iff.mp (low.trans_lt h2)
  omega

/-! ### What a second reads of a path -/

/-- The nozzle's reading of path `i`. -/
def nozzleReading (r : SecondReadings) : PathId → Reading
  | .supply => r.supplyNozzle
  | .extract => r.extractNozzle

/-- The pulses of path `i`. -/
def pulseCount (r : SecondReadings) : PathId → Nat
  | .supply => r.supplyPulses
  | .extract => r.extractPulses

/-- A path after its nozzle's reading (R24, R25). -/
def FanPath.nozzled (p : FanPath) (z : Bool) (n : Reading) : FanPath :=
  let q := if z then p.addZero n else p
  let q := { q with raw := n }
  if readingValid (-50) 550 n then (if q.faulted then q.heal else q) else if q.faulted then q else q.fault

theorem State.readNozzle_afc (s : State) (i : PathId) (n : Reading) :
    (s.readNozzle i n).afc = s.afc.setPath i ((s.afc.path i).nozzled s.osc.zeroReading n) := by
  unfold State.readNozzle FanPath.nozzled
  dsimp only
  generalize (if s.osc.zeroReading = true then (s.afc.path i).addZero n else s.afc.path i) = q
  split
  · split <;> rw [State.movePath_afc]
  · split
    · rw [State.movePath_afc]
    · rw [State.movePath_afc, State.faultEvent_afc]

theorem State.readNozzle_osc (s : State) (i : PathId) (n : Reading) : (s.readNozzle i n).osc = s.osc := by
  unfold State.readNozzle
  extract_lets p q w
  split
  · rw [State.movePath_osc]
  · split
    · rw [State.movePath_osc]
    · rw [State.movePath_osc, State.faultEvent_osc]

/-- A path after its nozzle and its tachometer are read. -/
def State.sensedPath (s : State) (i : PathId) (n : Reading) (w : Nat) : FanPath :=
  ((s.afc.path i).nozzled s.osc.zeroReading n).measure (s.setting (18 + pathCode i)) (fanSpeed w (s.inUse 24))
    s.osc.device.zeroing

theorem State.sensePath_afc (s : State) (i : PathId) (n : Reading) (w : Nat) :
    (s.sensePath i n w).afc = s.afc.setPath i (s.sensedPath i n w) ∧ (s.sensePath i n w).osc = s.osc := by
  have afc := s.readNozzle_afc i n
  have osc := s.readNozzle_osc i n
  unfold State.sensePath State.sensedPath
  generalize s.readNozzle i n = v at *
  have factor : v.nozzleFactor i = s.setting (18 + pathCode i) := by
    unfold State.setting
    rw [← osc]
    cases i <;> rfl
  have tach : v.inUse 24 = s.inUse 24 := by rw [State.inUse, State.inUse, osc]
  refine ⟨?_, by rw [State.movePath_osc, osc]⟩
  rw [State.movePath_afc, afc, Afc.path_setPath, Afc.setPath_setPath, factor, tach, osc]

/-- Path `i` after the readings and the update of a second. -/
def State.secondPath (s : State) (r : SecondReadings) (i : PathId) : FanPath :=
  (s.sensedPath i (nozzleReading r i) (pulseCount r i)).second (s.afc.path i) (s.setting 20) (s.setting 21) (s.setting 23)

/-- Both paths read and updated, before what follows. -/
def State.airRead (s : State) (r : SecondReadings) : State :=
  (((s.sensePath .supply r.supplyNozzle r.supplyPulses).sensePath .extract r.extractNozzle r.extractPulses).regulatePath .supply
    s.afc.supply).regulatePath .extract s.afc.extract

theorem State.airSecond_eq (s : State) (r : SecondReadings) : s.airSecond r = (s.airRead r).propagate := rfl

theorem State.airRead_path (s : State) (r : SecondReadings) (i : PathId) : (s.airRead r).afc.path i = s.secondPath r i := by
  obtain ⟨afc1, osc1⟩ := s.sensePath_afc .supply r.supplyNozzle r.supplyPulses
  unfold State.airRead
  generalize s.sensePath .supply r.supplyNozzle r.supplyPulses = a at *
  obtain ⟨afc2, osc2⟩ := a.sensePath_afc .extract r.extractNozzle r.extractPulses
  have sensed : a.sensedPath .extract r.extractNozzle r.extractPulses = s.sensedPath .extract r.extractNozzle r.extractPulses := by
    have path : a.afc.path .extract = s.afc.path .extract := by rw [afc1]; rfl
    unfold State.sensedPath State.setting State.inUse
    rw [path, osc1]
  rw [sensed] at afc2
  generalize a.sensePath .extract r.extractNozzle r.extractPulses = b at *
  have osc : b.osc = s.osc := osc2.trans osc1
  have setting (n : Nat) : b.setting n = s.setting n := by rw [State.setting, State.setting, osc]
  have setting' (p : FanPath) (n : Nat) : (b.movePath .supply p).setting n = s.setting n := by
    rw [State.setting, State.setting, State.movePath_osc, osc]
  unfold State.regulatePath
  rw [State.movePath_afc, State.movePath_afc]
  simp only [setting, setting', afc2, afc1]
  cases i <;> rfl

/-! ### What a second leaves of a path -/

theorem State.readTemp_afc (s : State) (i : TempId) (n : TempReading) : (s.readTemp i n).afc = s.afc := by
  have regime (u : State) (b : Regime) : (u.afterRegime b).afc = u.afc := by
    obtain ⟨d, eq⟩ := u.afterRegime_eq b
    rw [eq]
  have leaves (u : State) : u.confirmExit.afc = u.afc := by
    rw [State.confirmExit_eq]
    split <;> rfl
  unfold State.readTemp
  dsimp only
  split
  · rw [leaves, regime]
    split
    · exact State.faultEvent_afc _ _ _ _
    · rfl
  · rw [regime]
    split
    · exact State.faultEvent_afc _ _ _ _
    · rfl

theorem State.readFilter_afc (s : State) (i : PathId) (n : Reading) : (s.readFilter i n).afc = s.afc := by
  have derived (u : State) (j : PathId) : (u.deriveFilter j).afc = u.afc := (u.deriveFilter_records j).afc
  unfold State.readFilter
  extract_lets p q w v x
  split
  · split
    · rw [State.startTest_afc]
      exact derived _ _
    · rfl
  · split
    · rfl
    · rw [derived]
      exact (State.TableOnly.abandonCheck (s := v) .sensorFault).afc.trans (State.faultEvent_afc _ _ _ _)

theorem State.countRecords_afc (s : State) : s.countRecords.afc = s.afc := by
  have defrost : s.defrostSecond.afc = s.afc := by
    unfold State.defrostSecond
    extract_lets d counting counts elapsed confirm
    split
    case h_1 | h_2 =>
      split
      · rfl
      · split
        · rfl
        · split
          · rfl
          · rw [State.confirmEntry_eq]
            split <;> rfl
    all_goals rfl
  unfold State.countRecords State.accumulate
  split
  · exact defrost
  · exact defrost

/-- What the services of the paths keep, and every change that leaves the paths and MANUAL's slot, a second keeps. -/
theorem State.second_follows {Q : State → Prop}
    (keep : ∀ u w : State, w.afc = u.afc → (u.arb.table.manual = none → w.arb.table.manual = none) → Q u → Q w)
    (follow : ∀ u : State, Q u → Q u.propagate) (h : Q (s.countSecond.airRead r)) :
    Q (s.secondRead r).boostSecond.deriveHumidity.propagate := by
  have shown : s.secondRead r = (((s.countSecond.airSecond r).readTemps r).readFilters r).countRecords := rfl
  have passed (u w : State) (hp : u.Passes w) (ha : w.afc = u.afc) (hq : Q u) : Q w := by
    refine keep u w ha (fun hm => ?_) hq
    have kept := hp.settled.slots .manual (by simp) (by decide) (by decide)
    exact kept.none_iff.mpr hm
  rw [shown, State.airSecond_eq]
  have air := follow _ h
  generalize (s.countSecond.airRead r).propagate = a at *
  have temp (u : State) (i : TempId) (n : TempReading) (hq : Q u) : Q (u.readTemp i n) :=
    passed u _ (.readTemp u i n) (u.readTemp_afc i n) hq
  have temps : Q (a.readTemps r) := temp _ _ _ (temp _ _ _ (temp _ _ _ (temp _ _ _ air)))
  generalize a.readTemps r = b at *
  have filter (u : State) (i : PathId) (n : Reading) (hq : Q u) : Q (u.readFilter i n).propagate :=
    follow _ (passed u _ (.readFilter u i n) (u.readFilter_afc i n) hq)
  have filters : Q (b.readFilters r) := filter _ _ _ (filter _ _ _ temps)
  generalize b.readFilters r = c at *
  have records : Q c.countRecords := passed c _ (.countRecords c) c.countRecords_afc filters
  generalize c.countRecords = d at *
  obtain ⟨-, -, afc, arb, -⟩ := d.boosted_frame
  exact follow _ (keep d _ afc (fun hm => by rw [arb]; exact hm) records)

/-! ### What the readings make of a path -/

theorem FanPath.nozzled_valid {z : Bool} {n : Reading} {v : Int} (hn : n = .value v) (h1 : -50 ≤ v) (h2 : v ≤ 550) :
    p.nozzled z n = { p with
      raw := n, faulted := false, zeroSum := p.zeroSum + if z then v else 0
      state := if p.faulted = true ∧ p.state = .hold then .regulating else p.state } := by
  have valid : readingValid (-50) 550 n = true := by rw [hn]; simp [readingValid, h1, h2]
  unfold FanPath.nozzled FanPath.addZero FanPath.heal
  rw [valid, hn]
  cases p
  case mk _ _ _ _ _ faulted _ _ _ _ _ _ _ _ _ _ _ _ =>
    cases z <;> cases faulted <;> simp [readingCode]

theorem FanPath.nozzled_invalid {z : Bool} {n : Reading} (hn : readingValid (-50) 550 n = false) : p.nozzled z n = { p with
      raw := n, faulted := true, zeroFault := p.zeroFault || z
      state := if p.faulted = false ∧ p.state.regulates = true then .hold else p.state
      shortfallTime := if p.faulted then p.shortfallTime else 0
      shortfallStanding := p.faulted && p.shortfallStanding } := by
  unfold FanPath.nozzled FanPath.addZero FanPath.fault
  rw [hn]
  cases p
  case mk _ _ _ _ _ faulted _ _ _ _ _ _ _ _ _ _ _ _ =>
    cases z <;> cases faulted <;> simp

theorem FanPath.spinTimes_eq (p : FanPath) : p.spinTimes = { p with
    spinupTime := if p.state = .spinup then min (p.spinupTime + 1) 15 else p.spinupTime
    retryTime := if p.state = .stalled then p.retryTime - 1 else p.retryTime } := by
  unfold FanPath.spinTimes
  cases p
  case mk state _ _ _ _ _ _ _ _ _ _ _ _ _ _ _ _ _ => cases state <;> simp [bump, Config.spinupSeconds]

theorem FanPath.loop_eq (p : FanPath) (g m : Nat) : p.loop g m = { p with duty := (p.loop g m).duty, state := (p.loop g m).state } := by
  unfold FanPath.loop
  split <;> rfl

theorem FanPath.goodSecond_eq (p : FanPath) (k : Nat) : p.goodSecond k = { p with
    goodTime := if p.goodTiming = true ∧ p.state.stallChecked = true then (if k ≤ p.speed then min (p.goodTime + 1) 10 else 0)
      else p.goodTime } := by
  unfold FanPath.goodSecond
  by_cases h : p.goodTiming = true ∧ p.state.stallChecked = true
  · rw [if_pos h, if_pos (by simpa using h)]
    rfl
  · rw [if_neg h, if_neg (by simpa using h)]

theorem FanPath.conditionTimes_eq (p : FanPath) (k : Nat) (stalling short : Bool) : p.conditionTimes k stalling short = { p with
    stallTime := if p.stallCond k = true then (if stalling then min (p.stallTime + 1) 10 else p.stallTime) else 0
    shortfallTime := if p.shortCond = true then
      (if short = true ∧ p.shortfallStanding = false then min (p.shortfallTime + 1) 60 else p.shortfallTime) else 0
    shortfallStanding := p.shortCond && p.shortfallStanding } := by
  have stalls : (if p.stallCond k then (if stalling then { p with stallTime := bump p.stallTime Config.stallSeconds } else p)
      else { p with stallTime := 0 }) = { p with
        stallTime := if p.stallCond k = true then (if stalling then min (p.stallTime + 1) 10 else p.stallTime) else 0 } := by
    split
    · split <;> rfl
    · rfl
  unfold FanPath.conditionTimes
  rw [stalls]
  generalize (if p.stallCond k = true then (if stalling = true then min (p.stallTime + 1) 10 else p.stallTime) else 0) = x
  have same : ({ p with stallTime := x } : FanPath).shortCond = p.shortCond := rfl
  dsimp only
  rw [same]
  cases p.shortCond
  · rfl
  · rw [if_pos rfl, if_pos rfl, Bool.true_and]
    by_cases h : short = true ∧ p.shortfallStanding = false
    · rw [if_pos h, if_pos (by simpa using h)]
      rfl
    · rw [if_neg h, if_neg (by simpa using h)]

theorem FanPath.loop_times (p : FanPath) (g m x y : Nat) :
    ({ p with spinupTime := x, retryTime := y } : FanPath).loop g m = { p.loop g m with spinupTime := x, retryTime := y } := by
  unfold FanPath.loop
  dsimp only
  split <;> rfl

/-- A path after the update of a second, by the fan loop, the counts and the conditions (R33, R34, R38, R39, R42). -/
theorem FanPath.second_eq (p old : FanPath) (g m k : Nat) : ∃ a b c, p.second old g m k = { p with
      duty := (p.loop g m).duty, state := (p.loop g m).state
      spinupTime := if p.state = .spinup then min (p.spinupTime + 1) 15 else p.spinupTime
      retryTime := if p.state = .stalled then p.retryTime - 1 else p.retryTime
      goodTime := if p.goodTiming = true ∧ (p.loop g m).state.stallChecked = true then
        (if k ≤ p.speed then min (p.goodTime + 1) 10 else 0) else p.goodTime
      stallTime := a, shortfallTime := b, shortfallStanding := c }
    ∧ a = (if (p.second old g m k).stallCond k = true then (if old.stallCond k = true then min (p.stallTime + 1) 10 else p.stallTime)
      else 0)
    ∧ b = (if (p.second old g m k).shortCond = true then
      (if old.shortCond = true ∧ p.shortfallStanding = false then min (p.shortfallTime + 1) 60 else p.shortfallTime) else 0)
    ∧ c = ((p.second old g m k).shortCond && p.shortfallStanding) := by
  unfold FanPath.second
  rw [FanPath.spinTimes_eq, FanPath.loop_times, FanPath.loop_eq p g m, FanPath.goodSecond_eq, FanPath.conditionTimes_eq]
  exact ⟨_, _, _, rfl, rfl, rfl, rfl⟩

section Path

variable {n : Reading} {w : Nat}

theorem FanPath.nozzled_kept (p : FanPath) (z : Bool) (n : Reading) : (p.nozzled z n).raw = n
    ∧ (p.nozzled z n).zeroOffset = p.zeroOffset ∧ (p.nozzled z n).retryCount = p.retryCount
    ∧ (p.nozzled z n).target = p.target ∧ (p.nozzled z n).duty = p.duty ∧ (p.nozzled z n).spinupTime = p.spinupTime
    ∧ (p.nozzled z n).retryTime = p.retryTime ∧ (p.nozzled z n).goodTime = p.goodTime
    ∧ (p.nozzled z n).goodTiming = p.goodTiming ∧ (p.nozzled z n).stallTime = p.stallTime := by
  cases h : readingValid (-50) 550 n with
  | false =>
    rw [FanPath.nozzled_invalid h]
    exact ⟨rfl, rfl, rfl, rfl, rfl, rfl, rfl, rfl, rfl, rfl⟩
  | true =>
    cases n with
    | incomplete => cases h
    | value v =>
      obtain ⟨h1, h2⟩ : -50 ≤ v ∧ v ≤ 550 := by simpa [readingValid] using h
      rw [FanPath.nozzled_valid rfl h1 h2]
      exact ⟨rfl, rfl, rfl, rfl, rfl, rfl, rfl, rfl, rfl, rfl⟩

/-- The reading and the update of a second leave a path with its readings and its next step of the fan loop. -/
theorem State.secondPath_eq (s : State) (r : SecondReadings) (i : PathId) : (s.sensedPath i (nozzleReading r i) (pulseCount r i)).SameSensor
      (s.secondPath r i)
    ∧ (s.secondPath r i).target = (s.afc.path i).target
    ∧ (s.secondPath r i).duty = ((s.sensedPath i (nozzleReading r i) (pulseCount r i)).loop (s.setting 20) (s.setting 21)).duty
    ∧ (s.secondPath r i).state = ((s.sensedPath i (nozzleReading r i) (pulseCount r i)).loop (s.setting 20) (s.setting 21)).state := by
  obtain ⟨a, b, c, eq, -⟩ := (s.sensedPath i (nozzleReading r i) (pulseCount r i)).second_eq (s.afc.path i) (s.setting 20) (s.setting 21)
    (s.setting 23)
  have target : (s.sensedPath i (nozzleReading r i) (pulseCount r i)).target = (s.afc.path i).target :=
    ((s.afc.path i).nozzled_kept s.osc.zeroReading (nozzleReading r i)).2.2.2.1
  unfold State.secondPath
  rw [eq]
  exact ⟨⟨rfl, rfl, rfl, rfl, rfl, rfl, rfl, rfl⟩, target, rfl, rfl⟩

/-- What a path shows of its sensors after a second (R24 to R27). -/
theorem State.sensedPath_shows (s : State) (i : PathId) (n : Reading) (w : Nat) : (s.sensedPath i n w).raw = n
    ∧ (s.sensedPath i n w).speed = min 9999 (w * 60 / s.inUse 24)
    ∧ (s.sensedPath i n w).zeroOffset = (s.afc.path i).zeroOffset ∧ (s.sensedPath i n w).retryCount = (s.afc.path i).retryCount
    ∧ (s.osc.device.zeroing = true → (s.sensedPath i n w).flow = some 0) := by
  obtain ⟨raw, offset, count, -⟩ := (s.afc.path i).nozzled_kept s.osc.zeroReading n
  exact ⟨raw, rfl, offset, count, fun h => if_pos h⟩

theorem State.sensedPath_valid (w : Nat) {v : Int} (hn : n = .value v) (h1 : -50 ≤ v) (h2 : v ≤ 550) : (s.sensedPath i n w).faulted = false
    ∧ (s.osc.device.zeroing = false → (s.sensedPath i n w).flow
      = some (measuredFlow (s.setting (18 + pathCode i)) (v - (s.afc.path i).zeroOffset).toNat))
    ∧ (s.sensedPath i n w).zeroFault = (s.afc.path i).zeroFault
    ∧ (s.sensedPath i n w).zeroSum = (s.afc.path i).zeroSum + (if s.osc.zeroReading then v else 0)
    ∧ (s.sensedPath i n w).duty = (s.afc.path i).duty
    ∧ ((s.afc.path i).state.regulates = true → (s.sensedPath i n w).state = (s.afc.path i).state) := by
  unfold State.sensedPath
  rw [FanPath.nozzled_valid hn h1 h2]
  refine ⟨rfl, fun h => ?_, rfl, rfl, rfl, fun h => if_neg fun hold => ?_⟩
  · refine (if_neg (by rw [h]; exact Bool.false_ne_true)).trans ((if_neg Bool.false_ne_true).trans ?_)
    rw [hn]
    rfl
  · rw [hold.2] at h
    cases h

theorem State.sensedPath_invalid (w : Nat) (hn : readingValid (-50) 550 n = false) : (s.sensedPath i n w).faulted = true
    ∧ (s.osc.device.zeroing = false → (s.sensedPath i n w).flow = none)
    ∧ (s.sensedPath i n w).zeroSum = (s.afc.path i).zeroSum
    ∧ (s.sensedPath i n w).zeroFault = ((s.afc.path i).zeroFault || s.osc.zeroReading)
    ∧ ((s.afc.path i).faulted = false → (s.sensedPath i n w).state.regulates = false) := by
  unfold State.sensedPath
  rw [FanPath.nozzled_invalid hn]
  refine ⟨rfl, fun h => ?_, rfl, rfl, fun h => ?_⟩
  · exact (if_neg (by rw [h]; exact Bool.false_ne_true)).trans (if_pos rfl)
  · change (if (s.afc.path i).faulted = false ∧ (s.afc.path i).state.regulates = true then PathState.hold
      else (s.afc.path i).state).regulates = false
    split
    · rfl
    · next hs => exact Bool.eq_false_iff.mpr fun on => hs ⟨h, on⟩

/-- One step of the fan loop (R34). -/
theorem FanPath.loop_steps {q goal : Nat} (hp : p.state.regulates = true) (hq : p.flow = some q) (ht : p.target = some goal) (g m : Nat) :
    ((p.loop g m).duty : Int) = clampI (p.duty + clampI ((((goal : Int) - q) * g).tdiv 100) (-50) 50) m 1000
      ∧ ((p.loop g m).state = .saturated ↔ (p.loop g m).duty = 1000 ∧ q < goal) ∧ (p.loop g m).state ≠ .manual := by
  have whole : 0 ≤ clampI ((p.duty : Int) + loopStep goal q g) m 1000 := by
    unfold clampI
    split
    · omega
    · split <;> omega
  unfold FanPath.loop
  rw [hp, hq, ht]
  dsimp only
  refine ⟨Int.toNat_of_nonneg whole, ?_, ?_⟩ <;> split <;> simp [*]

theorem FanPath.loop_still (hp : p.state.regulates = false) (g m : Nat) : p.loop g m = p := by
  unfold FanPath.loop
  rw [hp]

/-! ### Services without MANUAL -/

/-- Without MANUAL no service sets a path regulating that does not. -/
theorem FanPath.serve_unmanned {v : Serve} (hv : v.manual = none) {d : Nat} {x : PathState}
    (h : p.state ≠ .manual ∧ (p.state.regulates = true → p.duty = d ∧ p.state = x)) :
    (p.serve v).state ≠ .manual ∧ ((p.serve v).state.regulates = true → (p.serve v).duty = d ∧ (p.serve v).state = x) := by
  obtain ⟨unmanned, step⟩ := h
  rw [FanPath.serve_target hv]
  simp only [FanPath.lapse_state, FanPath.lapse_duty]
  unfold FanPath.serveTarget FanPath.toOff FanPath.toSpinup
  cases e : p.state <;> simp only
  case manual => exact absurd e unmanned
  case off => split <;> simp [PathState.regulates]
  case spinup | stalled => split <;> simp [PathState.regulates]
  case regulating | saturated =>
    split
    · simp [PathState.regulates]
    · exact ⟨by simp, fun h => by simpa [e] using step (by rw [e]; rfl)⟩
  case hold =>
    split
    · simp [PathState.regulates]
    · split
      · split <;> simp [PathState.regulates]
      · simp [PathState.regulates]
  case failed => simp [PathState.regulates]

theorem State.propagate_unmanned {P : FanPath → Prop} (hP : ∀ p v, v.manual = none → P p → P (p.serve v))
    (hm : s.arb.table.manual = none) (h : P (s.afc.path i)) :
    s.propagate.arb.table.manual = none ∧ P (s.propagate.afc.path i) := by
  have free (t u : State) (settled : SettledFrom [] t u) (ht : t.arb.table.manual = none) : u.arb.table.manual = none := by
    have kept := settled.slots .manual (by simp) (by decide) (by decide)
    exact kept.none_iff.mpr ht
  have staged (t : State) (ht : t.arb.table.manual = none ∧ P (t.afc.path i)) :
      t.stagedRound.arb.table.manual = none ∧ P (t.stagedRound.afc.path i) := by
    refine ⟨free t _ (.stagedRound t) ht.1, ?_⟩
    rw [State.stagedRound, State.deriveStage_afc, State.round_afc]
    have same : t.forceRequest.arb = t.arb := by
      unfold State.forceRequest
      split <;> rfl
    have before := ht.2
    rw [← t.forceRequest_afc] at before
    have unmanned := ht.1
    rw [← same] at unmanned
    generalize t.forceRequest = u at *
    have served (x : State) (hx : x.arb = u.arb) (j : PathId) : (x.serveArgs j).manual = none := by
      rw [State.serveArgs_manual, State.manualDuties, hx, unmanned]
      split
      · rfl
      · split
        · next e => cases e
        · rfl
    cases i with
    | extract =>
      rw [Afc.path, State.serveFans_extract]
      exact hP _ _ (served u rfl _) before
    | supply =>
      rw [Afc.path, State.serveFans_supply]
      refine hP _ _ (served (u.servePath .extract) ?_ _) before
      rw [State.servePath, State.movePath_arb]
  have start : s.deriveStage.arb.table.manual = none ∧ P (s.deriveStage.afc.path i) :=
    ⟨free s _ (.deriveStage s) hm, by rwa [State.deriveStage_afc]⟩
  unfold State.propagate
  generalize s.deriveStage = a at *
  have first := staged a start
  generalize a.stagedRound = b at *
  have second := staged b first
  generalize b.stagedRound = c at *
  have third := staged c second
  generalize c.stagedRound = d at *
  exact staged d third

/-- A path of a faulted sensor that does not regulate is not set regulating. -/
theorem FanPath.serve_blind {v : Serve} (h : p.faulted = true ∧ p.state.regulates = false) :
    (p.serve v).faulted = true ∧ (p.serve v).state.regulates = false := by
  obtain ⟨faulted, still⟩ := h
  refine ⟨by rw [(FanPath.SameSensor.serve p v).2.2.1, faulted], ?_⟩
  cases hm : v.manual with
  | some d =>
    rw [FanPath.serve_manual hm, FanPath.lapse_state]
    unfold FanPath.serveManual FanPath.toOff FanPath.toSpinup
    cases e : p.state <;> simp only
    case off => split <;> [skip; split] <;> simp [PathState.regulates]
    case spinup | stalled => split <;> simp [PathState.regulates]
    case failed => simp [PathState.regulates]
    all_goals rfl
  | none =>
    rw [FanPath.serve_target hm, FanPath.lapse_state]
    unfold FanPath.serveTarget FanPath.toOff FanPath.toSpinup
    cases e : p.state <;> simp only
    case regulating | saturated => simp [PathState.regulates, e] at still
    case off | spinup | stalled => split <;> simp [PathState.regulates]
    case hold =>
      split
      · rfl
      · split
        · split <;> simp [PathState.regulates]
        · simp [PathState.regulates]
    case manual =>
      split
      · rfl
      · split
        · simp [PathState.regulates]
        · rfl
    case failed => simp [PathState.regulates]

/-! ### The end of the second -/

theorem Arb.countRun_carries (a : Arb) (x : Slot) : (a.countRun.table.get x).map Demand.carry = (a.table.get x).map Demand.carry := by
  unfold Arb.countRun
  split
  · rfl
  · next y _ =>
    split
    · rfl
    · next d hd =>
      split
      · rfl
      · split
        · rfl
        · by_cases hx : x = y
          · rw [hx, DemandTable.get_put_same, hd]
            rfl
          · rw [DemandTable.get_put_ne _ hx]

theorem State.countSecond_carries (s : State) (x : Slot) :
    (s.countSecond.arb.table.get x).map Demand.carry = (s.arb.table.get x).map Demand.carry := by
  obtain ⟨-, -, -, -, -, -, -, -, arb⟩ := s.countSecond_frame
  rw [arb]
  split
  · exact s.arb.countRun_carries x
  · rfl

theorem State.Passes.regulatePath (s : State) (i : PathId) (p : FanPath) : s.Passes (s.regulatePath i p) := .movePath s i _

theorem State.Passes.airRead (s : State) (r : SecondReadings) : s.Passes (s.airRead r) :=
  (((State.Passes.sensePath s _ _ _).trans (.sensePath _ _ _ _)).trans (.regulatePath _ _ _)).trans (.regulatePath _ _ _)

/-- What the paths' part of a second has set, stays to its end. -/
theorem State.second_keeps (h : u.Passes (s.countSecond.airRead r)) (ht : t = (s.secondRead r).boostSecond.deriveHumidity.propagate) :
    (∀ g, u.sup.flags.get g = true → t.sup.flags.get g = true) ∧ (u.sup.capture ≠ none → t.sup.capture = u.sup.capture) := by
  have passes : u.Passes (s.secondRead r) :=
    ((h.trans (.propagate _)).trans (.readSecond _ r)).trans (.countRecords _)
  generalize s.secondRead r = d at *
  obtain ⟨-, -, -, -, -, -, -, sup, stay⟩ := d.boosted_frame
  have last := SettledFrom.propagate d.boostSecond.deriveHumidity
  rw [← ht] at last
  have capture : d.boostSecond.deriveHumidity.sup.capture = d.sup.capture := by rw [sup]
  generalize d.boostSecond.deriveHumidity = e at *
  refine ⟨fun g hg => last.flagsStay g (stay g (passes.stays g hg)), fun hc => ?_⟩
  have held := passes.capture hc
  have here : e.sup.capture = u.sup.capture := capture.trans held
  exact (last.capture (by rw [here]; exact hc)).trans here

/-- A nozzle sensor that reads a fault at last (R24). -/
theorem State.readNozzle_faults (s : State) (i : PathId) (hn : readingValid (-50) 550 n = false) (hf : (s.afc.path i).faulted = false) :
    (s.readNozzle i n).sup.flags.get .pressureFault = true ∧ (s.sup.capture = none → (s.readNozzle i n).sup.capture
      = some (.fault .pressureFault (pathCode i) (clampI (readingCode n) (-32768) 32767) s.osc.uptime)) := by
  have kept : (if s.osc.zeroReading then (s.afc.path i).addZero n else s.afc.path i).faulted = false := by
    unfold FanPath.addZero
    split
    · split <;> exact hf
    · exact hf
  have taken := s.faultEvent_taken .pressureFault (pathCode i) (readingCode n)
  unfold State.readNozzle
  dsimp only
  generalize (if s.osc.zeroReading = true then (s.afc.path i).addZero n else s.afc.path i) = q at *
  rw [if_neg (by rw [hn]; exact Bool.false_ne_true), if_neg (by rw [kept]; exact Bool.false_ne_true)]
  have flag : (s.faultEvent .pressureFault (pathCode i) (readingCode n)).sup.flags.get .pressureFault = true := by
    rw [taken.flags _ (by decide)]
    rfl
  generalize s.faultEvent .pressureFault (pathCode i) (readingCode n) = v at *
  have moved (x : FanPath) : v.Passes (v.movePath i x) := .movePath v i x
  refine ⟨(moved _).stays _ flag, fun hc => ?_⟩
  have armed := (taken.armed hc).1
  exact ((moved _).capture (by rw [armed]; exact Option.some_ne_none _)).trans armed

/-- A path's nozzle sensor that reads a fault at last, at the end of the second (R24). -/
theorem State.second_nozzleFault (hn : readingValid (-50) 550 (nozzleReading r i) = false) (hf : (s.afc.path i).faulted = false)
    (ht : t = (s.secondRead r).boostSecond.deriveHumidity.propagate) : t.sup.flags.get .pressureFault = true
      ∧ (i = .supply → s.sup.capture = none → t.sup.capture
        = some (.fault .pressureFault 0 (clampI (readingCode (nozzleReading r .supply)) (-32768) 32767) (s.osc.uptime + 1))) := by
  obtain ⟨-, osc, afc, -, -, -, sup, -⟩ := s.countSecond_frame
  have keeps (u : State) (h : u.Passes (s.countSecond.airRead r)) := State.second_keeps h ht
  generalize s.countSecond = c at *
  rw [← afc] at hf
  cases i with
  | supply =>
    obtain ⟨flag, capture⟩ := c.readNozzle_faults .supply hn hf
    have rest : (c.readNozzle .supply r.supplyNozzle).Passes (c.airRead r) :=
      (((State.Passes.movePath _ _ _).trans (.sensePath _ _ _ _)).trans (.regulatePath _ _ _)).trans (.regulatePath _ _ _)
    obtain ⟨stays, holds⟩ := keeps _ rest
    refine ⟨stays _ flag, fun _ hc => ?_⟩
    have taken := capture (by rw [sup]; exact hc)
    have now : c.osc.uptime = s.osc.uptime + 1 := by rw [osc]; rfl
    rw [now] at taken
    exact (holds fun h => Option.some_ne_none _ (taken.symm.trans h)).trans taken
  | extract =>
    have other : (c.sensePath .supply r.supplyNozzle r.supplyPulses).afc.path .extract = c.afc.path .extract := by
      rw [(c.sensePath_afc .supply _ _).1]
      rfl
    rw [← other] at hf
    have rest : ((c.sensePath .supply r.supplyNozzle r.supplyPulses).readNozzle .extract r.extractNozzle).Passes (c.airRead r) :=
      ((State.Passes.movePath _ _ _).trans (.regulatePath _ _ _)).trans (.regulatePath _ _ _)
    obtain ⟨flag, -⟩ := (c.sensePath .supply r.supplyNozzle r.supplyPulses).readNozzle_faults .extract hn hf
    exact ⟨(keeps _ rest).1 _ flag, nofun⟩

theorem FanPath.SameSensor.trans {p q x : FanPath} (h : p.SameSensor q) (g : q.SameSensor x) : p.SameSensor x := by
  obtain ⟨h1, h2, h3, h4, h5, h6, h7, h8⟩ := h
  obtain ⟨g1, g2, g3, g4, g5, g6, g7, g8⟩ := g
  exact ⟨g1.trans h1, g2.trans h2, g3.trans h3, g4.trans h4, g5.trans h5, g6.trans h6, g7.trans h7, g8.trans h8⟩

/-- What a second leaves of a path as its readings and its update have set it. -/
theorem State.second_path (ht : t = (s.secondRead r).boostSecond.deriveHumidity.propagate) {q : FanPath}
    (hq : q = s.countSecond.secondPath r i) : q.SameSensor (t.afc.path i)
    ∧ (s.arb.table.manual = none → q.state ≠ .manual → (t.afc.path i).state.regulates = true →
      (t.afc.path i).duty = q.duty ∧ (t.afc.path i).state = q.state)
    ∧ (q.faulted = true → q.state.regulates = false → (t.afc.path i).state.regulates = false) := by
  have path := s.countSecond.airRead_path r i
  have manual := s.countSecond_carries .manual
  have passes := State.Passes.airRead s.countSecond r
  rw [← hq] at path
  have follows {Q : State → Prop} (keep : ∀ u w : State, w.afc = u.afc → (u.arb.table.manual = none → w.arb.table.manual = none) → Q u → Q w)
      (follow : ∀ u : State, Q u → Q u.propagate) (h : Q (s.countSecond.airRead r)) : Q t :=
    ht ▸ State.second_follows keep follow h
  generalize s.countSecond.airRead r = a at *
  refine ⟨?_, fun hm hs => ?_, fun hf hs => ?_⟩
  · refine follows (Q := fun u => q.SameSensor (u.afc.path i)) (fun u w hw _ hu => hw ▸ hu) (fun u hu => ?_)
      (path ▸ ⟨rfl, rfl, rfl, rfl, rfl, rfl, rfl, rfl⟩)
    exact State.propagate_path (fun p v hp => FanPath.SameSensor.trans hp (.serve p v)) hu
  · have free : a.arb.table.manual = none := by
      have none' : s.countSecond.arb.table.manual = none := by
        have held : s.arb.table.get .manual = none := hm
        rw [held] at manual
        exact Option.map_eq_none_iff.mp manual
      have kept := passes.settled.slots .manual (by simp) (by decide) (by decide)
      exact kept.none_iff.mpr none'
    refine (follows (Q := fun u => u.arb.table.manual = none ∧ ((u.afc.path i).state ≠ .manual
      ∧ ((u.afc.path i).state.regulates = true → (u.afc.path i).duty = q.duty ∧ (u.afc.path i).state = q.state)))
      (fun u w hw hn hu => ⟨hn hu.1, hw ▸ hu.2⟩) (fun u hu => ?_) ⟨free, by rw [path]; exact ⟨hs, fun _ => ⟨rfl, rfl⟩⟩⟩).2.2
    exact State.propagate_unmanned (P := fun p => p.state ≠ .manual ∧ (p.state.regulates = true → p.duty = q.duty ∧ p.state = q.state))
      (fun p v hv hp => FanPath.serve_unmanned hv hp) hu.1 hu.2
  · refine (follows (Q := fun u => (u.afc.path i).faulted = true ∧ (u.afc.path i).state.regulates = false)
      (fun u w hw _ hu => hw ▸ hu) (fun u hu => ?_) (path ▸ ⟨hf, hs⟩)).2
    exact State.propagate_path (P := fun p => p.faulted = true ∧ p.state.regulates = false) (fun p v hp => FanPath.serve_blind hp) hu

end Path

end Airflow

end Sys2Proof.Machine

end

section
/-! The times of a path that goes on through a second. -/

open Sys2Proof Sys2Proof.Machine

namespace Sys2Proof.Machine

section Steady

variable {s t u : State} {r : SecondReadings} {i : PathId} {p q : FanPath} {v w : Serve}

/-! ### What the paths are asked to serve -/

/-- From `s` to `t` the device, the demands, the settings and the frost guard ask the same of the paths, beside a heater at rest. -/
structure State.SameAims (s t : State) : Prop where
  device : t.osc.device = s.osc.device
  working : t.osc.working = s.osc.working
  active : t.arb.active = s.arb.active
  carries : ∀ x, (t.arb.table.get x).map Demand.carry = (s.arb.table.get x).map Demand.carry
  imbalance : t.frg.imbalance = s.frg.imbalance
  heater : s.atRest → t.atRest
  runOn : t.frg.runOn = s.frg.runOn

theorem State.SameAims.refl (s : State) : s.SameAims s := ⟨rfl, rfl, rfl, fun _ => rfl, rfl, id, rfl⟩

theorem State.SameAims.trans (h : s.SameAims t) (g : t.SameAims u) : s.SameAims u :=
  ⟨g.device.trans h.device, g.working.trans h.working, g.active.trans h.active, fun x => (g.carries x).trans (h.carries x),
    g.imbalance.trans h.imbalance, g.heater ∘ h.heater, g.runOn.trans h.runOn⟩

theorem State.Rests.sameAims (h : s.Rests t) : s.SameAims t := by
  obtain ⟨-, osc, arb, -, -, frg, -⟩ := id h
  refine ⟨by rw [osc], by rw [osc], by rw [arb], fun x => by rw [arb], ?_, h.atRest, ?_⟩
  · rw [h.frg]
  · rw [h.frg]

theorem State.SameAims.setting (h : s.SameAims t) (n : Nat) : t.setting n = s.setting n := by
  rw [State.setting, State.setting, h.working]

theorem Demand.flows_congr {d e : Demand} (h : d.carry = e.carry) (n : Nat) : d.flows n = e.flows n := by
  unfold Demand.flows
  rw [h]

/-- The active demand asks for the same flows. -/
theorem State.SameAims.flows (h : s.SameAims t) : t.arb.activeDemand.map (·.flows (t.setting 1))
    = s.arb.activeDemand.map (·.flows (s.setting 1)) := by
  unfold Arb.activeDemand
  rw [h.active]
  cases s.arb.active with
  | none => rfl
  | some x =>
    have same := h.carries x
    dsimp only
    cases hs : s.arb.table.get x with
    | none =>
      rw [hs] at same
      rw [Option.map_eq_none_iff.mp same]
      rfl
    | some d =>
      rw [hs] at same
      obtain ⟨e, he, carry⟩ := Option.map_eq_some_iff.mp same
      rw [he, h.setting]
      exact congrArg some (Demand.flows_congr carry _)

theorem State.resolve_eq (s : State) : s.resolve = if s.osc.device.fansStopped = true then (some 0, some 0) else
    if s.arb.active = some .manual then (none, none) else
    ((s.arb.activeDemand.map (·.flows (s.setting 1))).join.elim (some 0, some 0) fun f =>
      if s.arb.active = some .fire then (some f.1, some f.2)
      else (some (s.resolveDemand f.1 f.2).1, some (s.resolveDemand f.1 f.2).2)) := by
  unfold State.resolve
  split
  · rfl
  · cases ha : s.arb.active with
    | none =>
      have idle : s.arb.activeDemand = none := by rw [Arb.activeDemand, ha]
      rw [if_neg nofun, idle]
      rfl
    | some x =>
      by_cases hx : x = .manual
      · rw [hx, if_pos rfl]
      · rw [if_neg fun h => hx (Option.some.inj h)]
        cases s.arb.activeDemand with
        | none =>
          cases x with
          | manual => exact absurd rfl hx
          | _ => rfl
        | some d =>
          cases hf : d.flows (s.setting 1) with
          | none =>
            simp only [Option.map_some, hf, Option.join]
            cases x with
            | manual => exact absurd rfl hx
            | _ => rfl
          | some f =>
            simp only [Option.map_some, hf, Option.join]
            cases x with
            | manual => exact absurd rfl hx
            | _ => rfl

theorem State.activeExtract_eq (s : State) : s.activeExtract
    = (s.arb.activeDemand.map (·.flows (s.setting 1))).join.elim 0 Prod.snd := by
  unfold State.activeExtract
  cases s.arb.activeDemand with
  | none => rfl
  | some d =>
    dsimp only
    cases h : d.flows (s.setting 1) <;> simp [h]

theorem State.SameAims.resolve (h : s.SameAims t) (loss : t.extractLoss = s.extractLoss) : t.resolve = s.resolve := by
  have demand (a b : Nat) : t.resolveDemand a b = s.resolveDemand a b := by
    have cap : t.capC = s.capC := by
      rw [State.capC, State.capC, State.capInForce, State.capInForce, h.imbalance, State.activeExtract_eq, State.activeExtract_eq,
        h.flows, h.setting]
    rw [State.resolveDemand, State.resolveDemand, cap, loss, h.runOn, h.setting, h.setting]
  rw [State.resolve_eq, State.resolve_eq, h.device, h.active, h.flows]
  simp only [demand]

theorem State.SameAims.manualDuties (h : s.SameAims t) : t.manualDuties = s.manualDuties := by
  have same := h.carries .manual
  unfold State.manualDuties
  rw [h.device, h.active]
  change t.arb.table.manual.map Demand.carry = s.arb.table.manual.map Demand.carry at same
  split
  · rfl
  · cases hs : s.arb.table.manual with
    | none =>
      rw [hs] at same
      rw [Option.map_eq_none_iff.mp same]
    | some d =>
      rw [hs] at same
      obtain ⟨e, he, carry⟩ := Option.map_eq_some_iff.mp same
      rw [he]
      cases s.arb.active with
      | none => rfl
      | some x =>
        cases x with
        | manual => dsimp only; rw [carry]
        | _ => rfl

/-- Two services that ask the same, but where MANUAL has become active, which bears on a path in OFF alone. -/
structure Serve.Alike (v w : Serve) : Prop where
  target : w.target = v.target
  manual : w.manual = v.manual
  startDuty : w.startDuty = v.startDuty
  minDuty : w.minDuty = v.minDuty
  stallSpeed : w.stallSpeed = v.stallSpeed

theorem FanPath.serve_alike (h : v.Alike w) (hp : p.state ≠ .off) : p.serve w = p.serve v := by
  obtain ⟨target, manual, start, least, stall⟩ := h
  unfold FanPath.serve FanPath.serveManual FanPath.serveTarget
  rw [target, manual, start, least, stall]
  cases e : p.state
  case off => exact absurd e hp
  all_goals rfl

theorem State.SameAims.serveArgs (h : s.SameAims t) (loss : t.extractLoss = s.extractLoss) (i : PathId) :
    (s.serveArgs i).Alike (t.serveArgs i) := by
  have resolve := h.resolve loss
  have duties := h.manualDuties
  refine ⟨?_, ?_, h.setting _, h.setting _, h.setting _⟩
  · cases i
    · exact congrArg Prod.fst resolve
    · exact congrArg Prod.snd resolve
  · unfold State.serveArgs
    dsimp only
    rw [duties]

/-! ### Paths that serve what they are asked to -/

theorem FanPath.lapse_sets (p : FanPath) (k : Nat) : p.lapse k = { p with
      stallTime := if p.stallCond k = true then p.stallTime else 0
      shortfallTime := if p.shortCond = true then p.shortfallTime else 0
      shortfallStanding := p.shortCond && p.shortfallStanding } := by
  have stalls : (if p.stallCond k then p else { p with stallTime := 0 })
      = { p with stallTime := if p.stallCond k = true then p.stallTime else 0 } := by split <;> rfl
  unfold FanPath.lapse
  rw [stalls]
  generalize (if p.stallCond k = true then p.stallTime else 0) = x
  have same : ({ p with stallTime := x } : FanPath).shortCond = p.shortCond := rfl
  dsimp only
  rw [same]
  cases p.shortCond <;> rfl

/-- A path has nothing to lapse. -/
theorem FanPath.lapse_fixed_iff (p : FanPath) (k : Nat) : p.lapse k = p
    ↔ (p.stallCond k = false → p.stallTime = 0) ∧ (p.shortCond = false → p.shortfallTime = 0 ∧ p.shortfallStanding = false) := by
  rw [FanPath.lapse_sets]
  refine ⟨fun h => ?_, fun ⟨h1, h2⟩ => ?_⟩
  · have stall := congrArg FanPath.stallTime h
    have short := congrArg FanPath.shortfallTime h
    have standing := congrArg FanPath.shortfallStanding h
    dsimp only at stall short standing
    refine ⟨fun hc => ?_, fun hc => ?_⟩
    · rw [← stall, hc]
      rfl
    · rw [← short, ← standing, hc]
      exact ⟨rfl, rfl⟩
  · have stall : (if p.stallCond k = true then p.stallTime else 0) = p.stallTime := by
      cases hc : p.stallCond k
      · exact (h1 hc).symm
      · rfl
    have short : (if p.shortCond = true then p.shortfallTime else 0) = p.shortfallTime := by
      cases hc : p.shortCond
      · exact (h2 hc).1.symm
      · rfl
    have standing : (p.shortCond && p.shortfallStanding) = p.shortfallStanding := by
      cases hc : p.shortCond
      · exact (h2 hc).2.symm
      · rfl
    rw [stall, short, standing]

theorem FanPath.lapse_lapse (p : FanPath) (k : Nat) : (p.lapse k).lapse k = p.lapse k := by
  have stall : (p.lapse k).stallCond k = p.stallCond k := by rw [FanPath.lapse_sets]; rfl
  have short : (p.lapse k).shortCond = p.shortCond := by rw [FanPath.lapse_sets]; rfl
  rw [FanPath.lapse_fixed_iff, stall, short, FanPath.lapse_sets]
  exact ⟨fun h => by rw [h]; rfl, fun h => by rw [h]; exact ⟨rfl, rfl⟩⟩

/-- A driven path that serves what it is asked to (R31 to R36). -/
theorem FanPath.serve_fixed_iff (hd : 0 < v.manual.getD (v.target.getD 0)) : p.serve v = p ↔ p.target = v.target
    ∧ p.lapse v.stallSpeed = p ∧ p.state ≠ .off ∧ (v.manual = none → p.state ≠ .manual)
    ∧ (∀ d, v.manual = some d → p.state ≠ .regulating ∧ p.state ≠ .saturated ∧ p.state ≠ .hold ∧ (p.state = .manual → p.duty = d)) := by
  have lapsed (h : p.serve v = p) : p.lapse v.stallSpeed = p := by
    obtain ⟨q, hq⟩ : ∃ q : FanPath, p.serve v = q.lapse v.stallSpeed := ⟨_, rfl⟩
    rw [← h, hq, FanPath.lapse_lapse]
  have targets (h : p.serve v = p) : p.target = v.target := by
    rw [← p.serve_targets v, h]
  cases hm : v.manual with
  | none =>
    obtain ⟨goal, ht, hg⟩ : ∃ goal, v.target = some goal ∧ 0 < goal := by
      rw [hm] at hd
      cases ht : v.target with
      | none => simp [ht] at hd
      | some goal => exact ⟨goal, rfl, by simpa [ht] using hd⟩
    refine ⟨fun h => ⟨targets h, lapsed h, fun off => ?_, fun _ manual => ?_, nofun⟩, fun ⟨h1, h2, h3, h4, _⟩ => ?_⟩
    · have starts := (FanPath.serve_starts hm ht hg off).1
      rw [h, off] at starts
      cases starts
    · have left : (p.serve v).state ≠ .manual := by
        rw [FanPath.serve_target hm, FanPath.lapse_state]
        unfold FanPath.serveTarget FanPath.toOff FanPath.toSpinup
        rw [manual]
        dsimp only
        split
        · exact nofun
        · split
          · split <;> exact nofun
          · exact nofun
      exact left (by rw [h]; exact manual)
    · have same : ({ p with target := v.target } : FanPath) = p := by rw [← h1]
      have goes : p.serveTarget v p.target goal = p := by
        unfold FanPath.serveTarget
        cases e : p.state with
        | off => exact absurd e h3
        | manual => exact absurd e (h4 rfl)
        | hold => simp [hg.ne', h1, ht]
        | _ => simp [hg.ne']
      rw [FanPath.serve_target hm, same, ht, Option.getD_some, goes]
      exact h2
  | some d =>
    have pos : 0 < d := by simpa [hm] using hd
    refine ⟨fun h => ⟨targets h, lapsed h, fun off => ?_, nofun, fun d' hd' => ?_⟩, fun ⟨h1, h2, h3, _, h5⟩ => ?_⟩
    · have left : (p.serve v).state ≠ .off := by
        rw [FanPath.serve_manual hm, FanPath.lapse_state]
        unfold FanPath.serveManual FanPath.toSpinup
        rw [off]
        dsimp only
        split
        · exact nofun
        · exact nofun
      exact left (by rw [h]; exact off)
    · obtain rfl := Option.some.inj hd'
      have taken := FanPath.serve_takesDuty (p := p) hm
      rw [h] at taken
      refine ⟨fun e => ?_, fun e => ?_, fun e => ?_, fun e => (taken (by tauto)).2⟩
      · exact absurd ((taken (by tauto)).1.symm.trans e) nofun
      · exact absurd ((taken (by tauto)).1.symm.trans e) nofun
      · exact absurd ((taken (by tauto)).1.symm.trans e) nofun
    · obtain ⟨n1, n2, n3, duty⟩ := h5 d rfl
      have same : ({ p with target := v.target } : FanPath) = p := by rw [← h1]
      have goes : p.serveManual v d = p := by
        unfold FanPath.serveManual
        cases e : p.state with
        | off => exact absurd e h3
        | regulating => exact absurd e n1
        | saturated => exact absurd e n2
        | hold => exact absurd e n3
        | manual => simp [← duty e, ← e]
        | failed => rfl
        | _ => simp [pos.ne']
      rw [FanPath.serve_manual hm, same, goes]
      exact h2

/-- The heater rests, and both paths are driven and serve what they are asked to. -/
structure State.Steady (s : State) : Prop where
  rest : s.atRest
  fixed : ∀ i, (s.afc.path i).serve (s.serveArgs i) = s.afc.path i
  driven : ∀ i, 0 < s.driveRequest i

theorem State.Steady.path (h : s.Steady) (i : PathId) : (s.afc.path i).target = (s.serveArgs i).target
    ∧ (s.afc.path i).lapse (s.setting 23) = s.afc.path i ∧ (s.afc.path i).state ≠ .off
    ∧ ((s.serveArgs i).manual = none → (s.afc.path i).state ≠ .manual)
    ∧ (∀ d, (s.serveArgs i).manual = some d → (s.afc.path i).state ≠ .regulating ∧ (s.afc.path i).state ≠ .saturated
      ∧ (s.afc.path i).state ≠ .hold ∧ ((s.afc.path i).state = .manual → (s.afc.path i).duty = d)) := by
  have driven := h.driven i
  rw [State.driveRequest_eq] at driven
  exact (FanPath.serve_fixed_iff driven).mp (h.fixed i)

/-- Paths asked for the same are as steady, once each serves it. -/
theorem State.Steady.of_sameAims (h : s.Steady) (g : s.SameAims t) (loss : t.extractLoss = s.extractLoss)
    (fixed : ∀ i, (t.afc.path i).serve (t.serveArgs i) = t.afc.path i) : t.Steady := by
  refine ⟨g.heater h.rest, fixed, fun i => ?_⟩
  obtain ⟨target, manual, -⟩ := g.serveArgs loss i
  rw [State.driveRequest_eq, target, manual, ← State.driveRequest_eq]
  exact h.driven i

theorem State.Steady.of_paths (h : s.Steady) (g : s.SameAims t) (paths : ∀ i, t.afc.path i = s.afc.path i) : t.Steady := by
  have loss : t.extractLoss = s.extractLoss := by
    have extract := paths .extract
    unfold State.extractLoss
    rw [show t.afc.extract = s.afc.extract from extract]
  refine h.of_sameAims g loss fun i => ?_
  obtain ⟨-, -, off, -⟩ := h.path i
  rw [paths, FanPath.serve_alike (g.serveArgs loss i) off, h.fixed]

theorem State.Steady.stagedRound (h : s.Steady) : s.stagedRound.Steady ∧ ∀ i, s.stagedRound.afc.path i = s.afc.path i := by
  have afc : s.stagedRound.afc = s.serveFans.afc := by rw [State.stagedRound, State.deriveStage_afc, State.round_atRest h.rest]
  have extract : s.serveFans.afc.path .extract = s.afc.path .extract := s.serveFans_extract.trans (h.fixed .extract)
  have first : (s.servePath .extract).Steady := by
    refine h.of_paths (State.Rests.movePath s _ _).sameAims fun i => ?_
    rw [State.servePath, h.fixed, State.movePath_afc]
    cases i <;> rfl
  have between : (s.servePath .extract).afc.path .supply = s.afc.path .supply := by
    rw [State.servePath, State.movePath_afc]
    rfl
  have supply : s.serveFans.afc.path .supply = s.afc.path .supply := by
    have served := first.fixed .supply
    rw [between] at served
    exact s.serveFans_supply.trans served
  have paths (i : PathId) : s.stagedRound.afc.path i = s.afc.path i := by
    rw [afc]
    cases i
    · exact supply
    · exact extract
  exact ⟨h.of_paths (State.Rests.stagedRound h.rest).sameAims paths, paths⟩

/-- Nothing moves a steady path. -/
theorem State.Steady.propagate (h : s.Steady) : s.propagate.Steady ∧ ∀ i, s.propagate.afc.path i = s.afc.path i := by
  have start : s.deriveStage.Steady := h.of_paths (State.Rests.deriveStage s).sameAims fun i => by rw [State.deriveStage_afc]
  have afc := s.deriveStage_afc
  unfold State.propagate
  generalize s.deriveStage = a at *
  obtain ⟨first, paths1⟩ := start.stagedRound
  generalize a.stagedRound = b at *
  obtain ⟨second, paths2⟩ := first.stagedRound
  generalize b.stagedRound = c at *
  obtain ⟨third, paths3⟩ := second.stagedRound
  generalize c.stagedRound = d at *
  obtain ⟨fourth, paths4⟩ := third.stagedRound
  exact ⟨fourth, fun i => by rw [paths4, paths3, paths2, paths1, afc]⟩

/-! ### A second of a steady path -/

theorem State.sensedPath_kept (s : State) (i : PathId) (n : Reading) (w : Nat) : (s.sensedPath i n w).duty = (s.afc.path i).duty
    ∧ (s.sensedPath i n w).spinupTime = (s.afc.path i).spinupTime ∧ (s.sensedPath i n w).retryTime = (s.afc.path i).retryTime
    ∧ (s.sensedPath i n w).goodTime = (s.afc.path i).goodTime ∧ (s.sensedPath i n w).goodTiming = (s.afc.path i).goodTiming
    ∧ (s.sensedPath i n w).stallTime = (s.afc.path i).stallTime := by
  obtain ⟨-, -, -, -, duty, spin, retry, good, timing, stall⟩ := (s.afc.path i).nozzled_kept s.osc.zeroReading n
  exact ⟨duty, spin, retry, good, timing, stall⟩

/-- A path's state as its nozzle is read: a recovery ends HOLD and a fault brings it about (R24, R35). -/
theorem State.sensedPath_state (s : State) (i : PathId) (n : Reading) (w : Nat) : (s.sensedPath i n w).state = (s.afc.path i).state
    ∨ (s.afc.path i).state = .hold ∧ (s.sensedPath i n w).state = .regulating
    ∨ (s.afc.path i).state.regulates = true ∧ (s.sensedPath i n w).state = .hold := by
  have shown : (s.sensedPath i n w).state = ((s.afc.path i).nozzled s.osc.zeroReading n).state := rfl
  rw [shown]
  cases h : readingValid (-50) 550 n with
  | false =>
    rw [FanPath.nozzled_invalid h]
    dsimp only
    split
    · next on => exact .inr (.inr ⟨on.2, rfl⟩)
    · exact .inl rfl
  | true =>
    cases n with
    | incomplete => cases h
    | value v =>
      obtain ⟨h1, h2⟩ : -50 ≤ v ∧ v ≤ 550 := by simpa [readingValid] using h
      rw [FanPath.nozzled_valid rfl h1 h2]
      dsimp only
      split
      · next on => exact .inr (.inl ⟨on.2, rfl⟩)
      · exact .inl rfl

theorem FanPath.loop_regulates (h : p.state.regulates = true) (g m : Nat) : (p.loop g m).state.regulates = true := by
  unfold FanPath.loop
  split
  · dsimp only
    split <;> rfl
  · exact h

/-- What the update of a second makes of a path's state and duty. -/
theorem State.secondPath_state (s : State) (r : SecondReadings) (i : PathId) :
    ((s.afc.path i).state.regulates = false → (s.afc.path i).state ≠ .hold →
      (s.secondPath r i).state = (s.afc.path i).state ∧ (s.secondPath r i).duty = (s.afc.path i).duty)
    ∧ ((s.afc.path i).state.regulates = true ∨ (s.afc.path i).state = .hold →
      (s.secondPath r i).state.regulates = true ∨ (s.secondPath r i).state = .hold) := by
  obtain ⟨-, -, duty, state⟩ := s.secondPath_eq r i
  obtain ⟨kept, -⟩ := s.sensedPath_kept i (nozzleReading r i) (pulseCount r i)
  have sensed := s.sensedPath_state i (nozzleReading r i) (pulseCount r i)
  rw [state, duty]
  generalize s.sensedPath i (nozzleReading r i) (pulseCount r i) = x at *
  refine ⟨fun still unheld => ?_, fun moves => ?_⟩
  · have same : x.state = (s.afc.path i).state := by
      rcases sensed with h | ⟨h, -⟩ | ⟨h, -⟩
      · exact h
      · exact absurd h unheld
      · rw [still] at h
        cases h
    rw [FanPath.loop_still (by rw [same]; exact still)]
    exact ⟨same, kept⟩
  · have either : x.state.regulates = true ∨ x.state = .hold := by
      rcases sensed with h | ⟨-, h⟩ | ⟨-, h⟩
      · rw [h]; exact moves
      · exact .inl (by rw [h]; rfl)
      · exact .inr h
    rcases either with h | h
    · exact .inl (FanPath.loop_regulates h _ _)
    · rw [FanPath.loop_still (by rw [h]; rfl)]
      exact .inr h

/-- The update of a second neither stalls a path nor ends a stall. -/
theorem State.secondPath_lost (s : State) (r : SecondReadings) (i : PathId) :
    ((s.secondPath r i).state = .stalled ∨ (s.secondPath r i).state = .failed)
      ↔ ((s.afc.path i).state = .stalled ∨ (s.afc.path i).state = .failed) := by
  obtain ⟨still, moves⟩ := s.secondPath_state r i
  have runs (x : PathState) (hx : x.regulates = true ∨ x = .hold) : ¬ (x = .stalled ∨ x = .failed) := by
    cases x <;> simp [PathState.regulates] at hx ⊢
  by_cases on : (s.afc.path i).state.regulates = true ∨ (s.afc.path i).state = .hold
  · exact iff_of_false (runs _ (moves on)) (runs _ on)
  · rw [(still (Bool.eq_false_iff.mpr fun e => on (.inl e)) fun e => on (.inr e)).1]

theorem FanPath.shortCond_iff (p : FanPath) : p.shortCond = true
    ↔ p.state = .saturated ∧ ∃ q goal, p.flow = some q ∧ p.target = some goal ∧ q * 100 < goal * 90 := by
  unfold FanPath.shortCond
  split
  · next hs hq ht => simp [hs, hq, ht]
  · next h =>
    refine ⟨nofun, fun ⟨hs, q, goal, hq, ht, _⟩ => absurd ht (h q goal hs hq)⟩

theorem FanPath.stallCond_iff (p : FanPath) (k : Nat) :
    p.stallCond k = true ↔ p.state.stallChecked = true ∧ 200 ≤ p.duty ∧ p.speed < k := by
  simp [FanPath.stallCond, and_assoc]

/-- A sensor's fault takes the shortfall from a path that regulates no more (R24). -/
theorem State.sensedPath_short (s : State) (i : PathId) (n : Reading) (w : Nat) :
    (s.sensedPath i n w).shortfallTime = (s.afc.path i).shortfallTime
        ∧ (s.sensedPath i n w).shortfallStanding = (s.afc.path i).shortfallStanding
      ∨ (s.sensedPath i n w).state.regulates = false := by
  cases h : readingValid (-50) 550 n with
  | false =>
    cases hf : (s.afc.path i).faulted with
    | false => exact .inr ((s.sensedPath_invalid w h).2.2.2.2 hf)
    | true =>
      left
      unfold State.sensedPath
      rw [FanPath.nozzled_invalid h, hf]
      exact ⟨rfl, rfl⟩
  | true =>
    left
    cases n with
    | incomplete => cases h
    | value v =>
      obtain ⟨h1, h2⟩ : -50 ≤ v ∧ v ≤ 550 := by simpa [readingValid] using h
      unfold State.sensedPath
      rw [FanPath.nozzled_valid rfl h1 h2]
      exact ⟨rfl, rfl⟩

theorem PathState.stallChecked_iff (x : PathState) : x.stallChecked = true ↔ x.regulates = true ∨ x = .hold ∨ x = .manual := by
  cases x <;> decide

/-- The times of a path after the update of a second (R33, R38, R39, R42). -/
theorem State.secondPath_times (s : State) (r : SecondReadings) (i : PathId) (hl : (s.afc.path i).lapse (s.setting 23) = s.afc.path i)
    {q : FanPath} (hq : q = s.secondPath r i) :
    ((s.afc.path i).state = .spinup → q.state = .spinup ∧ q.duty = (s.afc.path i).duty
      ∧ q.spinupTime = min ((s.afc.path i).spinupTime + 1) 15)
    ∧ ((s.afc.path i).state = .stalled → q.state = .stalled ∧ q.retryTime = (s.afc.path i).retryTime - 1)
    ∧ q.goodTiming = (s.afc.path i).goodTiming
    ∧ ((s.afc.path i).goodTiming = true → (s.afc.path i).state.stallChecked = true →
      q.goodTime = if s.setting 23 ≤ q.speed then min ((s.afc.path i).goodTime + 1) 10 else 0)
    ∧ ((s.afc.path i).stallCond (s.setting 23) = true → q.stallCond (s.setting 23) = true →
      q.stallTime = min ((s.afc.path i).stallTime + 1) 10)
    ∧ ((s.afc.path i).stallCond (s.setting 23) = false ∨ q.stallCond (s.setting 23) = false → q.stallTime = 0)
    ∧ ((s.afc.path i).shortCond = false ∨ q.shortCond = false → q.shortfallTime = 0 ∧ q.shortfallStanding = false)
    ∧ ((s.afc.path i).shortCond = true → q.shortCond = true → q.shortfallStanding = (s.afc.path i).shortfallStanding
      ∧ q.shortfallTime = if (s.afc.path i).shortfallStanding = true then (s.afc.path i).shortfallTime
        else min ((s.afc.path i).shortfallTime + 1) 60) := by
  obtain ⟨still, moves⟩ := s.secondPath_state r i
  obtain ⟨-, -, -, state⟩ := s.secondPath_eq r i
  obtain ⟨-, spin, retry, good, timing, stall⟩ := s.sensedPath_kept i (nozzleReading r i) (pulseCount r i)
  have sensed := s.sensedPath_state i (nozzleReading r i) (pulseCount r i)
  have short := s.sensedPath_short i (nozzleReading r i) (pulseCount r i)
  obtain ⟨a, b, c, eq, ha, hb, hc⟩ := (s.sensedPath i (nozzleReading r i) (pulseCount r i)).second_eq (s.afc.path i)
    (s.setting 20) (s.setting 21) (s.setting 23)
  change s.secondPath r i = _ at eq
  change a = (if (s.secondPath r i).stallCond _ = true then _ else _) at ha
  change b = (if (s.secondPath r i).shortCond = true then _ else _) at hb
  change c = ((s.secondPath r i).shortCond && _) at hc
  rw [← hq] at still moves state eq ha hb hc
  generalize s.sensedPath i (nozzleReading r i) (pulseCount r i) = x at *
  generalize s.afc.path i = p at *
  obtain ⟨noStall, noShort⟩ := (p.lapse_fixed_iff _).mp hl
  have same (h : p.state.regulates = false) (h' : p.state ≠ .hold) : x.state = p.state := by
    rcases sensed with e | ⟨e, -⟩ | ⟨e, -⟩
    · exact e
    · exact absurd e h'
    · rw [h] at e
      cases e
  have spinTime := congrArg FanPath.spinupTime eq
  have retryTime := congrArg FanPath.retryTime eq
  have goodTiming := congrArg FanPath.goodTiming eq
  have goodTime := congrArg FanPath.goodTime eq
  have speed := congrArg FanPath.speed eq
  have stallTime := (congrArg FanPath.stallTime eq).trans ha
  have shortTime := (congrArg FanPath.shortfallTime eq).trans hb
  have standing := (congrArg FanPath.shortfallStanding eq).trans hc
  dsimp only at spinTime retryTime goodTiming goodTime speed
  have unmoved (hs : q.shortCond = true) : x.shortfallTime = p.shortfallTime ∧ x.shortfallStanding = p.shortfallStanding := by
    rcases short with h | h
    · exact h
    · have stays : q.state.regulates = false := by rw [state, FanPath.loop_still h, h]
      rw [((FanPath.shortCond_iff q).mp hs).1] at stays
      cases stays
  refine ⟨fun h => ?_, fun h => ?_, goodTiming.trans timing, fun h hs => ?_, fun h h' => ?_, fun h => ?_, fun h => ?_, fun h h' => ?_⟩
  · obtain ⟨hst, hdu⟩ := still (by rw [h]; rfl) (by rw [h]; exact nofun)
    have here := same (by rw [h]; rfl) (by rw [h]; exact nofun)
    exact ⟨hst.trans h, hdu, spinTime.trans (by rw [if_pos (here.trans h), spin])⟩
  · obtain ⟨hst, -⟩ := still (by rw [h]; rfl) (by rw [h]; exact nofun)
    have here := same (by rw [h]; rfl) (by rw [h]; exact nofun)
    exact ⟨hst.trans h, retryTime.trans (by rw [if_pos (here.trans h), retry])⟩
  · have checked : q.state.stallChecked = true := by
      rw [PathState.stallChecked_iff] at hs ⊢
      by_cases on : p.state.regulates = true ∨ p.state = .hold
      · exact (moves on).imp_right .inl
      · have off : p.state.regulates = false := Bool.eq_false_iff.mpr fun e => on (.inl e)
        rw [(still off fun e => on (.inr e)).1]
        exact hs
    rw [goodTime, speed, if_pos ⟨timing.trans h, by rw [← state]; exact checked⟩, good]
  · rw [stallTime, if_pos h', if_pos h, stall]
  · rw [stallTime, stall]
    rcases h with h | h
    · rw [h, noStall h]
      split <;> rfl
    · rw [h]
      rfl
  · rw [shortTime, standing]
    rcases h with h | h
    · cases hs : q.shortCond
      · exact ⟨rfl, rfl⟩
      · obtain ⟨time, stands⟩ := unmoved hs
        obtain ⟨time', stands'⟩ := noShort h
        rw [time, stands, time', stands', h]
        exact ⟨rfl, rfl⟩
    · rw [h]
      exact ⟨rfl, rfl⟩
  · obtain ⟨time, stands⟩ := unmoved h'
    rw [shortTime, standing, h', h, time, stands]
    cases p.shortfallStanding <;> exact ⟨rfl, rfl⟩

theorem State.Steady.secondPath (h : s.Steady) (r : SecondReadings) (i : PathId) :
    (s.secondPath r i).serve (s.serveArgs i) = s.secondPath r i ∧ (s.secondPath r i).state ≠ .off := by
  obtain ⟨target, lapse, off, unmanned, manned⟩ := h.path i
  obtain ⟨-, goal, -⟩ := s.secondPath_eq r i
  obtain ⟨still, moves⟩ := s.secondPath_state r i
  obtain ⟨-, -, -, -, -, stall, short, -⟩ := s.secondPath_times r i lapse rfl
  have driven := h.driven i
  rw [State.driveRequest_eq] at driven
  have lapsed : (s.secondPath r i).lapse (s.serveArgs i).stallSpeed = s.secondPath r i :=
    (FanPath.lapse_fixed_iff _ _).mpr ⟨fun hc => stall (.inr hc), fun hc => short (.inr hc)⟩
  rw [FanPath.serve_fixed_iff driven]
  generalize s.secondPath r i = q at *
  generalize s.afc.path i = p at *
  by_cases on : p.state.regulates = true ∨ p.state = .hold
  · have goes := moves on
    have neither : q.state ≠ .off ∧ q.state ≠ .manual := by
      rcases goes with e | e
      · exact ⟨fun h => (by rw [h] at e; cases e), fun h => (by rw [h] at e; cases e)⟩
      · rw [e]
        exact ⟨nofun, nofun⟩
    refine ⟨⟨goal.trans target, lapsed, neither.1, fun _ => neither.2, fun d hd => ?_⟩, neither.1⟩
    obtain ⟨n1, n2, n3, -⟩ := manned d hd
    rcases on with e | e
    · cases hp : p.state
      case regulating => exact absurd hp n1
      case saturated => exact absurd hp n2
      all_goals rw [hp] at e; cases e
    · exact absurd e n3
  · have state := (still (Bool.eq_false_iff.mpr fun e => on (.inl e)) fun e => on (.inr e))
    rw [state.1, state.2]
    exact ⟨⟨goal.trans target, lapsed, off, unmanned, manned⟩, off⟩

/-! ### The stages of a second with the heater at rest -/

theorem State.SameAims.of_blocks (ho : t.osc = s.osc) (ha : t.arb = s.arb) (hi : t.frg.imbalance = s.frg.imbalance)
    (hq : t.frg.request = s.frg.request) (hp : t.frg.applied = s.frg.applied) (hr : t.frg.runOn = s.frg.runOn)
    (hl : t.flt.startTestDue = s.flt.startTestDue) : s.SameAims t := by
  refine ⟨by rw [ho], by rw [ho], by rw [ha], fun x => by rw [ha], hi, fun ⟨h1, h2, h3, h4⟩ => ?_, hr⟩
  exact ⟨hq.trans h1, hp.trans h2, hr.trans h3, hl.trans h4⟩

theorem State.SameAims.faultEvent (s : State) (g : Flag) (x : Nat) (v : Int) : s.SameAims (s.faultEvent g x v) := by
  refine .of_blocks (s.faultEvent_osc g x v) (s.faultEvent_arb g x v) ?_ ?_ ?_ ?_ ?_ <;> simp

theorem State.SameAims.movePath (s : State) (i : PathId) (p : FanPath) : s.SameAims (s.movePath i p) :=
  (State.Rests.movePath s i p).sameAims

theorem State.SameAims.sensePath (s : State) (i : PathId) (n : Reading) (w : Nat) : s.SameAims (s.sensePath i n w) := by
  have read : s.SameAims (s.readNozzle i n) := by
    unfold State.readNozzle
    extract_lets p q w
    split
    · exact .movePath _ _ _
    · split
      · exact .movePath _ _ _
      · exact (State.SameAims.faultEvent s _ _ _).trans (.movePath _ _ _)
  exact read.trans (.movePath _ _ _)

theorem State.SameAims.airRead (s : State) (r : SecondReadings) : s.SameAims (s.airRead r) :=
  (((State.SameAims.sensePath s _ _ _).trans (.sensePath _ _ _ _)).trans (.movePath _ _ _)).trans (.movePath _ _ _)

theorem State.SameAims.countSecond (h : s.atRest) : s.SameAims s.countSecond := by
  obtain ⟨-, osc, -, frg, flt, -, -, -, arb⟩ := s.countSecond_frame
  have carries := s.countSecond_carries
  obtain ⟨request, applied, runOn, due⟩ := h
  generalize s.countSecond = c at *
  have active : c.arb.active = s.arb.active := by
    rw [arb]
    split
    · unfold Arb.countRun
      repeat' split
      all_goals rfl
    · rfl
  have rested : c.frg.runOn = s.frg.runOn := by
    rw [frg]
    change s.frg.runOn - 1 = s.frg.runOn
    rw [runOn]
  refine ⟨by rw [osc]; rfl, by rw [osc]; rfl, active, carries, by rw [frg]; rfl, fun _ => ⟨?_, ?_, rested.trans runOn, ?_⟩, rested⟩
  · rw [frg]; exact request
  · rw [frg]; exact applied
  · rw [flt]
    unfold Flt.serviceSecond
    split <;> exact due

theorem State.SameAims.readTemp (s : State) (i : TempId) (n : TempReading) : s.SameAims (s.readTemp i n) := by
  have set (c : TempChannel) : s.SameAims (s.updFrg (·.setChannel i c)) := by
    refine .of_blocks rfl rfl ?_ ?_ ?_ ?_ rfl <;> cases i <;> rfl
  have regime (u : State) (b : Regime) : u.SameAims (u.afterRegime b) := by
    obtain ⟨d, eq⟩ := u.afterRegime_eq b
    rw [eq]
    exact .of_blocks rfl rfl rfl rfl rfl rfl rfl
  have leaves (u : State) : u.SameAims u.confirmExit := by
    rw [State.confirmExit_eq]
    split
    · exact .of_blocks rfl rfl rfl rfl rfl rfl rfl
    · exact .refl u
  have read : s.SameAims (if ((s.frg.channel i).take n).2 then
      (s.updFrg (·.setChannel i ((s.frg.channel i).take n).1)).faultEvent .tempFault (tempCode i) (tempRaw n)
      else s.updFrg (·.setChannel i ((s.frg.channel i).take n).1)) := by
    split
    · exact (set _).trans (.faultEvent _ _ _ _)
    · exact set _
  unfold State.readTemp
  dsimp only
  generalize (if ((s.frg.channel i).take n).2 = true then _ else _ : State) = u at *
  have followed := read.trans (regime u s.frg.regime)
  split
  · exact followed.trans (leaves _)
  · exact followed

theorem State.SameAims.countRecords (s : State) : s.SameAims s.countRecords := by
  have defrost (u : State) : u.SameAims u.defrostSecond := by
    have kept (f : Defrost → Defrost) (w : State) : w.SameAims (w.updDefrost f) := .of_blocks rfl rfl rfl rfl rfl rfl rfl
    unfold State.defrostSecond
    extract_lets d counting counts elapsed confirm
    split
    case h_1 | h_2 =>
      split
      · exact .refl u
      · split
        · exact kept _ u
        · split
          · exact kept _ u
          · rw [State.confirmEntry_eq]
            split
            · exact (kept _ u).trans (kept _ _)
            · exact kept _ u
    case h_3 => exact kept _ u
    all_goals exact .refl u
  have check (u : State) : u.SameAims u.checkSecond := .of_blocks rfl rfl rfl rfl rfl rfl rfl
  have hours (u : State) : u.SameAims u.accumulate := by
    unfold State.accumulate Flt.runSecond
    split
    · refine .of_blocks rfl rfl rfl rfl rfl rfl ?_
      rw [State.updFlt_flt]
      split <;> rfl
    · exact .refl u
  exact ((defrost s).trans (check _)).trans (hours _)

/-- A filter reading in range of a sensor that is not FAULTED (R119). -/
theorem State.readFilter_quiet (s : State) (i : PathId) {n : Reading} (hn : readingValid (-50) 1050 n = true)
    (hs : (s.flt.filter i).sensor ≠ .faulted) : ∃ f, s.readFilter i n = s.updFlt (·.setFilter i f) := by
  have sensor := (s.flt.filter i).zeroed_sensor s.osc.zeroReading n
  unfold State.readFilter
  dsimp only
  generalize (if s.osc.zeroReading = true then (s.flt.filter i).addZero n else s.flt.filter i) = f at *
  rw [if_pos hn, sensor, if_neg hs]
  exact ⟨_, rfl⟩

theorem State.SameAims.readFilter (i : PathId) {n : Reading} (hn : readingValid (-50) 1050 n = true)
    (hs : (s.flt.filter i).sensor ≠ .faulted) : s.SameAims (s.readFilter i n) := by
  obtain ⟨f, eq⟩ := s.readFilter_quiet i hn hs
  rw [eq]
  refine .of_blocks rfl rfl rfl rfl rfl rfl ?_
  rw [State.updFlt_flt]
  cases i <;> rfl

/-- A second of steady paths leaves them as their readings and their update have set them. -/
theorem State.Steady.second (h : s.Steady) (hs : readingValid (-50) 1050 r.supplyFilter = true)
    (he : readingValid (-50) 1050 r.extractFilter = true) (ss : s.flt.supply.sensor ≠ .faulted) (se : s.flt.extract.sensor ≠ .faulted)
    (ht : t = (s.secondRead r).boostSecond.deriveHumidity.propagate) (i : PathId) :
    s.countSecond.Steady ∧ t.afc.path i = s.countSecond.secondPath r i := by
  have shown : s.secondRead r = (((s.countSecond.airRead r).propagate.readTemps r).readFilters r).countRecords := rfl
  have counted : s.countSecond.Steady := by
    obtain ⟨-, -, afc, -⟩ := s.countSecond_frame
    exact h.of_paths (.countSecond h.rest) fun j => by rw [afc]
  have unread : s.Unread (s.countSecond.airRead r).propagate := s.countSecond_unread.trans (.airSecond s.countSecond r)
  rw [shown] at ht
  generalize s.countSecond = c at *
  have read : (c.airRead r).Steady ∧ ∀ j, (c.airRead r).afc.path j = c.secondPath r j := by
    have aims := State.SameAims.airRead c r
    have paths := c.airRead_path r
    generalize c.airRead r = a at *
    have loss : a.extractLoss = c.extractLoss := by
      have extract : a.afc.extract = c.secondPath r .extract := paths .extract
      rw [Bool.eq_iff_iff, State.extractLoss_iff, State.extractLoss_iff, extract]
      exact c.secondPath_lost r .extract
    refine ⟨counted.of_sameAims aims loss fun j => ?_, paths⟩
    obtain ⟨fixed, off⟩ := counted.secondPath r j
    rw [paths, FanPath.serve_alike (aims.serveArgs loss j) off, fixed]
  refine ⟨counted, ?_⟩
  obtain ⟨steady, paths⟩ := read
  rw [← paths]
  generalize c.airRead r = a at *
  obtain ⟨steady1, paths1⟩ := steady.propagate
  rw [← paths1]
  generalize a.propagate = b at *
  have temps : (b.readTemps r).Steady ∧ (b.readTemps r).afc = b.afc := by
    have aims : b.SameAims (b.readTemps r) :=
      (((State.SameAims.readTemp b _ _).trans (.readTemp _ _ _)).trans (.readTemp _ _ _)).trans (.readTemp _ _ _)
    have afc : (b.readTemps r).afc = b.afc := by
      unfold State.readTemps
      rw [State.readTemp_afc, State.readTemp_afc, State.readTemp_afc, State.readTemp_afc]
    exact ⟨steady1.of_paths aims fun j => by rw [afc], afc⟩
  obtain ⟨steady2, afc2⟩ := temps
  obtain ⟨-, flt, -⟩ := b.readTemps_takes r
  rw [← afc2]
  have sensor (j : PathId) : ((b.readTemps r).flt.filter j).sensor = (s.flt.filter j).sensor := by
    rw [flt, (unread.filters j).sensor]
  generalize b.readTemps r = d at *
  have filter (u : State) (j : PathId) (n : Reading) (hu : u.Steady) (hn : readingValid (-50) 1050 n = true)
      (hj : (u.flt.filter j).sensor ≠ .faulted) : (u.readFilter j n).propagate.Steady
        ∧ ∀ k, (u.readFilter j n).propagate.afc.path k = u.afc.path k := by
    have afc := u.readFilter_afc j n
    obtain ⟨steady, paths⟩ := (hu.of_paths (.readFilter j hn hj) fun k => by rw [afc]).propagate
    exact ⟨steady, fun k => by rw [paths, afc]⟩
  obtain ⟨steady3, paths3⟩ := filter d .supply r.supplyFilter steady2 hs (by rw [sensor]; exact ss)
  have others := ((d.readFilter_takes .supply r.supplyFilter).then (State.Unread.of_settled (.propagate _))).others .extract (by decide)
  have kept : d.readFilters r = ((d.readFilter .supply r.supplyFilter).propagate.readFilter .extract r.extractFilter).propagate := rfl
  rw [kept] at ht
  rw [← paths3]
  generalize (d.readFilter .supply r.supplyFilter).propagate = e at *
  obtain ⟨steady4, paths4⟩ := filter e .extract r.extractFilter steady3 he (by rw [others.sensor, sensor]; exact se)
  rw [← paths4]
  generalize (e.readFilter .extract r.extractFilter).propagate = f at *
  have recorded := steady4.of_paths (.countRecords f) fun k => by rw [f.countRecords_afc]
  rw [← f.countRecords_afc]
  generalize f.countRecords = g at *
  obtain ⟨frg, flt', afc, arb, osc, -⟩ := g.boosted_frame
  rw [← afc]
  have aims : g.SameAims g.boostSecond.deriveHumidity :=
    .of_blocks osc arb (by rw [frg]) (by rw [frg]) (by rw [frg]) (by rw [frg]) (by rw [flt'])
  have last := (recorded.of_paths aims fun k => by rw [afc]).propagate.2 i
  generalize g.boostSecond.deriveHumidity = x at *
  rw [ht]
  exact last

/-- What a second's readings go by is as it was before the countdowns. -/
theorem State.countSecond_air (s : State) : s.countSecond.afc = s.afc ∧ s.countSecond.osc.device = s.osc.device
    ∧ (∀ n, s.countSecond.setting n = s.setting n) ∧ (∀ n, s.countSecond.inUse n = s.inUse n) := by
  obtain ⟨-, osc, afc, -⟩ := s.countSecond_frame
  have working : s.countSecond.osc.working = s.osc.working := by rw [osc]; rfl
  have inUse : s.countSecond.osc.inUse = s.osc.inUse := by rw [osc]; rfl
  exact ⟨afc, by rw [osc]; rfl, fun n => by rw [State.setting, State.setting, working],
    fun n => by rw [State.inUse, State.inUse, inUse]⟩

theorem measuredFlow_root {k root : Nat} {v zero : Int} (h2 : v ≤ 550) (low : -20 ≤ zero)
    (hr : root * root ≤ 100 * (v - zero).toNat) (hr' : 100 * (v - zero).toNat < (root + 1) * (root + 1)) :
    measuredFlow k (v - zero).toNat = min 999 ((k * root + 500) / 1000) := by
  have bound : (v - zero).toNat ≤ 570 := by omega
  rw [measuredFlow, isqrt_of (by omega) hr hr']

/-- The part of a second that stands of a path with a valid reading (R24 to R26, R34). -/
theorem State.second_valid {n : Reading} {v : Int} (ht : t = (s.secondRead r).boostSecond.deriveHumidity.propagate)
    (hn : nozzleReading r i = n) (hv : n = .value v) (h1 : -50 ≤ v) (h2 : v ≤ 550) :
    (t.afc.path i).faulted = false
    ∧ (s.osc.device.zeroing = false → (t.afc.path i).flow
      = some (measuredFlow (s.setting (18 + pathCode i)) (v - (s.afc.path i).zeroOffset).toNat))
    ∧ (∀ q target, s.osc.device.zeroing = false → s.arb.table.manual = none →
      (s.afc.path i).state.regulates = true → (s.afc.path i).target = some target → (t.afc.path i).flow = some q →
      (t.afc.path i).state.regulates = true →
      ((t.afc.path i).duty : Int) = (clampI ((s.afc.path i).duty
          + clampI ((((target : Int) - q) * s.setting 20).tdiv 100) (-50) 50) (s.setting 21) 1000)
        ∧ ((t.afc.path i).state = .saturated ↔ (t.afc.path i).duty = 1000 ∧ q < target))
    ∧ (t.afc.path i).zeroFault = (s.afc.path i).zeroFault
    ∧ (t.afc.path i).zeroSum = (s.afc.path i).zeroSum
      + if s.osc.device.zeroing = true ∧ 10 ≤ s.osc.stoppedSecs ∧ s.osc.stoppedSecs < 18 then v else 0 := by
  obtain ⟨afc, device, setting, -⟩ := s.countSecond_air
  have zeroReading := s.countSecond_zeroReading
  obtain ⟨⟨flow, -, faulted, -, -, zeroSum, zeroFault, -⟩, steps, -⟩ := State.second_path (i := i) ht rfl
  obtain ⟨⟨flow', -, faulted', -, -, zeroSum', zeroFault', -⟩, goal, duty, state⟩ := s.countSecond.secondPath_eq r i
  generalize s.countSecond = c at *
  obtain ⟨sound, measured, zfault, zsum, kept, stays⟩ := c.sensedPath_valid (i := i) (pulseCount r i) (hn.trans hv) h1 h2
  have target : (c.sensedPath i (nozzleReading r i) (pulseCount r i)).target = (c.afc.path i).target :=
    ((c.afc.path i).nozzled_kept c.osc.zeroReading (nozzleReading r i)).2.2.2.1
  rw [device, setting, afc] at measured
  rw [afc] at zfault zsum kept stays target
  refine ⟨by rw [faulted, faulted', sound], fun hz => by rw [flow, flow', measured hz], fun q x hz hm hreg hx hflow hreg' => ?_,
    by rw [zeroFault, zeroFault', zfault], ?_⟩
  · rw [flow, flow'] at hflow
    obtain ⟨step, saturated, unmanned⟩ := FanPath.loop_steps (by rw [stays hreg]; exact hreg) hflow (target.trans hx)
      (c.setting 20) (c.setting 21)
    obtain ⟨duty', state'⟩ := steps hm (by rw [state]; exact unmanned) hreg'
    rw [setting, setting] at step saturated duty state
    rw [duty', state', duty, state]
    exact ⟨step.trans (by rw [kept]), saturated⟩
  · rw [zeroSum, zeroSum', zsum, zeroReading]
    simp only [decide_eq_true_eq]

/-- The part of a second that stands of a path with a fault reading (R24, R25). -/
theorem State.second_invalid (ht : t = (s.secondRead r).boostSecond.deriveHumidity.propagate)
    (hn : readingValid (-50) 550 (nozzleReading r i) = false) : (t.afc.path i).faulted = true
    ∧ (s.osc.device.zeroing = false → (t.afc.path i).flow = none)
    ∧ (t.afc.path i).zeroSum = (s.afc.path i).zeroSum
    ∧ (t.afc.path i).zeroFault = ((s.afc.path i).zeroFault
      || decide (s.osc.device.zeroing = true ∧ 10 ≤ s.osc.stoppedSecs ∧ s.osc.stoppedSecs < 18))
    ∧ ((s.afc.path i).faulted = false → (t.afc.path i).state.regulates = false) := by
  obtain ⟨afc, device, -⟩ := s.countSecond_air
  have zeroReading := s.countSecond_zeroReading
  obtain ⟨⟨flow, -, faulted, -, -, zeroSum, zeroFault, -⟩, -, blind⟩ := State.second_path (i := i) ht rfl
  obtain ⟨⟨flow', -, faulted', -, -, zeroSum', zeroFault', -⟩, -, -, state⟩ := s.countSecond.secondPath_eq r i
  generalize s.countSecond = c at *
  obtain ⟨fault, absent, zsum, zfault, stops⟩ := c.sensedPath_invalid (i := i) (pulseCount r i) hn
  rw [device] at absent
  rw [afc] at zsum zfault stops
  refine ⟨by rw [faulted, faulted', fault], fun hz => by rw [flow, flow', absent hz], by rw [zeroSum, zeroSum', zsum],
    by rw [zeroFault, zeroFault', zfault, zeroReading], fun hf => blind (faulted'.trans fault) ?_⟩
  rw [state, FanPath.loop_still (stops hf)]
  exact stops hf

theorem readingValid_far {n : Reading} (far : n = .incomplete ∨ ∃ v, n = .value v ∧ (v < -50 ∨ 550 < v)) :
    readingValid (-50) 550 n = false := by
  rcases far with rfl | ⟨v, rfl, far⟩
  · rfl
  · simp only [readingValid, Bool.and_eq_false_iff, decide_eq_false_iff_not]
    omega

end Steady

end Sys2Proof.Machine

/-- Settles O30. -/
theorem tickDrivesPaths : Obligations.TickDrivesPaths := by
  unfold Obligations.TickDrivesPaths
  intro s r i n w hup hn hw low high
  obtain ⟨t, ht⟩ : ∃ t, t = (s.secondRead r).boostSecond.deriveHumidity.propagate := ⟨_, rfl⟩
  have reading : nozzleReading r i = n := by cases i <;> exact hn.symm
  have pulses : pulseCount r i = w := by cases i <;> exact hw.symm
  obtain ⟨afc, device, setting, inUse⟩ := s.countSecond_air
  obtain ⟨⟨flow, speed, -, offset, raw, -, -, count⟩, -⟩ := State.second_path (i := i) ht rfl
  obtain ⟨⟨flow', speed', -, offset', raw', -, -, count'⟩, -⟩ := s.countSecond.secondPath_eq r i
  obtain ⟨raw'', speed'', offset'', count'', zeroes⟩ := s.countSecond.sensedPath_shows i (nozzleReading r i) (pulseCount r i)
  rw [inUse] at speed''
  rw [afc] at offset'' count''
  rw [device] at zeroes
  refine ⟨t, (execUptimeTick_eq r hup).trans (congrArg Host.Outcome.next ht.symm), ?_, ?_, ?_, ?_, fun hz => ?_, fun v hv h1 h2 => ?_,
    fun far => ?_, fun rest all hs he ss se => ?_⟩
  · rw [raw, raw', raw'', reading]
  · rw [speed, speed', speed'', pulses]
  · rw [offset, offset', offset'']
  · rw [count, count', count'']
  · rw [flow, flow', zeroes hz]
  · obtain ⟨sound, measured, steps, zeroFault, zeroSum⟩ := State.second_valid ht reading hv h1 h2
    exact ⟨sound, fun root hz hr hr' => by rw [measured hz, measuredFlow_root h2 low hr hr'], steps, zeroFault, zeroSum⟩
  · have invalid : readingValid (-50) 550 (nozzleReading r i) = false := by rw [reading]; exact readingValid_far far
    obtain ⟨fault, absent, zeroSum, zeroFault, stops⟩ := State.second_invalid ht invalid
    refine ⟨fault, absent, zeroSum, zeroFault, fun hf => ?_⟩
    obtain ⟨flag, capture⟩ := State.second_nozzleFault invalid hf ht
    refine ⟨flag, stops hf, fun hi hc => ?_⟩
    subst hi
    rw [capture rfl hc, reading]
    cases n <;> rfl
  · have steady : s.Steady := ⟨rest, fun j => (all j).1, fun j => (all j).2⟩
    obtain ⟨counted, path⟩ := steady.second hs he ss se ht i
    have lapse := (steady.path i).2.1
    have times := s.countSecond.secondPath_times r i (by rw [afc, setting]; exact lapse) path
    rw [afc, setting] at times
    obtain ⟨spins, stands, timing, good, stall, noStall, noShort, short⟩ := times
    refine ⟨spins, stands, timing, good, fun was now hwas hnow => ?_, noShort, short, FanPath.shortCond_iff⟩
    rw [← FanPath.stallCond_iff, ← Bool.eq_iff_iff] at hwas hnow
    subst hwas hnow
    exact ⟨stall, noStall⟩

end
